-- ==== Sys2Proof/Word.lean ====
section
/-! DEFINITION. The bytes and words the lines and the table window carry, the numbers of the part's objects,
and the plainest arithmetic over them: saturation, rounding, and one-dimensional tables of fixed length. -/

namespace Sys2Proof

/-- One byte of a telegram (R130). -/
abbrev Byte := BitVec 8

/-- One 16-bit word of the table window (R168). -/
abbrev Word := BitVec 16

/-- A four-byte quantity of a telegram. -/
abbrev Long := BitVec 32

/-- A node number as a telegram header carries it: 0 to 62, and 63 for all nodes (R130). -/
abbrev Node := BitVec 6

/-- Hoses 1 to 8, held as 0 to 7 (R1). -/
abbrev HoseNo := Fin 8

/-- Tanks 1 to 6, held as 0 to 5 (R68). -/
abbrev TankNo := Fin 6

/-- Products 1 to 8, held as 0 to 7 (R67). -/
abbrev ProductNo := Fin 8

/-- Zones 1 to 4, held as 0 to 3 (R91). -/
abbrev ZoneNo := Fin 4

/-- Field nodes 1 to 62, held as 0 to 61 (R112). -/
abbrev DevNo := Fin 62

/-- Machine slots 0 to 1,023 (R46). -/
abbrev SlotNo := Fin 1024

/-- Pass rules 0 to 31 (R143). -/
abbrev RuleNo := Fin 32

def hoseNos : List HoseNo := [0, 1, 2, 3, 4, 5, 6, 7]
def tankNos : List TankNo := [0, 1, 2, 3, 4, 5]
def zoneNos : List ZoneNo := [0, 1, 2, 3]

/-- The entry at index `i`. -/
def nth {α : Type} {n : Nat} (v : Vector α n) (i : Fin n) : α := v[i]

/-- The table with entry `i` replaced. -/
def setNth {α : Type} {n : Nat} (v : Vector α n) (i : Fin n) (a : α) : Vector α n := v.set i a

/-- The place, counted from `k`, of the first entry of a list that satisfies `p`. -/
def firstAt {α : Type} (p : α → Bool) : List α → Nat → Option Nat
  | [], _ => none
  | a :: rest, k => if p a then some k else firstAt p rest (k + 1)

/-- The lowest index of a table whose entry satisfies `p`. -/
def firstIdx {α : Type} {n : Nat} (p : α → Bool) (v : Vector α n) : Option (Fin n) :=
  match firstAt p v.toList 0 with
  | some k => if h : k < n then some ⟨k, h⟩ else none
  | none => none

/-- A table of one value. -/
def fill {α : Type} (n : Nat) (a : α) : Vector α n := Vector.replicate n a

/-- A counter that stops at its largest value ("saturating", chapter 0, Arithmetic). -/
def satAdd (limit a b : Nat) : Nat := min limit (a + b)

/-- The largest value of an unsigned 16-bit and of an unsigned 32-bit counter. -/
def max16 : Nat := 65535
def max32 : Nat := 4294967295

/-- `clamp(x, lo, hi)` of chapter 0. -/
def clampInt (x lo hi : Int) : Int := max lo (min x hi)
def clampNat (x lo hi : Nat) : Nat := max lo (min x hi)

/-- Division by 10 rounded to the nearest integer, halves away from zero (chapter 0, Arithmetic; R40). -/
def roundTenth (x : Int) : Int := if 0 ≤ x then (x + 5) / 10 else -((-x + 5) / 10)

end Sys2Proof
end

