-- ==== Sys2Proof/Config.lean ====
section
/-! DEFINITION. The fixed sizes of the Kazcor 7420, and the values its manual leaves open: constants with no body,
so that no proof can see what they are. -/

namespace Sys2Proof.Config

/-- The record queue holds 64 records (R155). -/
def recordPlaces : Nat := 64

/-- A transmit queue holds 32 telegrams (R139). -/
def queuePlaces : Nat := 32

/-- A telegram carries at most 12 payload bytes (R130). -/
def maxPayload : Nat := 12

/-- A port stores no byte after the 18th of a telegram (R131). -/
def storedBytes : Nat := 18

/-- A total of the book is held within this many mL of zero (R78). -/
def foldLimit : Int := 1000000000

/-- The most ECHO telegrams a continuous line test sends (R185). -/
def maxEchoes : Nat := 10000

/-- DESIGN CHOICE (log 6), safe: the factor of a sample whose hose's curve does not pass the checks of R4, which
only a hose that is OUT can have. R36 gives the factor of curves in increasing order of flow, and no other. The
argument is the number of the use, a counter in the state. -/
opaque freeFactor : Nat → Nat

/-- DESIGN CHOICE (log 7), safe: the 32 bits that a figure printed as "signed" shows while it lies outside the signed
32-bit range and the rule that prints it does not say what it reads there (a DELIVERY record's received figure, a
total of the book). -/
opaque freeSigned : Int → Long

/-- DESIGN CHOICE (log 8), safe: the 16 bits a curve point's flow shows when the mean rate of a proving session, above
65,535 L/min, was put there by R183. -/
opaque freeFlow : Nat → Word

end Sys2Proof.Config
end

