-- ==== Sys2Proof/Syntax.lean ====
section
/-! DEFINITION. The telegrams of the bay lines and the commands and events that reach the part: one constructor of
`Instr` for each row of spec/opcode_table.json, with the operands that its event carries. -/

namespace Sys2Proof

/-- The two line ports: UP faces the bay computer, FP the field devices. -/
inductive PortId where
  | up
  | fp
  deriving DecidableEq, Repr

/-- The addressing fields of a telegram's first two bytes (R130). The reserved bits are ignored on receipt and kept
when the telegram is forwarded (R133). -/
structure Header where
  dst : Node
  cls : BitVec 2
  src : Node
  rsv : BitVec 2
  deriving DecidableEq, Repr

/-- A telegram whose framing, length and check are good: its length byte is the payload's length and its check the
CRC of R132, so neither is held beside them. -/
structure Telegram where
  head : Header
  kind : Byte
  payload : List Byte
  deriving DecidableEq, Repr

/-- One character heard on a line: its eight data bits, and whether its stop bit stood at the mark level (R128). -/
structure RxChar where
  data : Byte
  stopOk : Bool
  deriving DecidableEq, Repr

/-- A start bit on a line: the port that hears it (R127), and the byte of the character it begins (log 11). -/
structure StartBit where
  port : PortId
  data : Byte
  deriving DecidableEq, Repr

/-- The commands and events that reach the part. A telegram row carries the telegram's fields (its kind where the row
does not fix it). A timer row names the hose, node, tank or zone whose timer expires. A management row carries the
source node of its COMMAND, to which the REPLY goes, and the parameters of R167 in their widths; `none` stands for a
COMMAND with fewer parameter bytes than its command needs. A command with several forms (HOSE_SERVICE, TANK_SERVICE,
MACHINE_STATE, PROVE_END, LINE_TEST) has one row for each form, and the row of form 0 also carries the COMMANDs that
are short or whose form byte is none of the forms. -/
inductive Instr where
  -- resets and lines
  | powerOn (nodeStraps : Node) (rateStraps : BitVec 2) (profileHigh : Bool)
  | resetLine (nodeStraps : Node) (rateStraps : BitVec 2) (profileHigh : Bool)
  | profileLineChange (high : Bool)
  -- telegrams of the field line
  | meterSample (head : Header) (payload : List Byte)
  | levelReport (head : Header) (payload : List Byte)
  | tagReport (head : Header) (payload : List Byte)
  | sumpReport (head : Header) (payload : List Byte)
  | estopReport (head : Header) (payload : List Byte)
  | starterStatus (head : Header) (payload : List Byte)
  | valveStatus (head : Header) (payload : List Byte)
  | inletStatus (head : Header) (payload : List Byte)
  | echoBack (head : Header) (payload : List Byte)
  | fieldTelegramOther (head : Header) (kind : Byte) (payload : List Byte)
  -- the ports
  | telegramDiscarded (port : PortId) (heard : List RxChar)
  | upTelegramOffered (telegram : Telegram)
  | upTelegramConsumed (telegram : Telegram)
  | idleWaitExpiry (port : PortId)
  | transmitStart (port : PortId)
  | transmitEnd (port : PortId)
  -- timers
  | idleTimerExpiry (hose : HoseNo)
  | pauseTimerExpiry (hose : HoseNo)
  | confirmTimerExpiry (hose : HoseNo)
  | drainWindowExpiry (hose : HoseNo)
  | periodTimerExpiry (node : DevNo)
  | settleTimerExpiry (tank : TankNo)
  | restWindowExpiry (tank : TankNo)
  | recoveryTimerExpiry (zone : ZoneNo)
  | bayClockTick
  | gapTimerExpiry
  | echoWaitExpiry
  -- management commands
  | window (src : Node) (args : Option (Byte × Word))
  | stepMode (src : Node) (mode : Option Byte)
  | read (src : Node) (n : Option Byte)
  | write (src : Node) (data : List Byte)
  | bayMode (src : Node) (mode : Option Byte)
  | profile (src : Node) (letter : Option Byte)
  | profileSource (src : Node) (source : Option Byte)
  | clockSet (src : Node) (seconds : Option Long)
  | lineRate (src : Node) (code : Option Byte)
  | counterSelect (src : Node) (args : Option (Byte × Byte))
  | counterRead (src : Node) (port : Option Byte)
  | stockSet (src : Node) (args : Option (Byte × Long))
  | deliveryStart (src : Node) (args : Option (Byte × Word))
  | deliveryEnd (src : Node) (tank : Option Byte)
  | tripZone (src : Node) (zone : Option Byte)
  | tripReset (src : Node) (zone : Option Byte)
  | hoseServiceOut (src : Node) (args : Option (Byte × Byte))
  | hoseServiceIn (src : Node) (hose : Byte)
  | tankServiceIn (src : Node) (tank : Byte)
  | tankServiceOut (src : Node) (args : Option (Byte × Byte))
  | machineStateBarred (src : Node) (slot : Word)
  | machineStateOpen (src : Node) (args : Option (Word × Byte))
  | serviceDone (src : Node) (args : Option (Word × Long))
  | take (src : Node) (serial : Option Word)
  | noticeRead (src : Node)
  | noticeMask (src : Node) (set : Option Word)
  | topNotice (src : Node)
  | proveStart (src : Node) (args : Option (Byte × Byte × Long))
  | proveResult (src : Node) (args : Option (Byte × Byte × Long))
  | proveEndAccept (src : Node) (args : Option (Byte × Byte))
  | proveEndAbandon (src : Node) (hose : Byte)
  | lineTestSingle (src : Node) (args : Option (Byte × Byte × Byte × Byte × Byte))
  | lineTestContinuous (src : Node) (args : Option (Byte × Byte × Byte × Byte × Byte))
  | lineTestRead (src : Node)
  | lineTestStop (src : Node) (mode : Option Byte)
  | restart (src : Node)
  | commandUnknown (src : Node)
  | startBitHeard (heard : StartBit)
  deriving DecidableEq, Repr

end Sys2Proof
end

