-- ==== Sys2Proof/Decode.lean ====
section
/-! DEFINITION. Bytes on the lines: byte order, the check of R132, the layout of a telegram (R130), the receive
checks of R131, and the form of a COMMAND (R167): its decoder and its encoder. -/

namespace Sys2Proof

/-! ## Byte order: multi-byte fields go least significant byte first (R135, R167) -/

def join16 (lo hi : Byte) : Word := hi ++ lo
def join32 (a b c d : Byte) : Long := d ++ c ++ b ++ a

def lowByte (w : Word) : Byte := w.extractLsb' 0 8
def highByte (w : Word) : Byte := w.extractLsb' 8 8

/-- The bytes of a 16-bit figure. -/
def bytes16 (w : Word) : List Byte := [lowByte w, highByte w]

/-- The bytes of a 32-bit figure. -/
def bytes32 (w : Long) : List Byte :=
  [w.extractLsb' 0 8, w.extractLsb' 8 8, w.extractLsb' 16 8, w.extractLsb' 24 8]

/-- A 16-bit field read as a signed value (two's complement). -/
def signed16 (w : Word) : Int := w.toInt

/-! ## The check (R132) -/

/-- One bit of the check: the register's top bit is compared with the data bit. -/
def crcBit (reg : Word) (bit : Bool) : Word :=
  if reg.msb != bit then (reg <<< 1) ^^^ 0x1021 else reg <<< 1

/-- One byte of the check, its most significant bit first. -/
def crcByte (reg : Word) (b : Byte) : Word :=
  [7, 6, 5, 4, 3, 2, 1, 0].foldl (fun r i => crcBit r (b.getLsbD i)) reg

/-- The check over a run of bytes: the register starts at FFFFh and is not inverted at the end. -/
def crc (bytes : List Byte) : Word := bytes.foldl crcByte 0xFFFF

/-! ## The telegram (R130) -/

/-- Bytes 0 to 3 + length: what the check covers. -/
def Telegram.body (t : Telegram) : List Byte :=
  [t.head.cls ++ t.head.dst, t.head.rsv ++ t.head.src, t.kind, BitVec.ofNat 8 t.payload.length] ++ t.payload

/-- The bytes of a telegram on the line, its check last, least significant byte first. -/
def Telegram.bytes (t : Telegram) : List Byte := t.body ++ bytes16 (crc t.body)

/-- What a port finds at the end of a telegram (R131). -/
inductive Receipt where
  | good (t : Telegram)
  | crcError
  | lengthError
  deriving DecidableEq, Repr

/-- Checks 2 to 4 of R131, over the bytes heard. A port stops storing bytes after the 18th, which fails check 2 or
check 3 whatever those bytes are. -/
def readBytes : List Byte → Receipt
  | b0 :: b1 :: kind :: len :: rest =>
    if rest.length < 2 || 12 < len.toNat then .lengthError
    else if rest.length ≠ len.toNat + 2 then .lengthError
    else
      let payload := rest.take len.toNat
      let check := rest.drop len.toNat
      if check = bytes16 (crc (b0 :: b1 :: kind :: len :: payload)) then
        .good { head := { dst := b0.extractLsb' 0 6, cls := b0.extractLsb' 6 2,
                          src := b1.extractLsb' 0 6, rsv := b1.extractLsb' 6 2 },
                kind := kind, payload := payload }
      else .crcError
  | _ => .lengthError

/-- The four checks of R131 in their order: the stop bits, then the length, then the check. -/
def receive (heard : List RxChar) : Receipt :=
  if heard.all (·.stopOk) then readBytes (heard.map (·.data)) else .crcError

/-- The characters of a telegram sent without fault. -/
def sound (bytes : List Byte) : List RxChar := bytes.map (fun b => { data := b, stopOk := true })

/-! ## COMMANDs (R167) -/

def arg8 : List Byte → Option Byte
  | a :: _ => some a
  | _ => none

def arg16 : List Byte → Option Word
  | a :: b :: _ => some (join16 a b)
  | _ => none

def arg32 : List Byte → Option Long
  | a :: b :: c :: d :: _ => some (join32 a b c d)
  | _ => none

def arg8_8 : List Byte → Option (Byte × Byte)
  | a :: b :: _ => some (a, b)
  | _ => none

def arg8_16 : List Byte → Option (Byte × Word)
  | a :: b :: c :: _ => some (a, join16 b c)
  | _ => none

def arg8_32 : List Byte → Option (Byte × Long)
  | a :: b :: c :: d :: e :: _ => some (a, join32 b c d e)
  | _ => none

def arg16_8 : List Byte → Option (Word × Byte)
  | a :: b :: c :: _ => some (join16 a b, c)
  | _ => none

def arg16_32 : List Byte → Option (Word × Long)
  | a :: b :: c :: d :: e :: f :: _ => some (join16 a b, join32 c d e f)
  | _ => none

def arg8_8_32 : List Byte → Option (Byte × Byte × Long)
  | a :: b :: c :: d :: e :: f :: _ => some (a, b, join32 c d e f)
  | _ => none

def arg8x5 : List Byte → Option (Byte × Byte × Byte × Byte × Byte)
  | a :: b :: c :: d :: e :: _ => some (a, b, c, d, e)
  | _ => none

/-- HOSE_SERVICE: form 1 is in, and the row of out carries the rest. -/
def decodeHoseService (src : Node) (ps : List Byte) : Instr :=
  match arg8_8 ps with
  | some (hose, form) => if form = 1 then .hoseServiceIn src hose else .hoseServiceOut src (some (hose, form))
  | none => .hoseServiceOut src none

/-- TANK_SERVICE: form 1 is in, and the row of out carries the rest. -/
def decodeTankService (src : Node) (ps : List Byte) : Instr :=
  match arg8_8 ps with
  | some (tank, form) => if form = 1 then .tankServiceIn src tank else .tankServiceOut src (some (tank, form))
  | none => .tankServiceOut src none

/-- MACHINE_STATE: state 1 is BARRED, and the row of OPEN carries the rest. -/
def decodeMachineState (src : Node) (ps : List Byte) : Instr :=
  match arg16_8 ps with
  | some (slot, state) =>
    if state = 1 then .machineStateBarred src slot else .machineStateOpen src (some (slot, state))
  | none => .machineStateOpen src none

/-- PROVE_END: form 1 is abandon, and the row of accept carries the rest. -/
def decodeProveEnd (src : Node) (ps : List Byte) : Instr :=
  match arg8_8 ps with
  | some (hose, form) => if form = 1 then .proveEndAbandon src hose else .proveEndAccept src (some (hose, form))
  | none => .proveEndAccept src none

/-- LINE_TEST(mode, gap, pattern, byte, length, target). DESIGN CHOICE (log 20): stop and read need the mode byte
alone. -/
def decodeLineTest (src : Node) : List Byte → Instr
  | [] => .lineTestStop src none
  | mode :: ps =>
    if mode = 1 then .lineTestSingle src (arg8x5 ps)
    else if mode = 2 then .lineTestContinuous src (arg8x5 ps)
    else if mode = 3 then .lineTestRead src
    else .lineTestStop src (some mode)

/-- The command a COMMAND's payload carries: byte 0 is the command code, the rest its parameters (R167). Bytes beyond
those a command needs are ignored, except by WRITE. -/
def decodeCommand (src : Node) : List Byte → Instr
  | [] => .commandUnknown src
  | code :: ps =>
    match code.toNat with
    | 0x01 => .window src (arg8_16 ps)
    | 0x02 => .stepMode src (arg8 ps)
    | 0x03 => .read src (arg8 ps)
    | 0x04 => .write src ps
    | 0x10 => .bayMode src (arg8 ps)
    | 0x11 => .profile src (arg8 ps)
    | 0x12 => .profileSource src (arg8 ps)
    | 0x13 => .clockSet src (arg32 ps)
    | 0x14 => .lineRate src (arg8 ps)
    | 0x15 => .counterSelect src (arg8_8 ps)
    | 0x16 => .counterRead src (arg8 ps)
    | 0x17 => .stockSet src (arg8_32 ps)
    | 0x18 => .deliveryStart src (arg8_16 ps)
    | 0x19 => .deliveryEnd src (arg8 ps)
    | 0x1A => .tripZone src (arg8 ps)
    | 0x1B => .tripReset src (arg8 ps)
    | 0x1C => decodeHoseService src ps
    | 0x1D => decodeTankService src ps
    | 0x1E => decodeMachineState src ps
    | 0x1F => .serviceDone src (arg16_32 ps)
    | 0x20 => .take src (arg16 ps)
    | 0x21 => .noticeRead src
    | 0x22 => .noticeMask src (arg16 ps)
    | 0x23 => .topNotice src
    | 0x24 => .proveStart src (arg8_8_32 ps)
    | 0x25 => .proveResult src (arg8_8_32 ps)
    | 0x26 => decodeProveEnd src ps
    | 0x27 => decodeLineTest src ps
    | 0x28 => .restart src
    | _ => .commandUnknown src

/-! ## The encoder -/

def enc16 : Option Word → List Byte
  | some w => bytes16 w
  | none => []

def enc32 : Option Long → List Byte
  | some w => bytes32 w
  | none => []

def enc8 : Option Byte → List Byte
  | some b => [b]
  | none => []

def enc8_8 : Option (Byte × Byte) → List Byte
  | some (a, b) => [a, b]
  | none => []

def enc8_16 : Option (Byte × Word) → List Byte
  | some (a, w) => a :: bytes16 w
  | none => []

def enc8_32 : Option (Byte × Long) → List Byte
  | some (a, w) => a :: bytes32 w
  | none => []

def enc16_8 : Option (Word × Byte) → List Byte
  | some (w, a) => bytes16 w ++ [a]
  | none => []

def enc16_32 : Option (Word × Long) → List Byte
  | some (w, l) => bytes16 w ++ bytes32 l
  | none => []

def enc8_8_32 : Option (Byte × Byte × Long) → List Byte
  | some (a, b, l) => a :: b :: bytes32 l
  | none => []

def enc8x5 : Option (Byte × Byte × Byte × Byte × Byte) → List Byte
  | some (a, b, c, d, e) => [a, b, c, d, e]
  | none => []

/-- The source node and the payload of the COMMAND that carries a management row; `none` for every other row. A
COMMAND_UNKNOWN is written as a COMMAND with no payload. -/
def encodeCommand : Instr → Option (Node × List Byte)
  | .window src a => some (src, 0x01 :: enc8_16 a)
  | .stepMode src a => some (src, 0x02 :: enc8 a)
  | .read src a => some (src, 0x03 :: enc8 a)
  | .write src d => some (src, 0x04 :: d)
  | .bayMode src a => some (src, 0x10 :: enc8 a)
  | .profile src a => some (src, 0x11 :: enc8 a)
  | .profileSource src a => some (src, 0x12 :: enc8 a)
  | .clockSet src a => some (src, 0x13 :: enc32 a)
  | .lineRate src a => some (src, 0x14 :: enc8 a)
  | .counterSelect src a => some (src, 0x15 :: enc8_8 a)
  | .counterRead src a => some (src, 0x16 :: enc8 a)
  | .stockSet src a => some (src, 0x17 :: enc8_32 a)
  | .deliveryStart src a => some (src, 0x18 :: enc8_16 a)
  | .deliveryEnd src a => some (src, 0x19 :: enc8 a)
  | .tripZone src a => some (src, 0x1A :: enc8 a)
  | .tripReset src a => some (src, 0x1B :: enc8 a)
  | .hoseServiceOut src a => some (src, 0x1C :: enc8_8 a)
  | .hoseServiceIn src h => some (src, [0x1C, h, 1])
  | .tankServiceOut src a => some (src, 0x1D :: enc8_8 a)
  | .tankServiceIn src t => some (src, [0x1D, t, 1])
  | .machineStateOpen src a => some (src, 0x1E :: enc16_8 a)
  | .machineStateBarred src m => some (src, 0x1E :: (bytes16 m ++ [1]))
  | .serviceDone src a => some (src, 0x1F :: enc16_32 a)
  | .take src a => some (src, 0x20 :: enc16 a)
  | .noticeRead src => some (src, [0x21])
  | .noticeMask src a => some (src, 0x22 :: enc16 a)
  | .topNotice src => some (src, [0x23])
  | .proveStart src a => some (src, 0x24 :: enc8_8_32 a)
  | .proveResult src a => some (src, 0x25 :: enc8_8_32 a)
  | .proveEndAccept src a => some (src, 0x26 :: enc8_8 a)
  | .proveEndAbandon src h => some (src, [0x26, h, 1])
  | .lineTestSingle src a => some (src, 0x27 :: 1 :: enc8x5 a)
  | .lineTestContinuous src a => some (src, 0x27 :: 2 :: enc8x5 a)
  | .lineTestRead src => some (src, [0x27, 3])
  | .lineTestStop src a => some (src, 0x27 :: enc8 a)
  | .restart src => some (src, [0x28])
  | .commandUnknown src => some (src, [])
  | _ => none

/-- The command a word spells by the opcode table's bits. The table gives no row any bits (its rows are events and
commands, which reach the part as telegrams, timers and line changes), so no word spells one (log 1). -/
def decodeTableWord (_nbits _w : Nat) : Option Instr := none

end Sys2Proof
end

