-- ==== Sys2Proof/Machine/State.lean ====
section
/-! DEFINITION. Everything the manual gives the Kazcor 7420, as plain data, block by block, and its values after
reset. Illegal combinations are left out by the types where the manual rules them out: an open transaction stands
inside the states that have one, a proving session inside PROVING, a role beside the object it binds. -/

namespace Sys2Proof.Machine

open Sys2Proof

/-- No row of the table stops the part: the manual gives every event and command an effect. -/
inductive Fault where
  deriving DecidableEq, Repr

/-- Why a command is turned away by the model itself. -/
inductive Refusal where
  /-- Raised by `exec` for a row with no meaning in this model; safe. No row is left so. -/
  | notModelled (mnemonic : String)
  deriving DecidableEq, Repr

/-! ## Hoses (R1, R2, R8, R28, R178) -/

/-- A point of a factor curve: flow in L/min and factor in 1/100,000 (R1). -/
structure CurvePoint where
  flow : Nat
  factor : Nat
  deriving DecidableEq, Repr

/-- A taper step: remaining volume in L and throttle code (R1). -/
structure TaperStep where
  litres : Nat
  code : Nat
  deriving DecidableEq, Repr

/-- Out-of-service handling (R5). -/
inductive Handling where
  | holdClosed
  | isolate
  deriving DecidableEq, Repr

/-- The configuration fields of a hose record (R1). The zone is its tank's, and the node fields show the device table,
so neither is held here. Curve points and taper steps beyond the count are kept but not used (R177). -/
structure HoseConfig where
  tank : Option TankNo
  pulseWeight : Nat
  pulseCeiling : Nat
  pointCount : Nat
  points : Vector CurvePoint 6
  openCode : Nat
  stepCount : Nat
  steps : Vector TaperStep 4
  pauseTimeout : Nat
  dripLimit : Nat
  handling : Handling
  deriving DecidableEq, Repr

/-- What a reader reports of its nozzle (R6). -/
inductive Nozzle where
  | holstered
  | lifted
  | coupled
  | coupledShut
  deriving DecidableEq, Repr

/-- The last report of a valve or an inlet (R24, R77). -/
inductive ValveReport where
  | code (n : Nat)
  | fault
  | none
  deriving DecidableEq, Repr

/-- The end causes of fills (R18) and of proving runs (R181). -/
inductive EndCause where
  | nozzleOff
  | full
  | capReached
  | tankLow
  | pumpStop
  | meterLost
  | readerLost
  | meterFault
  | trip
  | hoseOut
  | restart
  | startFail
  | idleTimeout
  | abandoned
  deriving DecidableEq, Repr

/-- The refusal causes, in the order of their codes 32 to 45 (R159). -/
inductive RefusalCause where
  | hoseOut
  | bayLayup
  | zoneTripped
  | tankOut
  | deviceNotGood
  | unknownTag
  | barred
  | machineBusy
  | productNotAllowed
  | profileClass
  | serviceHold
  | queueFull
  | noHeadroom
  | tankLow
  deriving DecidableEq, Repr

/-- A reading of the bay clock, with the mark that the clock had not been set (R157, R173). -/
structure Stamp where
  secs : Long
  unset : Bool
  deriving DecidableEq, Repr

/-- The flags a transaction, a run or a record carries, besides CLOCK_UNSET (R159 word 2). -/
structure Flags where
  tempSubstituted : Bool := false
  hoursDoubt : Bool := false
  meterDoubt : Bool := false
  tapered : Bool := false
  recoveryCap : Bool := false
  tankLimited : Bool := false
  profileB : Bool := false
  deriving DecidableEq, Repr

/-- A set of meter arithmetic state: the four residues and the last rate (R28). -/
structure MeterSet where
  a : Nat := 0
  b : Nat := 0
  c : Nat := 0
  d : Nat := 0
  lastRate : Option Nat := .none
  deriving DecidableEq, Repr

/-- What the samples of a fill or of a proving run change (R8, R180). -/
structure Tally where
  gross : Nat := 0
  net : Nat := 0
  meter : MeterSet := {}
  lastTemp : Option Int := .none
  jumps : Nat := 0
  flags : Flags := {}
  lastCode : Nat
  pumpWait : Bool := false
  deriving DecidableEq, Repr

/-- The profile letters (R57). -/
inductive Letter where
  | a
  | b
  deriving DecidableEq, Repr

/-- The product classes; NONE is an empty entry (R67). -/
inductive ProductClass where
  | none
  | fuel
  | lube
  | coolant
  deriving DecidableEq, Repr

/-- What an open transaction captures at authorization, and its tally (R8). The class is captured with the product
(3.6). The overrun allowance is captured with the cap. -/
structure Transaction where
  tag : Long
  slot : SlotNo
  hours : Option Nat
  cap : Nat
  allowance : Nat
  letter : Letter
  tank : TankNo
  product : ProductNo
  cls : ProductClass
  zone : ZoneNo
  start : Stamp
  tally : Tally
  deriving DecidableEq, Repr

/-- The course of an open transaction; its end cause and end time are set on entry to CLOSING (R19). The idle timer
runs in READY and PAUSED, the pause timer in FLOWING, the drain window in CLOSING. -/
inductive Phase where
  | ready
  | flowing
  | paused
  | closing (cause : EndCause) (ended : Stamp)
  deriving DecidableEq, Repr

/-- A proving run in progress (R180). `flowed` is set once LAMP flowing has been sent. The idle timer runs throughout. -/
structure ProvingRun where
  start : Stamp
  tally : Tally
  flowed : Bool := false
  sumVolume : Nat := 0
  sumFactored : Nat := 0
  sumInterval : Nat := 0
  deriving DecidableEq, Repr

/-- The can reading, run factor and credit of a RESULTED run (R182). -/
structure RunResult where
  can : Nat
  factor : Nat
  credit : Nat
  deriving DecidableEq, Repr

/-- A run that is ENDED, or RESULTED when it has its result (R178, R181). -/
structure EndedRun where
  cause : EndCause
  gross : Nat
  net : Nat
  lastTemp : Option Int
  flags : Flags
  jumps : Nat
  meanRate : Nat
  factorUsed : Nat
  vcf : Nat
  result : Option RunResult
  deriving DecidableEq, Repr

/-- A proving session (R178): `planned` runs, of which `ended` have ended, in order, and `run` is in progress. The
runs begun are those two together; the rest are NOT_BEGUN. -/
structure Session where
  planned : Nat
  can : Nat
  ended : List EndedRun
  run : Option ProvingRun
  deriving DecidableEq, Repr

/-- The transaction state of a hose, with the open transaction or the proving session that only some states have (R2).
The service state is a view of it. -/
inductive HoseMode where
  | idle
  | out
  | fill (phase : Phase) (txn : Transaction)
  | proving (session : Session)
  deriving DecidableEq, Repr

/-- One hose controller (R1, R2, R28). -/
structure Hose where
  cfg : HoseConfig
  mode : HoseMode
  nozzle : Nozzle
  valveReport : ValveReport
  pendingOut : Bool
  uncoupled : Nat
  uncoupledRaised : Bool
  stray : Nat
  straySet : MeterSet
  refusals : Vector Nat 14
  baseline : Option Nat
  jumpTotal : Nat
  deriving DecidableEq, Repr

/-- A tank's pump reference count and pump-confirmed flag (R11). -/
structure Pump where
  count : Nat
  confirmed : Bool
  deriving DecidableEq, Repr

/-! ## Tanks and products (R67 to R69, R81, R83, R85) -/

structure Product where
  cls : ProductClass
  beta : Nat
  fallback : Int
  deriving DecidableEq, Repr

/-- A strapping point: level in mm, volume in L (R68). -/
structure StrapPoint where
  level : Nat
  volume : Nat
  deriving DecidableEq, Repr

/-- The configuration fields of a tank record (R68); the node fields show the device table. -/
structure TankConfig where
  product : Option ProductNo
  zone : ZoneNo
  capacity : Nat
  strapCount : Nat
  straps : Vector StrapPoint 32
  highHigh : Nat
  lowCutoff : Nat
  lossFloor : Nat
  restThreshold : Nat
  restCode : Nat
  tolerance : Nat
  deriving DecidableEq, Repr

inductive TankState where
  | inService
  | receiving
  | outOfService
  deriving DecidableEq, Repr

/-- The loss window (R81); `settled` is set once the 60 s settle timer has expired. -/
inductive LossWindow where
  | none
  | waiting
  | opened (gauge : Nat) (book : Int) (settled : Bool)
  | spent
  deriving DecidableEq, Repr

/-- The rest window (R83); its timer runs while it is RUNNING. -/
inductive RestWindow where
  | none
  | running (gauge : Nat) (book : Int) (seenGood : Bool)
  deriving DecidableEq, Repr

/-- Why a delivery's inlet was closed (R86 to R90). -/
inductive CloseCause where
  | trip
  | restart
  | deliveryEnd
  | highHigh
  | gauge
  deriving DecidableEq, Repr

/-- A delivery in progress (R85): the inlet is OPEN until its first closing gives the close cause. -/
structure Delivery where
  declared : Nat
  startGauge : Nat
  start : Stamp
  outflow : Nat
  closed : Option CloseCause
  deriving DecidableEq, Repr

/-- The four totals of a book (R75). -/
structure Totals where
  received : Int := 0
  adjustment : Int := 0
  dispensed : Int := 0
  stray : Int := 0
  deriving DecidableEq, Repr

/-- One tank record (R68, R69). -/
structure Tank where
  cfg : TankConfig
  state : TankState
  setPoint : Int
  totals : Totals
  book : Int
  folds : Nat
  low : Bool
  lastLevel : Option Nat
  lastWater : Option Nat
  lastTemp : Option Int
  gaugeNet : Option Nat
  gaugeTemp : Option Int
  gaugeHeld : Bool
  aboveTable : Bool
  openHoses : Nat
  loss : LossWindow
  rest : RestWindow
  delivery : Option Delivery
  inletReport : ValveReport
  deriving DecidableEq, Repr

/-! ## Machines and profiles (R46, R57) -/

inductive MachineState where
  | opened
  | barred
  deriving DecidableEq, Repr

/-- One slot of the machine table (R46); hour figures are absent where the slot holds FFFFFFFFh. -/
structure MachineRec where
  tag : Long
  state : MachineState
  hold : Bool
  allowances : Vector Nat 8
  burnRate : Nat
  learnCount : Nat
  lastHours : Option Nat
  hoursAtFull : Option Nat
  addedSinceFull : Nat
  hoursAtService : Option Nat
  serviceInterval : Nat
  lubeSinceService : Nat
  lubeLimit : Nat
  doubt : Nat
  lifetimeFuel : Nat
  fillCount : Nat
  abnormal : Bool
  openHose : Option HoseNo
  deriving DecidableEq, Repr

structure Profile where
  marginPct : Nat
  marginFloor : Nat
  blindPct : Nat
  recoveryCap : Nat
  ceiling : Nat
  fuel : Bool
  lube : Bool
  coolant : Bool
  deriving DecidableEq, Repr

/-! ## Zones (R91, R93) -/

inductive ZoneState where
  | normal
  | tripped
  | recovery
  deriving DecidableEq, Repr

/-- The zone cause codes run from 1 in this order (R177). -/
inductive Cause where
  | sumpWet
  | estop
  | unmeteredLoss
  | restLoss
  | uncoupledFlow
  | overrun
  | sensorLost
  | command
  | restart
  deriving DecidableEq, Repr

inductive RecoveryTimer where
  | stopped
  | running (secondsLeft : Nat)
  | expired
  deriving DecidableEq, Repr

/-- One zone record (R91): the cause set has bit (code − 1) for each cause, the gauge marks bit (tank − 1). -/
structure Zone where
  state : ZoneState
  firstCause : Cause
  firstTrip : Stamp
  causes : BitVec 9
  tripCount : Nat
  sensorTrips : Bool
  timer : RecoveryTimer
  marks : BitVec 6
  deriving DecidableEq, Repr

/-! ## Devices (R112, R113) -/

/-- A role with the object it serves (R113); a stop station of zone 0 covers all four zones. -/
inductive Binding where
  | unbound
  | meter (h : HoseNo)
  | reader (h : HoseNo)
  | valve (h : HoseNo)
  | starter (t : TankNo)
  | inlet (t : TankNo)
  | gauge (t : TankNo)
  | sump (z : ZoneNo)
  | estop (z : Option ZoneNo)
  deriving DecidableEq, Repr

inductive Health where
  | good
  | doubtful
  | lost
  deriving DecidableEq, Repr

/-- One device entry (R112), with the Trip unit's last report of the node as a sump sensor and as a stop station (R94,
R95). The period timer runs exactly while the node is bound (R115, R119). -/
structure Device where
  binding : Binding
  period : Nat
  score : Nat
  health : Health
  mismatches : Nat
  lastKind : Option Byte
  wet : Bool
  pressed : Bool
  deriving DecidableEq, Repr

/-! ## Ports (R127, R142) -/

/-- The receive state, with the bytes of the telegram being received, in the order heard (R127). -/
inductive RxState where
  | idleWait
  | idle
  | receiving (bytes : List Byte)
  deriving DecidableEq, Repr

/-- The nine selections of a port's event counter, in the order of their codes (R142, R174). -/
inductive PortEvent where
  | crcError
  | lengthError
  | passed
  | droppedTable
  | droppedGuard
  | consumed
  | sentByPart
  | deferrals
  | queueDrop
  deriving DecidableEq, Repr

/-- The telegram being sent, and whether the part originated it (R137). -/
structure Flight where
  telegram : Telegram
  ours : Bool
  deriving DecidableEq, Repr

/-- One port (R127). `nextRate` is a rate taken by LINE_RATE that waits for the telegram in progress to end (R138).
`own` and `forwarded` are the two sections of the transmit queue, oldest first (R139). -/
structure Port where
  rate : BitVec 2
  nextRate : Option (BitVec 2)
  node : Node
  rx : RxState
  own : List Telegram
  forwarded : List Telegram
  flight : Option Flight
  select : PortEvent
  count : Nat
  deriving DecidableEq, Repr

/-! ## Pass filter (R143) -/

inductive Direction where
  | fieldToUp
  | upToField
  deriving DecidableEq, Repr

inductive PassAction where
  | pass
  | drop
  | thin (n : Nat)
  deriving DecidableEq, Repr

structure PassRule where
  inUse : Bool
  dir : Direction
  kindValue : Byte
  kindMask : Byte
  nodeValue : Node
  nodeMask : Node
  action : PassAction
  thinCount : Nat
  hits : Nat
  deriving DecidableEq, Repr

inductive GuardCondition where
  | tripped
  | hoseBusy
  | tankOpen
  | tankReceiving
  deriving DecidableEq, Repr

/-- The filter entry (R143): the defaults (set means DROP), accept-all, and what the traffic guard counts. -/
structure FilterEntry where
  dropUpward : Bool
  dropDownward : Bool
  acceptUpward : Bool
  acceptDownward : Bool
  guardCount : Nat
  holdCount : Nat
  lastNode : Option Node
  lastCondition : Option GuardCondition
  deriving DecidableEq, Repr

/-! ## Records (R155, R158) -/

/-- The part of a record that is its kind's own (R159). -/
inductive RecordBody where
  | fill (gross net cap : Nat) (temp : Int)
  | refusal
  | delivery (declared startGauge endGauge : Nat) (received : Int)
  | prove (gross net run : Nat) (temp : Int)
  | adjust (oldBook newBook : Int)
  deriving DecidableEq, Repr

/-- A completed record (R158), its common part in the coded form the layout shows: the cause code, object numbers from
1 with 0 for none, the slot FFFFh and the hour reading FFFFFFFFh where they are absent. -/
structure Record where
  serial : Nat
  cause : Nat
  clockUnset : Bool
  flags : Flags
  hose : Nat
  tank : Nat
  product : Nat
  jumps : Nat
  slot : Nat
  start : Long
  ended : Long
  tag : Long
  hours : Nat
  body : RecordBody
  deriving DecidableEq, Repr

/-! ## Management responder (R168, R172, R176) and line test (R185) -/

inductive BayMode where
  | run
  | layUp
  deriving DecidableEq, Repr

inductive ProfileSource where
  | line
  | command
  deriving DecidableEq, Repr

/-- A table and an entry of it (R168). -/
inductive Selection where
  | machine (m : SlotNo)
  | hose (h : HoseNo)
  | tank (t : TankNo)
  | strap (t : TankNo)
  | product (i : ProductNo)
  | device (n : DevNo)
  | rule (r : RuleNo)
  | filter
  | profileA
  | profileB
  | recordHead
  | zone (z : ZoneNo)
  deriving DecidableEq, Repr

inductive StepMode where
  | hold
  | step
  | stepOnWrite
  deriving DecidableEq, Repr

/-- The window cursor (R168). `kept` holds, for each two-word field of the entry that can be written, the offset of its
lower word and the kept lower word (R170). -/
structure Cursor where
  sel : Selection
  offset : Nat
  mode : StepMode
  kept : List (Nat × Word)
  deriving DecidableEq, Repr

inductive TestPattern where
  | fixed
  | counting
  | pseudo
  deriving DecidableEq, Repr

/-- A line test that is running (R185, R186): its parameters, the two pattern sources, the payload of the awaited
ECHO, and its two timers. -/
structure LineTest where
  continuous : Bool
  gap : Nat
  pattern : TestPattern
  byte : Byte
  length : Nat
  target : DevNo
  counter : Byte
  register : Word
  awaited : Option (List Byte)
  gapRunning : Bool
  waitRunning : Bool
  deriving DecidableEq, Repr

/-- The line test's four counts (R185). -/
structure TestCounts where
  sent : Nat := 0
  intact : Nat := 0
  mismatched : Nat := 0
  missing : Nat := 0
  deriving DecidableEq, Repr

/-! ## The part -/

/-- All the state of the part, block by block (chapter 0, Block diagram), with the levels of its lines. -/
structure Part where
  -- port pair
  up : Port
  fp : Port
  -- pass filter
  rules : Vector PassRule 32
  filter : FilterEntry
  -- line monitor (and the Trip unit's last reports)
  devices : Vector Device 62
  -- hose controllers
  hoses : Vector Hose 8
  pumps : Vector Pump 6
  -- stock unit
  tanks : Vector Tank 6
  products : Vector Product 8
  -- account store
  machines : Vector MachineRec 1024
  profileA : Profile
  profileB : Profile
  current : Profile
  letter : Letter
  -- trip unit
  zones : Vector Zone 4
  shutdown : Bool
  bayAlarm : Bool
  -- record queue and notices
  records : List Record
  reserved : Nat
  nextSerial : Nat
  pendingNotices : Word
  noticeMask : Word
  -- management responder
  bayMode : BayMode
  source : ProfileSource
  profileHigh : Bool
  clock : Long
  clockUnset : Bool
  cursor : Cursor
  -- line test
  test : Option LineTest
  counts : TestCounts
  -- the model's own: how many free values have been used (log 6)
  freeUses : Nat
  deriving DecidableEq, Repr

/-- The part together with the events and commands that wait to reach it, first in, first out. -/
structure State extends Part where
  pending : List Instr
  deriving DecidableEq, Repr

/-! ## Values after power-on and the RESET line -/

/-- R1, R2. The points and steps beyond the counts have no stated value: log 3. -/
def Hose.atReset : Hose where
  cfg := {
    tank := none, pulseWeight := 0, pulseCeiling := 4000, pointCount := 0, points := fill 6 ⟨0, 100000⟩,
    openCode := 15, stepCount := 0, steps := fill 4 ⟨0, 15⟩, pauseTimeout := 60, dripLimit := 2,
    handling := .holdClosed }
  mode := .out
  nozzle := .holstered
  valveReport := .none
  pendingOut := false
  uncoupled := 0
  uncoupledRaised := false
  stray := 0
  straySet := {}
  refusals := fill 14 0
  baseline := none
  jumpTotal := 0

/-- R68, R69. The strapping points beyond the count have no stated value: log 3. -/
def Tank.atReset : Tank where
  cfg := {
    product := none, zone := 0, capacity := 0, strapCount := 0, straps := fill 32 ⟨0, 0⟩, highHigh := 0,
    lowCutoff := 0, lossFloor := 80, restThreshold := 40, restCode := 5, tolerance := 10 }
  state := .outOfService
  setPoint := 0
  totals := {}
  book := 0
  folds := 0
  low := false
  lastLevel := none
  lastWater := none
  lastTemp := none
  gaugeNet := none
  gaugeTemp := none
  gaugeHeld := false
  aboveTable := false
  openHoses := 0
  loss := .none
  rest := .none
  delivery := none
  inletReport := .none

/-- The empty values of a machine slot (R46). -/
def MachineRec.empty : MachineRec where
  tag := 0
  state := .opened
  hold := false
  allowances := fill 8 0
  burnRate := 0
  learnCount := 0
  lastHours := none
  hoursAtFull := none
  addedSinceFull := 0
  hoursAtService := none
  serviceInterval := 0
  lubeSinceService := 0
  lubeLimit := 0
  doubt := 0
  lifetimeFuel := 0
  fillCount := 0
  abnormal := false
  openHose := none

/-- The default of profile A (R57). -/
def Profile.defaultA : Profile where
  marginPct := 15
  marginFloor := 100
  blindPct := 100
  recoveryCap := 200
  ceiling := 6000
  fuel := true
  lube := true
  coolant := true

/-- The default of profile B (R57). -/
def Profile.defaultB : Profile where
  marginPct := 8
  marginFloor := 50
  blindPct := 60
  recoveryCap := 100
  ceiling := 5000
  fuel := true
  lube := false
  coolant := false

/-- R91, R110. -/
def Zone.atReset : Zone where
  state := .tripped
  firstCause := .restart
  firstTrip := ⟨0, true⟩
  causes := 0x100
  tripCount := 1
  sensorTrips := true
  timer := .stopped
  marks := 0

/-- R112, R94, R95. -/
def Device.atReset : Device where
  binding := .unbound
  period := 10
  score := 0
  health := .good
  mismatches := 0
  lastKind := none
  wet := false
  pressed := false

/-- R143. -/
def PassRule.atReset : PassRule where
  inUse := false
  dir := .fieldToUp
  kindValue := 0
  kindMask := 0
  nodeValue := 0
  nodeMask := 0
  action := .pass
  thinCount := 0
  hits := 0

/-- R143. -/
def FilterEntry.atReset : FilterEntry where
  dropUpward := false
  dropDownward := false
  acceptUpward := false
  acceptDownward := false
  guardCount := 0
  holdCount := 0
  lastNode := none
  lastCondition := none

/-- R127: a port that has just started, at its rate and node number. -/
def Port.atReset (rate : BitVec 2) (node : Node) : Port where
  rate := rate
  nextRate := none
  node := node
  rx := .idleWait
  own := []
  forwarded := []
  flight := none
  select := .crcError
  count := 0

/-- R168, R176: MACHINE slot 0 at offset 0 in step mode STEP, with the lower words of an empty slot kept. -/
def Cursor.atReset : Cursor where
  sel := .machine 0
  offset := 0
  mode := .step
  kept := [(0, 0), (12, 0), (15, 0xFFFF), (17, 0xFFFF), (19, 0), (21, 0xFFFF), (26, 0)]

/-- Every block at its value after power-on and the RESET line, before the four trip notices of R110 are raised. The
upstream node and rate are those the straps give (R128, R129). -/
def Part.atReset (node : Node) (rate : BitVec 2) (profileHigh : Bool) : Part where
  up := Port.atReset rate node
  fp := Port.atReset 1 0
  rules := fill 32 PassRule.atReset
  filter := FilterEntry.atReset
  devices := fill 62 Device.atReset
  hoses := fill 8 Hose.atReset
  pumps := fill 6 ⟨0, false⟩
  tanks := fill 6 Tank.atReset
  products := fill 8 ⟨.none, 0, 150⟩
  machines := fill 1024 MachineRec.empty
  profileA := Profile.defaultA
  profileB := Profile.defaultB
  current := Profile.defaultA
  letter := .a
  zones := fill 4 Zone.atReset
  shutdown := true
  bayAlarm := true
  records := []
  reserved := 0
  nextSerial := 0
  pendingNotices := 0
  noticeMask := 0
  bayMode := .layUp
  source := .line
  profileHigh := profileHigh
  clock := 0
  clockUnset := true
  cursor := Cursor.atReset
  test := none
  counts := {}
  freeUses := 0

/-- The ATTENTION that announces the four trips of R110: all nodes, class 3, ranks 1 to 4 pending, top rank 1 (R133,
R135, R163). -/
def firstAttention (node : Node) : Telegram where
  head := { dst := 63, cls := 3, src := node, rsv := 0 }
  kind := 0x42
  payload := [0x0F, 0x00, 1]

/-- The machine right after reset. DESIGN CHOICE (log 2): the straps read 0, which makes the part node 62 at 62.5
kbit/s upstream, and the PROFILE line is low. The trips of R110 have left their notices and one ATTENTION. -/
def State.reset : State where
  toPart := { Part.atReset 62 0 false with
    pendingNotices := 0x000F
    up := { Port.atReset 0 62 with own := [firstAttention 62] } }
  pending := []

end Sys2Proof.Machine
end

