-- ==== Sys2Proof/Machine/Operands.lean ====
section
/-! DEFINITION. What the payloads of field telegrams say (R135), the numbers of nodes and objects, and the codes by
which telegrams, records and table words name states and causes. -/

namespace Sys2Proof.Machine

open Sys2Proof

/-! ## Telegram kinds (R135) -/

def kindMeter : Byte := 0x10
def kindLevel : Byte := 0x11
def kindTag : Byte := 0x12
def kindSump : Byte := 0x13
def kindEstop : Byte := 0x14
def kindStatus : Byte := 0x15
def kindRun : Byte := 0x20
def kindSet : Byte := 0x21
def kindLamp : Byte := 0x22
def kindEcho : Byte := 0x23
def kindEchoBack : Byte := 0x24
def kindCommand : Byte := 0x40
def kindReply : Byte := 0x41
def kindAttention : Byte := 0x42

/-- LAMP values (R135). -/
def lampOff : Byte := 0
def lampReady : Byte := 1
def lampFlowing : Byte := 2
def lampRefused : Byte := 3
def lampTrip : Byte := 4

/-! ## Payloads -/

/-- A METER payload (R135): pulse count, interval in ms, temperature in 0.1 °C, meter fault. -/
structure Sample where
  count : Nat
  interval : Nat
  temp : Int
  fault : Bool
  deriving DecidableEq, Repr

/-- A METER telegram with fewer than 7 payload bytes is not worked, and bytes beyond the seventh are ignored (R29). -/
def readSample : List Byte → Option Sample
  | c0 :: c1 :: i0 :: i1 :: t0 :: t1 :: st :: _ =>
    some { count := (join16 c0 c1).toNat, interval := (join16 i0 i1).toNat,
           temp := signed16 (join16 t0 t1), fault := st.getLsbD 0 }
  | _ => none

/-- A LEVEL payload (R135): product level and water level in mm, temperature in 0.1 °C, probe fault. -/
structure LevelReading where
  level : Nat
  water : Nat
  temp : Int
  fault : Bool
  deriving DecidableEq, Repr

/-- R72: fewer than 7 bytes are not worked. -/
def readLevel : List Byte → Option LevelReading
  | l0 :: l1 :: w0 :: w1 :: t0 :: t1 :: st :: _ =>
    some { level := (join16 l0 l1).toNat, water := (join16 w0 w1).toNat,
           temp := signed16 (join16 t0 t1), fault := st.getLsbD 0 }
  | _ => none

/-- A TAG payload (R135): nozzle state, tag id, hour reading, absent as FFFFFFFFh. -/
structure TagReading where
  nozzle : Nozzle
  tag : Long
  hours : Option Nat
  deriving DecidableEq, Repr

def nozzleOf : Nat → Option Nozzle
  | 0 => some .holstered
  | 1 => some .lifted
  | 2 => some .coupled
  | 3 => some .coupledShut
  | _ => none

/-- An hour figure, where FFFFFFFFh means none (R46, R135). -/
def hoursOf (w : Long) : Option Nat := if w = 0xFFFFFFFF then none else some w.toNat

/-- R136: fewer than 9 bytes start nothing. R6: a nozzle state above 3 is not acted on. -/
def readTag : List Byte → Option TagReading
  | n :: a0 :: a1 :: a2 :: a3 :: h0 :: h1 :: h2 :: h3 :: _ =>
    (nozzleOf n.toNat).map fun nozzle =>
      { nozzle := nozzle, tag := join32 a0 a1 a2 a3, hours := hoursOf (join32 h0 h1 h2 h3) }
  | _ => none

/-- A SUMP or ESTOP payload: 0 for dry or released, 1 for wet or pressed; anything else is not acted on (R94, R95). -/
def readSensor : List Byte → Option Bool
  | b :: _ => if b = 0 then some false else if b = 1 then some true else none
  | [] => none

/-- A valve's or an inlet's STATUS payload: a throttle code, or FFh for a fault (R24, R77). -/
def readValve : List Byte → Option ValveReport
  | b :: _ => if b.toNat ≤ 15 then some (.code b.toNat) else if b = 0xFF then some .fault else none
  | [] => none

/-- A temperature field is valid within −500 to +800; 8000h lies outside (R39). -/
def tempValid (t : Int) : Bool := decide (-500 ≤ t) && decide (t ≤ 800)

/-- HOLSTERED and LIFTED are uncoupled (R6). -/
def Nozzle.uncoupled : Nozzle → Bool
  | .holstered | .lifted => true
  | .coupled | .coupledShut => false

/-! ## Numbers of nodes and objects -/

/-- The node number of a device entry (R112). -/
def nodeOf (n : DevNo) : Node := BitVec.ofNat 6 (n.val + 1)

/-- The device entry of a node number: nodes 0 and 63 have none (R117). -/
def deviceOf (x : Node) : Option DevNo :=
  if h : 1 ≤ x.toNat ∧ x.toNat ≤ 62 then some ⟨x.toNat - 1, by omega⟩ else none

/-- The object that a number from 1 names, among `n`. -/
def fromOne (n x : Nat) : Option (Fin n) :=
  if h : 1 ≤ x ∧ x ≤ n then some ⟨x - 1, by omega⟩ else none

/-- The number of an object, 0 for none. -/
def numberOf {n : Nat} : Option (Fin n) → Nat
  | some i => i.val + 1
  | none => 0

/-! ## Codes (R159, R177) -/

def EndCause.code : EndCause → Nat
  | .nozzleOff => 1
  | .full => 2
  | .capReached => 3
  | .tankLow => 4
  | .pumpStop => 5
  | .meterLost => 6
  | .readerLost => 7
  | .meterFault => 8
  | .trip => 9
  | .hoseOut => 10
  | .restart => 11
  | .startFail => 12
  | .idleTimeout => 13
  | .abandoned => 14

/-- A DELIVERY record uses codes 9 and 11 for the close causes TRIP and RESTART (R159). -/
def CloseCause.code : CloseCause → Nat
  | .trip => 9
  | .restart => 11
  | .deliveryEnd => 20
  | .highHigh => 21
  | .gauge => 22

/-- The place of a refusal cause among codes 32 to 45. -/
def RefusalCause.index : RefusalCause → Fin 14
  | .hoseOut => 0
  | .bayLayup => 1
  | .zoneTripped => 2
  | .tankOut => 3
  | .deviceNotGood => 4
  | .unknownTag => 5
  | .barred => 6
  | .machineBusy => 7
  | .productNotAllowed => 8
  | .profileClass => 9
  | .serviceHold => 10
  | .queueFull => 11
  | .noHeadroom => 12
  | .tankLow => 13

def RefusalCause.code (c : RefusalCause) : Nat := 32 + c.index.val

def Cause.code : Cause → Nat
  | .sumpWet => 1
  | .estop => 2
  | .unmeteredLoss => 3
  | .restLoss => 4
  | .uncoupledFlow => 5
  | .overrun => 6
  | .sensorLost => 7
  | .command => 8
  | .restart => 9

def PortEvent.code : PortEvent → Nat
  | .crcError => 0
  | .lengthError => 1
  | .passed => 2
  | .droppedTable => 3
  | .droppedGuard => 4
  | .consumed => 5
  | .sentByPart => 6
  | .deferrals => 7
  | .queueDrop => 8

def portEventOf : Nat → Option PortEvent
  | 0 => some .crcError
  | 1 => some .lengthError
  | 2 => some .passed
  | 3 => some .droppedTable
  | 4 => some .droppedGuard
  | 5 => some .consumed
  | 6 => some .sentByPart
  | 7 => some .deferrals
  | 8 => some .queueDrop
  | _ => none

/-- The statuses of a REPLY (R167). -/
inductive Status where
  | done
  | refusedMode
  | inUse
  | badIndex
  | badValue
  | queueFull
  | causePresent
  | empty
  | unknown
  deriving DecidableEq, Repr

def Status.code : Status → Byte
  | .done => 0
  | .refusedMode => 1
  | .inUse => 2
  | .badIndex => 3
  | .badValue => 4
  | .queueFull => 5
  | .causePresent => 6
  | .empty => 7
  | .unknown => 8

def classOf : Nat → Option ProductClass
  | 0 => some .none
  | 1 => some .fuel
  | 2 => some .lube
  | 3 => some .coolant
  | _ => none

def ProductClass.code : ProductClass → Nat
  | .none => 0
  | .fuel => 1
  | .lube => 2
  | .coolant => 3

/-- The binding that a role code and an object number name, where the object lies in the role's range (R113). -/
def bindingOf (role object : Nat) : Option Binding :=
  match role with
  | 0 => if object = 0 then some .unbound else none
  | 1 => (fromOne 8 object).map .meter
  | 2 => (fromOne 8 object).map .reader
  | 3 => (fromOne 8 object).map .valve
  | 4 => (fromOne 6 object).map .starter
  | 5 => (fromOne 6 object).map .inlet
  | 6 => (fromOne 6 object).map .gauge
  | 7 => (fromOne 4 object).map .sump
  | 8 => if object = 0 then some (.estop none) else (fromOne 4 object).map (fun z => .estop (some z))
  | _ => none

def Binding.role : Binding → Nat
  | .unbound => 0
  | .meter _ => 1
  | .reader _ => 2
  | .valve _ => 3
  | .starter _ => 4
  | .inlet _ => 5
  | .gauge _ => 6
  | .sump _ => 7
  | .estop _ => 8

def Binding.object : Binding → Nat
  | .unbound => 0
  | .meter h | .reader h | .valve h => h.val + 1
  | .starter t | .inlet t | .gauge t => t.val + 1
  | .sump z => z.val + 1
  | .estop z => numberOf z

end Sys2Proof.Machine
end

