-- ==== Sys2Proof/Machine/Flags.lean ====
section
/-! DEFINITION. The flag words of the part: the flags a record carries, the sixteen notices, the zones' cause sets and
gauge marks, and the two alarm lines computed from them. -/

namespace Sys2Proof.Machine

open Sys2Proof

/-! ## Record flags -/

/-- Bits 1 to 7 of word 2 of a record (R159). -/
def Flags.bits (f : Flags) : Nat :=
  2 * f.tempSubstituted.toNat + 4 * f.hoursDoubt.toNat + 8 * f.meterDoubt.toNat + 16 * f.tapered.toNat +
  32 * f.recoveryCap.toNat + 64 * f.tankLimited.toNat + 128 * f.profileB.toNat

/-! ## Notices (R163) -/

/-- The sixteen notices, in rank order. -/
inductive Notice where
  | trip (z : ZoneNo)
  | overfillGuard
  | deviceLost
  | abnormalUse
  | hoursFault
  | tankLow
  | restGain
  | queueHigh
  | serviceDue
  | meterJump
  | deliveryVariance
  | proveDone
  | lineTestDone
  deriving DecidableEq, Repr

/-- A notice's rank, 1 being highest (R163). -/
def Notice.rank : Notice → Nat
  | .trip z => z.val + 1
  | .overfillGuard => 5
  | .deviceLost => 6
  | .abnormalUse => 7
  | .hoursFault => 8
  | .tankLow => 9
  | .restGain => 10
  | .queueHigh => 11
  | .serviceDue => 12
  | .meterJump => 13
  | .deliveryVariance => 14
  | .proveDone => 15
  | .lineTestDone => 16

/-- The bit of a notice in the pending and mask sets: bit (rank − 1) (R135, R164). -/
def Notice.bit (n : Notice) : Word := 1 <<< (n.rank - 1)

/-- Whether a notice stands in a set. -/
def Notice.isIn (n : Notice) (w : Word) : Bool := w.getLsbD (n.rank - 1)

/-- The lowest rank that is pending and not masked, or 0 (R166). -/
def topRank (pending mask : Word) : Nat :=
  match firstAt (fun i => pending.getLsbD i && !mask.getLsbD i) [0, 1, 2, 3, 4, 5, 6, 7, 8, 9, 10, 11, 12, 13, 14, 15] 1 with
  | some r => r
  | none => 0

/-! ## Zone sets and the two lines -/

/-- The bit of a cause in a cause set: bit (code − 1) (R177). -/
def Cause.bit (c : Cause) : BitVec 9 := 1 <<< (c.code - 1)

/-- The bit of a tank in a zone's gauge marks: bit (tank − 1) (R177). -/
def markBit (t : TankNo) : BitVec 6 := 1 <<< t.val

/-- SHUTDOWN's condition: at least one zone is TRIPPED (R108). -/
def Part.someTripped (p : Part) : Bool := zoneNos.any fun z => (nth p.zones z).state == .tripped

/-- BAY ALARM's condition: a zone is TRIPPED or RECOVERY, or OVERFILL_GUARD is pending (R109). -/
def Part.alarmDue (p : Part) : Bool :=
  (zoneNos.any fun z => (nth p.zones z).state != .normal) || Notice.overfillGuard.isIn p.pendingNotices

/-- The two lines are brought up to date (R108, R109). -/
def syncLines (p : Part) : Part := { p with shutdown := p.someTripped, bayAlarm := p.alarmDue }

/-! ## Saturating port counts -/

/-- A port counts an event of its present selection, to no more than 255 (R142). -/
def Port.counted (e : PortEvent) (q : Port) : Port :=
  if q.select = e then { q with count := satAdd 255 q.count 1 } else q

end Sys2Proof.Machine
end

