-- ==== Sys2Proof/Machine/Ops.lean ====
section
/-! DEFINITION. The operations all blocks share: reading and changing one object, the ports and their transmit queues,
the part's own orders to field devices, notices, records, and the answer to a COMMAND. -/

namespace Sys2Proof.Machine

open Sys2Proof

/-! ## One object of the part -/

def Part.hose (p : Part) (h : HoseNo) : Hose := nth p.hoses h
def Part.tank (p : Part) (t : TankNo) : Tank := nth p.tanks t
def Part.pump (p : Part) (t : TankNo) : Pump := nth p.pumps t
def Part.zone (p : Part) (z : ZoneNo) : Zone := nth p.zones z
def Part.device (p : Part) (n : DevNo) : Device := nth p.devices n
def Part.machine (p : Part) (m : SlotNo) : MachineRec := nth p.machines m
def Part.product (p : Part) (i : ProductNo) : Product := nth p.products i

def Part.port (p : Part) : PortId → Port
  | .up => p.up
  | .fp => p.fp

def modHose (h : HoseNo) (f : Hose → Hose) (p : Part) : Part := { p with hoses := setNth p.hoses h (f (p.hose h)) }
def modTank (t : TankNo) (f : Tank → Tank) (p : Part) : Part := { p with tanks := setNth p.tanks t (f (p.tank t)) }
def modPump (t : TankNo) (f : Pump → Pump) (p : Part) : Part := { p with pumps := setNth p.pumps t (f (p.pump t)) }
def modZone (z : ZoneNo) (f : Zone → Zone) (p : Part) : Part := { p with zones := setNth p.zones z (f (p.zone z)) }
def modDevice (n : DevNo) (f : Device → Device) (p : Part) : Part :=
  { p with devices := setNth p.devices n (f (p.device n)) }
def modMachine (m : SlotNo) (f : MachineRec → MachineRec) (p : Part) : Part :=
  { p with machines := setNth p.machines m (f (p.machine m)) }

def modPort (q : PortId) (f : Port → Port) (p : Part) : Part :=
  match q with
  | .up => { p with up := f p.up }
  | .fp => { p with fp := f p.fp }

/-- `f` for each of a list of objects, in the list's order. -/
def each {ι : Type} (is : List ι) (f : ι → Part → Part) (p : Part) : Part := is.foldl (fun q i => f i q) p

/-- The bay clock as a record or a zone notes it (R157, R173). -/
def now (p : Part) : Stamp := { secs := p.clock, unset := p.clockUnset }

/-! ## What belongs to what (R1, R92, R113) -/

/-- The zone a hose belongs to: its tank's, none while it names no tank (R1, R92). -/
def Part.hoseZone (p : Part) (h : HoseNo) : Option ZoneNo := (p.hose h).cfg.tank.map fun t => (p.tank t).cfg.zone

/-- The hose's zone is TRIPPED; a hose of no zone has no tripped zone. -/
def Part.hoseTripped (p : Part) (h : HoseNo) : Bool :=
  match p.hoseZone h with
  | some z => (p.zone z).state == .tripped
  | none => false

/-- The hoses whose tank field names a tank, in hose order. -/
def Part.tankHoses (p : Part) (t : TankNo) : List HoseNo := hoseNos.filter fun h => (p.hose h).cfg.tank == some t

/-- The hoses of a zone, in hose order (R92). -/
def Part.zoneHoses (p : Part) (z : ZoneNo) : List HoseNo := hoseNos.filter fun h => p.hoseZone h == some z

/-- The tanks of a zone, in tank order (R92). -/
def Part.zoneTanks (p : Part) (z : ZoneNo) : List TankNo := tankNos.filter fun t => (p.tank t).cfg.zone == z

/-- The node bound in a role to an object (R113). -/
def Part.boundNode (p : Part) (b : Binding) : Option DevNo := firstIdx (fun d => d.binding == b) p.devices

/-- A role of an object is GOOD when a node is bound in it and that node is GOOD (R7 check 5). -/
def Part.roleGood (p : Part) (b : Binding) : Bool :=
  match p.boundNode b with
  | some n => (p.device n).health == .good
  | none => false

/-- The product a tank's product field names, with its entry. -/
def Part.tankProduct (p : Part) (t : TankNo) : Option (ProductNo × Product) :=
  (p.tank t).cfg.product.map fun i => (i, p.product i)

/-- A product is in use while a tank naming it is IN_SERVICE or RECEIVING (R67). -/
def Part.inUse (p : Part) (i : ProductNo) : Bool :=
  tankNos.any fun t => (p.tank t).cfg.product == some i && (p.tank t).state != .outOfService

/-! ## Port events and transmit queues (R139 to R142) -/

def countEvent (q : PortId) (e : PortEvent) (p : Part) : Part := modPort q (Port.counted e) p

/-- A telegram is being received (R127). -/
def RxState.isReceiving : RxState → Bool
  | .receiving _ => true
  | .idleWait | .idle => false

/-- Room for one more telegram (R139). -/
def Port.hasRoom (q : Port) : Bool := decide (q.own.length + q.forwarded.length < Config.queuePlaces)

/-- A part-originated telegram is placed: into a full queue by displacing the most recently queued forwarded telegram,
and not at all when there is none (R141). -/
def Port.placeOwn (t : Telegram) (q : Port) : Port :=
  if q.hasRoom then { q with own := q.own ++ [t] }
  else if q.forwarded.isEmpty then q.counted .queueDrop
  else { q with forwarded := q.forwarded.dropLast, own := q.own ++ [t] }.counted .queueDrop

/-- A forwarded telegram is placed, or dropped from a full queue (R141). -/
def Port.placeForwarded (t : Telegram) (q : Port) : Port :=
  if q.hasRoom then { q with forwarded := q.forwarded ++ [t] } else q.counted .queueDrop

/-- A waiting telegram that an order replaces: the same kind to the same node (R140). -/
def sameOrder (t u : Telegram) : Bool := u.kind == t.kind && u.head.dst == t.head.dst

/-- A forwarded RUN or SET addressed to all nodes is replaced with it (R140). -/
def sameToAll (t u : Telegram) : Bool :=
  (t.kind == kindRun || t.kind == kindSet) && u.kind == t.kind && u.head.dst == 63

/-- A RUN, SET, LAMP or ECHO of the part's own is queued in place of what it replaces (R140). -/
def Port.queueOrder (t : Telegram) (q : Port) : Port :=
  Port.placeOwn t
    { q with own := q.own.filter fun u => !sameOrder t u,
             forwarded := q.forwarded.filter fun u => !(sameOrder t u || sameToAll t u) }

/-- An ATTENTION is queued in place of any still waiting (R140). DEDUCED (log 9): "in the same way" takes in a
forwarded telegram of that kind to all nodes. -/
def Port.queueAttention (t : Telegram) (q : Port) : Port :=
  Port.placeOwn t
    { q with own := q.own.filter fun u => u.kind != kindAttention,
             forwarded := q.forwarded.filter fun u => !(u.kind == kindAttention && u.head.dst == 63) }

/-- The end of a telegram heard at a port: the line has been idle for 3 character times, and a rate that waited for
this telegram takes effect (R131, R137, R138). DEDUCED (log 10). -/
def Port.heardEnd (q : Port) : Port :=
  match q.flight, q.nextRate with
  | none, some r => { q with rate := r, nextRate := none, rx := .idleWait }
  | _, _ => { q with rx := .idle }

/-! ## The part's own orders on the field line (R133, R135) -/

/-- A telegram the part originates on the field line: class 1, source 0. -/
def orderTelegram (kind : Byte) (n : DevNo) (payload : List Byte) : Telegram :=
  { head := { dst := nodeOf n, cls := 1, src := 0, rsv := 0 }, kind := kind, payload := payload }

/-- An order to the node bound in a role; none is sent where none is bound. -/
def order (kind : Byte) (b : Binding) (value : Byte) (p : Part) : Part :=
  match p.boundNode b with
  | some n => modPort .fp (Port.queueOrder (orderTelegram kind n [value])) p
  | none => p

/-- SET to a hose's valve. -/
def sendValve (h : HoseNo) (code : Nat) (p : Part) : Part := order kindSet (.valve h) (BitVec.ofNat 8 code) p

/-- SET to a tank's inlet. -/
def sendInlet (t : TankNo) (code : Nat) (p : Part) : Part := order kindSet (.inlet t) (BitVec.ofNat 8 code) p

/-- RUN to a tank's starter. -/
def sendRun (t : TankNo) (value : Nat) (p : Part) : Part := order kindRun (.starter t) (BitVec.ofNat 8 value) p

/-- LAMP to a hose's reader, whatever the zone's state (R99, R104). -/
def forceLamp (h : HoseNo) (lamp : Byte) (p : Part) : Part := order kindLamp (.reader h) lamp p

/-- LAMP from a hose controller: while the hose's zone is TRIPPED none is sent but LAMP trip (R10). -/
def sendLamp (h : HoseNo) (lamp : Byte) (p : Part) : Part :=
  if lamp != lampTrip && p.hoseTripped h then p else forceLamp h lamp p

/-! ## Notices (R163) -/

/-- The ATTENTION that shows the pending set as it stands (R133, R135, R163). -/
def attentionTelegram (p : Part) : Telegram where
  head := { dst := 63, cls := 3, src := p.up.node, rsv := 0 }
  kind := kindAttention
  payload := bytes16 p.pendingNotices ++ [BitVec.ofNat 8 (topRank p.pendingNotices p.noticeMask)]

/-- A notice is raised: nothing changes when it is pending; otherwise it becomes pending, the lines follow it, and an
ATTENTION is queued unless it is masked (R163, R109). -/
def raise (n : Notice) (p : Part) : Part :=
  if n.isIn p.pendingNotices then p
  else
    let q := syncLines { p with pendingNotices := p.pendingNotices ||| n.bit }
    if n.isIn q.noticeMask then q else modPort .up (Port.queueAttention (attentionTelegram q)) q

/-! ## Records (R155 to R162) -/

/-- Queued records plus reserved slots (R155). -/
def Part.occupied (p : Part) : Nat := p.records.length + p.reserved

/-- `k` more places can be reserved (R156). -/
def Part.canReserve (p : Part) (k : Nat) : Bool := decide (p.occupied + k ≤ Config.recordPlaces)

def reserve (k : Nat) (p : Part) : Part := { p with reserved := p.reserved + k }
def release (k : Nat) (p : Part) : Part := { p with reserved := p.reserved - k }

/-- While the window selects RECORD_HEAD, a change of the head record puts its offset at 0 (R160). -/
def headChanged (p : Part) : Part :=
  if p.cursor.sel = .recordHead then { p with cursor := { p.cursor with offset := 0 } } else p

/-- A record is placed at the tail under the next serial number, and QUEUE_HIGH is raised when that takes the queued
count from 47 to 48 (R157, R160, R162). -/
def placeRecord (r : Record) (p : Part) : Part :=
  let q := { p with records := p.records ++ [{ r with serial := p.nextSerial }],
                    nextSerial := (p.nextSerial + 1) % 65536 }
  let q := if p.records.isEmpty then headChanged q else q
  if p.records.length = 47 then raise .queueHigh q else q

/-- A record is placed into the slot reserved for it (R156). -/
def placeReserved (r : Record) (p : Part) : Part := placeRecord r (release 1 p)

/-- A record with its own part, every field that does not apply at zero (R158). -/
def blankRecord (body : RecordBody) (start ended : Stamp) : Record where
  serial := 0
  cause := 0
  clockUnset := start.unset || ended.unset
  flags := {}
  hose := 0
  tank := 0
  product := 0
  jumps := 0
  slot := 0
  start := start.secs
  ended := ended.secs
  tag := 0
  hours := 0
  body := body

/-! ## COMMANDs and their answers (R133, R134, R167) -/

/-- The REPLY to a COMMAND from `src`. -/
def replyTelegram (p : Part) (src : Node) (st : Status) (data : List Byte) : Telegram where
  head := { dst := src, cls := 2, src := p.up.node, rsv := 0 }
  kind := kindReply
  payload := st.code :: data

/-- One REPLY is queued in the part-originated section of the upstream queue (R167). -/
def reply (src : Node) (st : Status) (data : List Byte) (p : Part) : Part :=
  modPort .up (Port.placeOwn (replyTelegram p src st data)) p

/-- A telegram addressed to the part ends at the upstream port and is counted as CONSUMED (R134, R174). -/
def consumeUp (p : Part) : Part := modPort .up (fun q => q.heardEnd.counted .consumed) p

/-- What a command's owner answers: the part after its effects, the status, and the reply's data. -/
structure Answer where
  part : Part
  status : Status
  data : List Byte := []

/-- A COMMAND is taken: consumed at its port, carried out, and answered once its effects have been made (R167). -/
def command (src : Node) (f : Part → Answer) (p : Part) : Part :=
  let a := f (consumeUp p)
  reply src a.status a.data a.part

/-- The answer that changes nothing. -/
def refuse (st : Status) (p : Part) : Answer := { part := p, status := st }

/-- The answer DONE, with no data. -/
def done (p : Part) : Answer := { part := p, status := .done }

/-- A COMMAND with fewer parameter bytes than its command needs is answered BAD_VALUE and has no effect (R167). -/
def withArgs {α : Type} (args : Option α) (f : α → Part → Answer) (p : Part) : Answer :=
  match args with
  | some a => f a p
  | none => refuse .badValue p

/-- An object number of a COMMAND, answered BAD_INDEX outside 1 to `n`. -/
def withIndex (n : Nat) (x : Byte) (f : Fin n → Part → Answer) (p : Part) : Answer :=
  match fromOne n x.toNat with
  | some i => f i p
  | none => refuse .badIndex p

/-- The event reaches the part and leaves the waiting events as they are. -/
def State.on (f : Part → Part) (s : State) : State := { s with toPart := f s.toPart }

/-- The outcome of an event whose effect on the part is `f`. -/
def outcome (f : Part → Part) (s : State) : Host.Outcome State Fault Refusal := .next (s.on f)

end Sys2Proof.Machine
end

