-- ==== Sys2Proof/Machine/Metering.lean ====
section
/-! DEFINITION. The volume arithmetic of chapters 2 and 4: the stages from a pulse count to net millilitres (R32 to
R42), the factor curve (R36), the volume correction factor (R40), and the gauge computation (R71, R73, R74). -/

namespace Sys2Proof.Machine

open Sys2Proof

/-! ## Stage 1 and 2: delta and rate -/

/-- The pulse count less the baseline, modulo 65,536 (R32). -/
def deltaOf (baseline count : Nat) : Nat := (count + 65536 - baseline) % 65536

/-- The rate of a sample in L/min; an interval of 0 takes the last rate, or the flow of the curve's first point (R35). -/
def rateOf (delta weight interval : Nat) (last : Option Nat) (firstFlow : Nat) : Nat :=
  if interval = 0 then last.getD firstFlow else delta * weight * 60 / (interval * 1000)

/-! ## Stage 3: the factor curve -/

/-- The points in use (R1, R177). -/
def HoseConfig.curve (c : HoseConfig) : List CurvePoint := c.points.toList.take c.pointCount

/-- The taper steps in use. -/
def HoseConfig.taper (c : HoseConfig) : List TaperStep := c.steps.toList.take c.stepCount

/-- Flows strictly increasing (R4). -/
def flowsRise : List CurvePoint → Bool
  | p :: q :: rest => decide (p.flow < q.flow) && flowsRise (q :: rest)
  | _ => true

/-- A factor within 90,000 to 110,000 (R1). -/
def factorOk (f : Nat) : Bool := decide (90000 ≤ f) && decide (f ≤ 110000)

/-- The checks HOSE_SERVICE in makes on a curve (R4). -/
def curveOk (ps : List CurvePoint) : Bool := !ps.isEmpty && flowsRise ps && ps.all fun q => factorOk q.factor

/-- Interpolation between two neighbouring points, the division truncated toward zero (R36). -/
def interpolate (lo hi : CurvePoint) (rate : Nat) : Nat :=
  ((lo.factor : Int) +
    Int.tdiv (((rate : Int) - lo.flow) * ((hi.factor : Int) - lo.factor)) ((hi.flow : Int) - lo.flow)).toNat

/-- The factor from a point at or below the rate and the points after it. -/
def factorFrom (lo : CurvePoint) : List CurvePoint → Nat → Nat
  | [], _ => lo.factor
  | hi :: rest, rate => if hi.flow ≤ rate then factorFrom hi rest rate else interpolate lo hi rate

/-- The factor of a curve at a rate (R36). -/
def factorAt : List CurvePoint → Nat → Nat
  | [], _ => 0
  | p :: rest, rate => if rate ≤ p.flow then p.factor else factorFrom p rest rate

/-! ## Stage 5: temperature correction -/

/-- The volume correction factor in ppm, clamped to 900,000 to 1,100,000 (R40). -/
def vcfOf (beta : Nat) (t : Int) : Nat := (clampInt (1000000 - roundTenth (beta * (t - 150))) 900000 1100000).toNat

/-- The temperature that corrects: the telegram's own when it is valid, the product's fallback otherwise (R39, R74). -/
def usedTemp (own fallback : Int) : Int := if tempValid own then own else fallback

/-! ## Stages 4 and 6: gross and net -/

/-- A sample worked through the residues of a set: the set after it, and its whole gross and net millilitres (R37, R38,
R41, R42). -/
structure Worked where
  meter : MeterSet
  gross : Nat
  net : Nat
  deriving DecidableEq, Repr

def workSample (delta weight factor vcf rate : Nat) (m : MeterSet) : Worked :=
  let grossNum := delta * weight * factor + m.a
  let grossMicro := grossNum / 100000
  let grossSum := m.b + grossMicro
  let netNum := grossMicro * vcf + m.c
  let netMicro := netNum / 1000000
  let netSum := m.d + netMicro
  { meter := { a := grossNum % 100000, b := grossSum % 1000, c := netNum % 1000000, d := netSum % 1000,
               lastRate := some rate },
    gross := grossSum / 1000, net := netSum / 1000 }

/-- What a hose needs for its samples to have volume: a tank with a product of some class, a pulse weight, and a curve
(R29). -/
structure MeterContext where
  tank : TankNo
  product : Product
  weight : Nat
  ceiling : Nat
  curve : List CurvePoint

def Part.meterContext (p : Part) (h : HoseNo) : Option MeterContext :=
  let c := (p.hose h).cfg
  match c.tank with
  | none => none
  | some t =>
    match p.tankProduct t with
    | none => none
    | some (_, prod) =>
      if prod.cls = .none || c.pulseWeight = 0 || c.pointCount = 0 then none
      else some { tank := t, product := prod, weight := c.pulseWeight, ceiling := c.pulseCeiling, curve := c.curve }

/-! ## Gauge stock -/

/-- The strapping points in use. -/
def TankConfig.table (c : TankConfig) : List StrapPoint := c.straps.toList.take c.strapCount

/-- Levels strictly increasing, volumes not decreasing (R71 check 2). -/
def strapsRise : List StrapPoint → Bool
  | p :: q :: rest => decide (p.level < q.level) && decide (p.volume ≤ q.volume) && strapsRise (q :: rest)
  | _ => true

/-- The last point of a table. -/
def lastStrap (ps : List StrapPoint) : StrapPoint := ps.getLastD ⟨0, 0⟩

/-- R71 check 2. -/
def TankConfig.strapsOk (c : TankConfig) : Bool :=
  decide (2 ≤ c.table.length) && (c.table.headD ⟨1, 0⟩).level == 0 && strapsRise c.table

/-- R71 check 3. -/
def TankConfig.capacityOk (c : TankConfig) : Bool :=
  decide (0 < c.capacity) && decide ((lastStrap c.table).volume ≤ c.capacity)

/-- A strapping table that passes checks 2 and 3 of R71. -/
def TankConfig.tableValid (c : TankConfig) : Bool := c.strapsOk && c.capacityOk

/-- The volume from a point at or below the level and the points after it, in mL. -/
def volumeFrom (lo : StrapPoint) : List StrapPoint → Nat → Nat
  | [], _ => lo.volume * 1000
  | hi :: rest, level =>
    if hi.level ≤ level then volumeFrom hi rest level
    else lo.volume * 1000 + (level - lo.level) * (hi.volume - lo.volume) * 1000 / (hi.level - lo.level)

/-- The volume at a level, in mL: the last volume above the last level (R73). -/
def volumeAt : List StrapPoint → Nat → Nat
  | [], _ => 0
  | p :: rest, level => volumeFrom p rest level

/-- The gauge gross: product less water, 0 when the water stands as high (R74). -/
def gaugeGross (ps : List StrapPoint) (level water : Nat) : Nat :=
  if water < level then volumeAt ps level - volumeAt ps water else 0

/-- The gauge net of a good reading, in mL (R74). -/
def gaugeNetOf (ps : List StrapPoint) (level water : Nat) (beta : Nat) (temp : Int) : Nat :=
  gaugeGross ps level water * vcfOf beta temp / 1000000

end Sys2Proof.Machine
end

