-- ==== Sys2Proof/Machine/Accounts.lean ====
section
/-! DEFINITION. The Account store's arithmetic (chapter 3): the trust of hour readings, the service hold, the fill caps
and the close update. -/

namespace Sys2Proof.Machine

open Sys2Proof

/-- A reading is trusted unless it is absent, below the last reading, or more than 200.0 h above it (R50). -/
def MachineRec.trusts (m : MachineRec) : Option Nat → Bool
  | none => false
  | some h =>
    match m.lastHours with
    | none => true
    | some last => decide (last ≤ h) && decide (h ≤ last + 2000)

/-- The assessment recorded at check 13 (R51): the record after it, and whether it raises HOURS_FAULT. -/
def MachineRec.assess (m : MachineRec) (hours : Option Nat) : MachineRec × Bool :=
  if m.trusts hours then ({ m with doubt := 0, lastHours := hours }, false)
  else
    let doubt := min 7 (m.doubt + 1)
    if doubt = 7 then ({ m with doubt := 7, state := .barred }, true) else ({ m with doubt := doubt }, false)

/-! ## Service hold (R53) -/

/-- Hours since service, when the hours test can be made: the reading trusted, a last service and an interval. -/
def MachineRec.hoursSinceService (m : MachineRec) (hours : Option Nat) : Option Nat :=
  match hours, m.hoursAtService with
  | some h, some at_ => if m.trusts hours && m.serviceInterval != 0 then some (h - at_) else none
  | _, _ => none

/-- The hours test: at or above 125 % of the interval. -/
def MachineRec.hoursTestMet (m : MachineRec) (hours : Option Nat) : Bool :=
  match m.hoursSinceService hours with
  | some used => decide (m.serviceInterval * 1250 ≤ used * 100)
  | none => false

/-- The lube test. -/
def MachineRec.lubeTestMet (m : MachineRec) : Bool := m.lubeLimit != 0 && decide (m.lubeLimit ≤ m.lubeSinceService)

/-- The hold after its evaluation: set when a test is met, left as it was on a doubtful reading, cleared otherwise. -/
def MachineRec.evaluatedHold (m : MachineRec) (hours : Option Nat) : Bool :=
  if m.hoursTestMet hours || m.lubeTestMet then true else if m.trusts hours then false else m.hold

/-- SERVICE_DUE is raised when the hours since service have reached the interval. -/
def MachineRec.serviceDue (m : MachineRec) (hours : Option Nat) : Bool :=
  match m.hoursSinceService hours with
  | some used => decide (m.serviceInterval * 10 ≤ used)
  | none => false

/-! ## Fill caps (R54 to R56) -/

/-- The hours can be used for a fuel cap: the reading is trusted and the hours at last full are known. -/
def MachineRec.fuelBasis (m : MachineRec) (hours : Option Nat) : Option Nat :=
  match hours, m.hoursAtFull with
  | some h, some full => if m.trusts hours then some (h - full) else none
  | _, _ => none

/-- What the machine can have burned since its last full fill, less what it has had, held within its capacity. -/
def MachineRec.headroom (m : MachineRec) (capacity elapsed : Nat) : Nat :=
  min (capacity * 1000) (elapsed * m.burnRate / 10 - m.addedSinceFull)

/-- The class cap of a FUEL product, in mL (R54). -/
def fuelCap (pr : Profile) (m : MachineRec) (capacity : Nat) (hours : Option Nat) : Nat :=
  match m.fuelBasis hours with
  | some elapsed =>
    let room := m.headroom capacity elapsed
    min (capacity * 1000) (room + max (pr.marginFloor * 1000) (room * pr.marginPct / 100))
  | none => capacity * 1000 * pr.blindPct / 100

/-- The class cap of a LUBE product, in mL (R55). -/
def lubeCap (m : MachineRec) (allowance : Nat) : Nat :=
  if m.lubeLimit = 0 then allowance * 1000 else min allowance (m.lubeLimit - m.lubeSinceService) * 1000

/-- The class cap, in mL (R54, R55). -/
def classCap (pr : Profile) (m : MachineRec) (cls : ProductClass) (allowance : Nat) (hours : Option Nat) : Nat :=
  match cls with
  | .fuel => fuelCap pr m allowance hours
  | .lube => lubeCap m allowance
  | .coolant => allowance * 1000
  | .none => 0

/-- HOURS_DOUBT: on a doubtful reading, and for fuel when the hours at last full are none (R51, R54). -/
def hoursDoubt (m : MachineRec) (cls : ProductClass) (hours : Option Nat) : Bool :=
  !m.trusts hours || (cls == .fuel && m.hoursAtFull.isNone)

/-- The cap bounded by the profile's ceiling and, in a recovering zone, its recovery cap (R56 steps 1 and 2). -/
def profileBound (pr : Profile) (recovering : Bool) (cap : Nat) : Nat :=
  let cap := min cap (pr.ceiling * 1000)
  if recovering then min cap (pr.recoveryCap * 1000) else cap

/-- TANK_LIMITED: the tank bound is below the figure so far, or not above 0 (R56). -/
def tankLimited (bound : Int) (cap : Nat) : Bool := decide (bound < cap) || decide (bound ≤ 0)

/-- The overrun allowance captured with a cap (R8, R56). -/
def overrunAllowance (cap : Nat) : Nat := max 20000 (cap * 2 / 100)

/-- The current profile allows a class (R57, R59). -/
def Profile.allows (pr : Profile) : ProductClass → Bool
  | .fuel => pr.fuel
  | .lube => pr.lube
  | .coolant => pr.coolant
  | .none => false

/-! ## The close update (R60 to R63) -/

/-- The elapsed time a FULL fuel fill learns from: at least 2.0 h since the last full (R61). -/
def MachineRec.learnsFrom (m : MachineRec) (hours : Option Nat) : Option Nat :=
  match hours, m.hoursAtFull with
  | some h, some full => if full + 20 ≤ h then some (h - full) else none
  | _, _ => none

/-- The burn rate after a learning fill, and whether the fill is abnormal (R61, R62). -/
def MachineRec.learned (m : MachineRec) (observed : Nat) : Nat × Bool :=
  if m.learnCount = 0 then (min 2000000 observed, false)
  else if 4 ≤ m.learnCount && decide (3 * m.burnRate < 2 * observed) then (m.burnRate, true)
  else (min 2000000 ((3 * m.burnRate + observed) / 4), false)

/-- The class update of a FUEL fill: the record after it, and whether it raises ABNORMAL_USE (R61, R62). -/
def MachineRec.fuelClose (m : MachineRec) (net : Nat) (cause : EndCause) (hours : Option Nat) : MachineRec × Bool :=
  let m := { m with lifetimeFuel := satAdd max32 m.lifetimeFuel (net / 1000) }
  if cause = .full then
    match m.learnsFrom hours with
    | some elapsed =>
      let (rate, odd) := m.learned ((m.addedSinceFull + net) * 10 / elapsed)
      ({ m with burnRate := rate, abnormal := m.abnormal || odd, learnCount := satAdd 255 m.learnCount 1,
                hoursAtFull := hours, addedSinceFull := 0 }, odd)
    | none => ({ m with addedSinceFull := 0, hoursAtFull := hours }, false)
  else ({ m with addedSinceFull := satAdd max32 m.addedSinceFull net }, false)

/-- The close update of a fill (R60, R63). -/
def MachineRec.close (m : MachineRec) (cls : ProductClass) (net : Nat) (cause : EndCause) (hours : Option Nat) :
    MachineRec × Bool :=
  let m := { m with fillCount := satAdd max16 m.fillCount 1 }
  match cls with
  | .fuel => m.fuelClose net cause hours
  | .lube => ({ m with lubeSinceService := satAdd max16 m.lubeSinceService ((net + 999) / 1000) }, false)
  | .coolant | .none => (m, false)

/-- The slot that holds a tag; a tag of 0 finds nothing (R47). -/
def Part.findTag (p : Part) (tag : Long) : Option SlotNo :=
  if tag = 0 then none else firstIdx (fun m => m.tag == tag) p.machines

end Sys2Proof.Machine
end

