-- ==== Sys2Proof/Machine/Hose.lean ====
section
/-! DEFINITION. The hose controllers' own operations: pump claims and releases (R11), the open-hose count (R69), the
end of a fill (R18 to R21), the end of a proving run (R181), entry to OUT (R5), and the end request all blocks send. -/

namespace Sys2Proof.Machine

open Sys2Proof

def setMode (h : HoseNo) (m : HoseMode) (p : Part) : Part := modHose h (fun x => { x with mode := m }) p

/-- The run in progress of a session replaced. -/
def Session.withRun (s : Session) (r : ProvingRun) : Session := { s with run := some r }

/-- A hose in READY, FLOWING or PAUSED (R11, R18). -/
def HoseMode.dispensing : HoseMode → Bool
  | .fill (.closing _ _) _ => false
  | .fill _ _ => true
  | _ => false

/-- A hose in CLOSING. -/
def HoseMode.isClosing : HoseMode → Bool
  | .fill (.closing _ _) _ => true
  | _ => false

/-- The run in progress, if the hose has one. -/
def HoseMode.run : HoseMode → Option ProvingRun
  | .proving s => s.run
  | _ => none

/-- The tally of the open transaction or of the run in progress. -/
def HoseMode.tally : HoseMode → Option Tally
  | .fill _ t => some t.tally
  | .proving s => s.run.map (·.tally)
  | _ => none

/-- The tally of the open transaction or of the run in progress, changed. -/
def HoseMode.modTally (f : Tally → Tally) : HoseMode → HoseMode
  | .fill ph t => .fill ph { t with tally := f t.tally }
  | .proving s => .proving { s with run := s.run.map fun r => { r with tally := f r.tally } }
  | m => m

def modTally (h : HoseNo) (f : Tally → Tally) (p : Part) : Part :=
  modHose h (fun x => { x with mode := x.mode.modTally f }) p

/-! ## Timers (R12, R14, R15, R19, R180)

A timer's running is part of the state it belongs to; these say which timers run and what they were started at, in
seconds. -/

/-- The idle timer: in READY and PAUSED, and through a proving run. -/
def Hose.idleTimer (x : Hose) : Option Nat :=
  match x.mode with
  | .fill .ready _ | .fill .paused _ => some x.cfg.pauseTimeout
  | .proving s => s.run.map fun _ => x.cfg.pauseTimeout
  | _ => none

/-- The 10 s pause timer. -/
def Hose.pauseTimer (x : Hose) : Option Nat :=
  match x.mode with
  | .fill .flowing _ => some 10
  | _ => none

/-- The 5 s confirm timer runs while the pump wait is set. -/
def Hose.confirmTimer (x : Hose) : Option Nat :=
  match x.mode.tally with
  | some t => if t.pumpWait then some 5 else none
  | none => none

/-- The 5 s drain window. -/
def Hose.drainTimer (x : Hose) : Option Nat := if x.mode.isClosing then some 5 else none

/-! ## The pump (R11, R12) -/

/-- A claim on a tank's pump, by the transaction or run just opened on hose `h`: from 0 to 1 it sends RUN 1, clears the
pump-confirmed flag and starts the claimant's pump wait; without a starter it sets the flag and starts no wait. -/
def claimPump (h : HoseNo) (t : TankNo) (p : Part) : Part :=
  let q := modPump t (fun u => { u with count := u.count + 1 }) p
  if (p.pump t).count = 0 then
    if (p.boundNode (.starter t)).isSome then
      sendRun t 1 (modTally h (fun y => { y with pumpWait := true }) (modPump t (fun u => { u with confirmed := false }) q))
    else modPump t (fun u => { u with confirmed := true }) q
  else q

/-- A release: from 1 to 0 it sends RUN 0 and clears the pump-confirmed flag. -/
def releasePump (t : TankNo) (p : Part) : Part :=
  let q := modPump t (fun u => { u with count := u.count - 1 }) p
  if (p.pump t).count = 1 then sendRun t 0 (modPump t (fun u => { u with confirmed := false }) q) else q

/-! ## The open-hose count (R69, R81, R83) -/

/-- A transaction or a proving run opens on a hose of the tank: the loss window starts waiting when the count rises
from 0, and a running rest window is abandoned. -/
def openOnTank (t : TankNo) (p : Part) : Part :=
  modTank t (fun x => { x with openHoses := x.openHoses + 1, rest := .none,
                               loss := if x.openHoses = 0 && x.loss == .none then .waiting else x.loss }) p

/-- A transaction or a proving run of the tank is over: the loss window ends when the count falls to 0. -/
def closeOnTank (t : TankNo) (p : Part) : Part :=
  modTank t (fun x => { x with openHoses := x.openHoses - 1,
                               loss := if x.openHoses - 1 = 0 then .none else x.loss }) p

/-! ## The end of a fill -/

/-- Entry to CLOSING (R19): the end cause and time, SET 0, the lamp, the pump wait cleared, the claim released. The
drain window starts. -/
def enterClosing (h : HoseNo) (cause : EndCause) (t : Transaction) (p : Part) : Part :=
  setMode h (.fill (.closing cause (now p)) { t with tally := { t.tally with lastCode := 0, pumpWait := false } }) p
  |> sendValve h 0
  |> sendLamp h (if cause = .trip then lampTrip else lampOff)
  |> releasePump t.tank

/-- The FILL record of a closed transaction (R21, R158). -/
def fillRecord (h : HoseNo) (t : Transaction) (cause : EndCause) (ended : Stamp) : Record :=
  { blankRecord (.fill t.tally.gross t.tally.net t.cap (t.tally.lastTemp.getD 0)) t.start ended with
    cause := cause.code
    flags := t.tally.flags
    hose := h.val + 1
    tank := t.tank.val + 1
    product := t.product.val + 1
    jumps := t.tally.jumps
    slot := t.slot.val
    tag := t.tag
    hours := t.hours.getD max32 }

/-- The close update and the release of the machine (R21, R60). -/
def closeMachine (t : Transaction) (cause : EndCause) (p : Part) : Part :=
  let (m, odd) := (p.machine t.slot).close t.cls t.tally.net cause t.hours
  let q := modMachine t.slot (fun _ => m) p
  let q := if odd then raise .abnormalUse q else q
  modMachine t.slot (fun x => { x with openHose := none }) q

/-- Entry to OUT (R5): SET 0 to the valve, and LAMP off unless the zone is TRIPPED. The handling in force is the
record's. -/
def enterOut (h : HoseNo) (p : Part) : Part := setMode h .out p |> sendValve h 0 |> sendLamp h lampOff

/-- A hose leaves CLOSING (R21): its record goes into its reservation, the close update is made, the machine is free
again, and the hose becomes OUT if pending out is set, IDLE otherwise. -/
def leaveClosing (h : HoseNo) (p : Part) : Part :=
  match (p.hose h).mode with
  | .fill (.closing cause ended) t =>
    let q := placeReserved (fillRecord h t cause ended) p
      |> closeMachine t cause
      |> closeOnTank t.tank
    if (p.hose h).pendingOut then enterOut h (modHose h (fun x => { x with pendingOut := false }) q)
    else setMode h .idle q
  | _ => p

/-! ## The end of a proving run (R181) -/

/-- The gross-weighted factor of a run. -/
def ProvingRun.factorUsed (r : ProvingRun) (curve : List CurvePoint) : Nat :=
  if r.sumVolume = 0 then (curve.headD ⟨0, 0⟩).factor else r.sumFactored / r.sumVolume

/-- The mean rate of a run. -/
def ProvingRun.meanRate (r : ProvingRun) (curve : List CurvePoint) : Nat :=
  if r.sumInterval = 0 then r.tally.meter.lastRate.getD (curve.headD ⟨0, 0⟩).flow
  else r.sumVolume * 60 / (r.sumInterval * 1000)

/-- What an ended run holds (R178, R181). -/
def ProvingRun.finish (r : ProvingRun) (cause : EndCause) (curve : List CurvePoint) (prod : Product) : EndedRun where
  cause := cause
  gross := r.tally.gross
  net := r.tally.net
  lastTemp := r.tally.lastTemp
  flags := r.tally.flags
  jumps := r.tally.jumps
  meanRate := r.meanRate curve
  factorUsed := r.factorUsed curve
  vcf := vcfOf prod.beta (r.tally.lastTemp.getD prod.fallback)
  result := none

/-- The PROVE record of an ended run (R158, R181). DESIGN CHOICE (log 39): the last temperature of a run with no worked
sample reads 0. -/
def proveRecord (h : HoseNo) (tank product number : Nat) (r : ProvingRun) (cause : EndCause) (ended : Stamp) : Record :=
  { blankRecord (.prove r.tally.gross r.tally.net number (r.tally.lastTemp.getD 0)) r.start ended with
    cause := cause.code
    flags := r.tally.flags
    hose := h.val + 1
    tank := tank
    product := product
    jumps := r.tally.jumps }

/-- The product a hose's tank holds; an entry of class NONE where it names none. -/
def Part.hoseProduct (p : Part) (h : HoseNo) : Product :=
  match (p.hose h).cfg.tank with
  | some t => match p.tankProduct t with
    | some (_, prod) => prod
    | none => ⟨.none, 0, 150⟩
  | none => ⟨.none, 0, 150⟩

/-- The number of the product of a hose's tank, 0 for none. -/
def Part.hoseProductNo (p : Part) (h : HoseNo) : Nat :=
  match (p.hose h).cfg.tank with
  | some t => numberOf (p.tank t).cfg.product
  | none => 0

/-- The run in progress ends (R181): SET 0, the lamp, the claim released, the open-hose count down, the results worked
and the PROVE record placed into one of the session's reservations. -/
def endRun (h : HoseNo) (cause : EndCause) (s : Session) (r : ProvingRun) (p : Part) : Part :=
  let x := p.hose h
  let run := r.finish cause x.cfg.curve (p.hoseProduct h)
  let q := setMode h (.proving { s with run := none, ended := s.ended ++ [run] }) p
    |> sendValve h 0
    |> sendLamp h (if cause = .trip then lampTrip else lampOff)
  let q := match x.cfg.tank with
    | some t => closeOnTank t (releasePump t q)
    | none => q
  placeReserved (proveRecord h (numberOf x.cfg.tank) (p.hoseProductNo h) (s.ended.length + 1) r cause (now p)) q

/-! ## End requests (R18) -/

/-- The causes that end a proving run on a request from another block (R181). -/
def EndCause.endsRun : EndCause → Bool
  | .tankLow | .hoseOut | .restart => false
  | _ => true

/-- An end request reaches a hose (R18, R20, R181). -/
def endRequest (h : HoseNo) (cause : EndCause) (p : Part) : Part :=
  match (p.hose h).mode with
  | .idle | .out => p
  | .fill (.closing _ _) _ => if cause = .trip then sendLamp h lampTrip p else p
  | .fill _ t => enterClosing h cause t p
  | .proving s =>
    match s.run with
    | some r => if cause.endsRun then endRun h cause s r p else p
    | none => p

/-- Every hose of a tank in READY, FLOWING or PAUSED is sent an end request (R80). DESIGN CHOICE (log 37): in hose number
order. -/
def endFills (t : TankNo) (cause : EndCause) (p : Part) : Part :=
  each (p.tankHoses t) (fun h q => if (q.hose h).mode.dispensing then endRequest h cause q else q) p

/-- The tank is taken as not pumping (R13): its open fills and its proving runs end with PUMP_STOP, and the
pump-confirmed flag is cleared. DESIGN CHOICE (log 37): the hoses are ended in hose number order, which orders their
telegrams and the PROVE records of their runs. -/
def stopPumping (t : TankNo) (p : Part) : Part :=
  let q := if 0 < (p.pump t).count then each (p.tankHoses t) (fun h q => endRequest h .pumpStop q) p else p
  modPump t (fun u => { u with confirmed := false }) q

/-- The pump is confirmed, and every pump wait on the tank ends (R12, R13). -/
def confirmPump (t : TankNo) (p : Part) : Part :=
  each (p.tankHoses t) (fun h q => modTally h (fun y => { y with pumpWait := false }) q)
    (modPump t (fun u => { u with confirmed := true }) p)

/-- METER_DOUBT is set in the open transaction (R34, R123) or in the run in progress (R34, R180). -/
def markDoubt (h : HoseNo) (p : Part) : Part :=
  modTally h (fun y => { y with flags := { y.flags with meterDoubt := true } }) p

end Sys2Proof.Machine
end

