-- ==== Sys2Proof/Machine/Trip.lean ====
section
/-! DEFINITION. The Trip unit (chapter 5): trip sources and the trip, reset and recovery. -/

namespace Sys2Proof.Machine

open Sys2Proof

/-- The delivery's inlet closes for the first time (R86 to R88); a later closing leaves the first cause. -/
def Delivery.close (cause : CloseCause) (d : Delivery) : Delivery :=
  match d.closed with
  | none => { d with closed := some cause }
  | some _ => d

/-- Step 5 of R99: an OPEN inlet of a delivery becomes CLOSED with close cause TRIP (R88). -/
def tripDelivery (t : TankNo) (p : Part) : Part :=
  modTank t (fun x => { x with delivery := x.delivery.map (Delivery.close .trip) }) p

/-- Step 4 of R99 over the given hoses and tanks: SET 0 to the valves, SET 0 to the inlets, RUN 0 to the starters, LAMP
trip to the readers. DESIGN CHOICE (log 37): the valves and the readers each in hose number order, the inlets and the
starters each in tank number order. -/
def shutOrders (hs : List HoseNo) (ts : List TankNo) (p : Part) : Part :=
  each hs (fun h => sendValve h 0) p
  |> each ts (fun t => sendInlet t 0)
  |> each ts (fun t => sendRun t 0)
  |> each hs (fun h => forceLamp h lampTrip)

/-! ## What may not begin to be sent (R101) -/

/-- An order that would start a pump, or open a valve or an inlet, of a TRIPPED zone: RUN 1 to a starter, SET above 0 to a
valve or an inlet. -/
def Part.barsOrder (p : Part) (kind value : Byte) : Binding → Bool
  | .starter t => kind == kindRun && value == 1 && (p.zone (p.tank t).cfg.zone).state == .tripped
  | .valve h => kind == kindSet && value != 0 && p.hoseTripped h
  | .inlet t => kind == kindSet && value != 0 && (p.zone (p.tank t).cfg.zone).state == .tripped
  | _ => false

/-- A telegram that carries such an order, to one node or to all. -/
def Part.bars (p : Part) (t : Telegram) : Bool :=
  match t.payload with
  | [] => false
  | value :: _ =>
    if t.head.dst = 63 then p.devices.toList.any fun d => p.barsOrder t.kind value d.binding
    else
      match deviceOf t.head.dst with
      | some n => p.barsOrder t.kind value (p.device n).binding
      | none => false

/-- A port with the telegrams that satisfy `f` taken out of its transmit queue, unsent and uncounted. -/
def Port.dropWaiting (f : Telegram → Bool) (q : Port) : Port :=
  { q with own := q.own.filter fun u => !f u, forwarded := q.forwarded.filter fun u => !f u }

/-- No such telegram goes on waiting at either port, so that none begins to be sent (R101). DEDUCED (log 36): they are
taken out in the event that trips the zone, or that brings a node, a hose or a tank into a TRIPPED one. -/
def dropBarred (p : Part) : Part :=
  { p with up := p.up.dropWaiting p.bars, fp := p.fp.dropWaiting p.bars }

/-- The zone record after a source that trips it (R99 step 1). -/
def Zone.trip (z : Zone) (c : Cause) (at_ : Stamp) : Zone :=
  { z with state := .tripped, firstCause := c, firstTrip := at_, causes := z.causes ||| c.bit,
           tripCount := satAdd 255 z.tripCount 1,
           timer := if z.state = .recovery then .stopped else z.timer }

/-- The zone record after a source that finds it TRIPPED (R100). -/
def Zone.addCause (z : Zone) (c : Cause) : Zone :=
  { z with causes := z.causes ||| c.bit, tripCount := satAdd 255 z.tripCount 1 }

/-- A trip source is taken for a zone (R99 to R101). -/
def tripSource (c : Cause) (z : ZoneNo) (p : Part) : Part :=
  if (p.zone z).state = .tripped then modZone z (fun x => x.addCause c) p
  else
    modZone z (fun x => x.trip c (now p)) p
    |> syncLines
    |> each (p.zoneHoses z) (fun h => endRequest h .trip)
    |> shutOrders (p.zoneHoses z) (p.zoneTanks z)
    |> dropBarred
    |> each (p.zoneTanks z) tripDelivery
    |> raise (.trip z)

/-- A source for all four zones is taken for each in turn (R93). -/
def tripAll (c : Cause) (p : Part) : Part := each zoneNos (tripSource c) p

/-- A source for one zone or, where none is named, for all four. -/
def tripFor (c : Cause) (z : Option ZoneNo) (p : Part) : Part :=
  match z with
  | some z => tripSource c z p
  | none => tripAll c p

/-- A source for the zone a hose belongs to; a hose of no zone raises none (R98). -/
def tripHose (c : Cause) (h : HoseNo) (p : Part) : Part :=
  match p.hoseZone h with
  | some z => tripSource c z p
  | none => p

/-! ## Reset (R103, R104) -/

/-- A sump sensor or a stop station that blocks the reset of a zone: wet or pressed, or LOST where its loss counts. -/
def Part.sensorBlocks (p : Part) (z : ZoneNo) (d : Device) : Bool :=
  match d.binding with
  | .sump y => y == z && (d.wet || (d.health == .lost && (p.zone z).sensorTrips))
  | .estop none => d.pressed || d.health == .lost
  | .estop (some y) => y == z && (d.pressed || d.health == .lost)
  | _ => false

/-- The blocking conditions of TRIP_RESET (R103). -/
def Part.resetBlocked (p : Part) (z : ZoneNo) : Bool :=
  p.devices.toList.any (p.sensorBlocks z) || (p.zoneHoses z).any (fun h => (p.hose h).mode.isClosing)

/-- An accepted TRIP_RESET (R104). DESIGN CHOICE (log 37): the LAMP off telegrams are queued in hose number order. -/
def enterRecovery (z : ZoneNo) (p : Part) : Part :=
  modZone z (fun x => { x with state := .recovery, timer := .running 30, marks := 0 }) p
  |> syncLines
  |> each (p.zoneHoses z) (fun h => forceLamp h lampOff)

/-! ## Recovery (R105) -/

/-- Every tank of the zone that is IN_SERVICE or RECEIVING has its gauge mark set. -/
def Part.marksComplete (p : Part) (z : ZoneNo) : Bool :=
  (p.zoneTanks z).all fun t => (p.tank t).state == .outOfService || (p.zone z).marks.getLsbD t.val

/-- The zone enters NORMAL when its timer has expired and every such tank is marked. -/
def recoveryTest (z : ZoneNo) (p : Part) : Part :=
  if (p.zone z).state = .recovery && (p.zone z).timer = .expired && p.marksComplete z then
    syncLines (modZone z (fun x => { x with state := .normal, causes := 0, marks := 0 }) p)
  else p

/-- A good LEVEL from a tank's gauge sets the tank's mark in its zone while that zone is RECOVERY, and the test is made
again. -/
def gaugeMark (t : TankNo) (p : Part) : Part :=
  let z := (p.tank t).cfg.zone
  if (p.zone z).state = .recovery then
    recoveryTest z (modZone z (fun x => { x with marks := x.marks ||| markBit t }) p)
  else p

/-- A tank's state changes: the test of its zone is made again. -/
def setTankState (t : TankNo) (s : TankState) (p : Part) : Part :=
  recoveryTest (p.tank t).cfg.zone (modTank t (fun x => { x with state := s }) p)

end Sys2Proof.Machine
end

