-- ==== Sys2Proof/Machine/Stock.lean ====
section
/-! DEFINITION. The Stock unit (chapter 4): the book and its totals, the low-stock test, the hand-off of metered
volume, gauge readings, the two windows, and deliveries. -/

namespace Sys2Proof.Machine

open Sys2Proof

/-! ## The book (R75, R78) -/

inductive Account where
  | dispensed
  | stray
  | received
  | adjustment
  deriving DecidableEq, Repr

def Totals.get (x : Totals) : Account → Int
  | .dispensed => x.dispensed
  | .stray => x.stray
  | .received => x.received
  | .adjustment => x.adjustment

def Totals.add (x : Totals) (a : Account) (n : Int) : Totals :=
  match a with
  | .dispensed => { x with dispensed := x.dispensed + n }
  | .stray => { x with stray := x.stray + n }
  | .received => { x with received := x.received + n }
  | .adjustment => { x with adjustment := x.adjustment + n }

/-- The sign with which a total enters the book (R75). -/
def Account.sign : Account → Int
  | .dispensed | .stray => -1
  | .received | .adjustment => 1

/-- The book is folded into the set-point (R78). -/
def Tank.fold (x : Tank) : Tank :=
  { x with setPoint := x.book, totals := {}, folds := satAdd 255 x.folds 1 }

/-- A change of a total, folding first when it would pass the limit; the book changes by the same amount (R75, R78). -/
def Tank.bookChange (a : Account) (n : Int) (x : Tank) : Tank :=
  let v := x.totals.get a + n
  let x := if Config.foldLimit < v || v < -Config.foldLimit then x.fold else x
  { x with totals := x.totals.add a n, book := x.book + a.sign * n }

/-- Book stock less low cutoff, in mL (R56, R80). -/
def Tank.bound (x : Tank) : Int := x.book - (x.cfg.lowCutoff * 1000 : Nat)

/-- The low-stock test (R80). -/
def lowStockTest (t : TankNo) (p : Part) : Part :=
  if (p.tank t).bound ≤ 0 then
    let q := endFills t .tankLow p
    if (p.tank t).low then q else raise .tankLow (modTank t (fun x => { x with low := true }) q)
  else modTank t (fun x => { x with low := false }) p

/-! ## What disturbs the windows (R81, R83) -/

/-- An OPEN loss window goes back to WAITING. -/
def LossWindow.restart : LossWindow → LossWindow
  | .opened _ _ _ => .waiting
  | w => w

/-- The loss window restarts its reference and the rest window is abandoned. -/
def disturbWindows (t : TankNo) (p : Part) : Part :=
  modTank t (fun x => { x with loss := x.loss.restart, rest := .none }) p

/-! ## The hand-off (R43, R76) -/

/-- Net millilitres from a hose: a sample with 0 is handed nothing. -/
def handOff (t : TankNo) (a : Account) (ml : Nat) (p : Part) : Part :=
  if ml = 0 then p
  else
    modTank t (fun x => x.bookChange a ml) p
    |> modTank t (fun x => { x with delivery := x.delivery.map fun d => { d with outflow := satAdd max32 d.outflow ml } })
    |> lowStockTest t
    |> modTank t (fun x => { x with rest := .none })

/-! ## Deliveries: closing the inlet early (R86, R87) -/

/-- The inlet state of the tank's delivery is OPEN. -/
def Tank.inletOpen (x : Tank) : Bool :=
  match x.delivery with
  | some d => d.closed.isNone
  | none => false

/-- An OPEN inlet of a delivery is closed: SET 0 is queued, and the close cause is taken. -/
def closeInlet (t : TankNo) (cause : CloseCause) (p : Part) : Part :=
  if (p.tank t).inletOpen then
    modTank t (fun x => { x with delivery := x.delivery.map (Delivery.close cause) }) (sendInlet t 0 p)
  else p

/-- The gauge leaves GOOD, or its binding changes (R81, R83, R115, R124). -/
def gaugeLeftGood (t : TankNo) (p : Part) : Part := disturbWindows t p

/-- A faulted LEVEL (R72): GAUGE_HELD is set, the windows are disturbed, and a delivery's inlet closes. -/
def faultedLevel (t : TankNo) (p : Part) : Part :=
  modTank t (fun x => { x with gaugeHeld := true }) p
  |> disturbWindows t
  |> closeInlet t .gauge

/-! ## Good readings -/

/-- The product a tank holds, where its field names an entry whose class is not NONE (R71 check 1, R72). -/
def Part.heldProduct (p : Part) (t : TankNo) : Option Product :=
  match p.tankProduct t with
  | some (_, prod) => if prod.cls = .none then none else some prod
  | none => none

/-- The last readings and the gauge net of a good LEVEL (R72 to R74). A level within a valid table clears
GAUGE_ABOVE_TABLE, whatever the product. DEDUCED (log 40): a level above it sets the flag with the volume it works out,
so with no product the flag is left; and where no valid table is there to compare with, the flag is left at every
level. -/
def takeReading (t : TankNo) (r : LevelReading) (p : Part) : Part :=
  modTank t (fun x =>
    let x := { x with lastLevel := some r.level, lastWater := some r.water, lastTemp := some r.temp, gaugeHeld := false }
    if x.cfg.tableValid then
      let above := decide ((lastStrap x.cfg.table).level < r.level)
      match p.heldProduct t with
      | some prod =>
        let used := usedTemp r.temp prod.fallback
        { x with gaugeNet := some (gaugeNetOf x.cfg.table r.level r.water prod.beta used), gaugeTemp := some used,
                 aboveTable := above }
      | none => { x with aboveTable := x.aboveTable && above }
    else x) p

/-- The threshold of the loss check (R82). -/
def lossThreshold (lossFloor : Nat) (bookFall : Int) (recovering : Bool) : Int :=
  let share : Int := if bookFall < 0 then 0 else bookFall * 3 / 100
  let th := max ((lossFloor * 1000 : Nat) : Int) share
  if recovering then th / 2 else th

/-- The loss window at a good LEVEL, taken while the tank's zone is RECOVERY or not (R81, R82, R106). DEDUCED (log 13):
the window is SPENT before the source is taken, so that a run ended by the trip can still take it to NONE. -/
def lossStep (t : TankNo) (recovering : Bool) (p : Part) : Part :=
  let x := p.tank t
  if x.state = .inService && p.roleGood (.gauge t) then
    match x.gaugeNet, x.loss with
    | some net, .waiting => modTank t (fun x => { x with loss := .opened net x.book false }) p
    | some net, .opened g0 b0 true =>
      let bookFall := b0 - x.book
      let loss := (g0 : Int) - net - bookFall
      if lossThreshold x.cfg.lossFloor bookFall recovering < loss then
        tripSource .unmeteredLoss x.cfg.zone (modTank t (fun x => { x with loss := .spent }) p)
      else p
    | _, _ => p
  else p

/-- The rest conditions of a tank (R83). -/
def Part.restConditions (p : Part) (t : TankNo) : Bool :=
  (p.tank t).state == .inService && (p.tank t).openHoses == 0 && p.roleGood (.gauge t) && !(p.tank t).gaugeHeld

/-- The rest window at a good LEVEL (R83). -/
def restStep (t : TankNo) (p : Part) : Part :=
  match (p.tank t).rest, (p.tank t).gaugeNet with
  | .none, some net =>
    if p.restConditions t then modTank t (fun x => { x with rest := .running net x.book false }) p else p
  | .running g b _, _ => modTank t (fun x => { x with rest := .running g b true }) p
  | _, _ => p

/-- The high-high test of a delivery (R87). -/
def highHighTest (t : TankNo) (level : Nat) (p : Part) : Part :=
  if (p.tank t).state = .receiving && (p.tank t).inletOpen && decide ((p.tank t).cfg.highHigh ≤ level) then
    raise .overfillGuard (closeInlet t .highHigh p)
  else p

/-- The Stock unit takes a LEVEL (R72): a good one is reported to the Trip unit while the tank is in service, and then
the loss window, the rest window and the high-high test act in that order. DEDUCED (log 12): the report comes first. The
loss threshold goes by the zone's state at the telegram (R82, R106), also where the report takes the zone to NORMAL. -/
def takeLevel (t : TankNo) (payload : List Byte) (p : Part) : Part :=
  match readLevel payload with
  | none => p
  | some r =>
    if r.fault then faultedLevel t p
    else
      let recovering := (p.zone (p.tank t).cfg.zone).state == .recovery
      let q := takeReading t r p
      let q := if (q.tank t).state = .outOfService then q else gaugeMark t q
      lossStep t recovering q |> restStep t |> highHighTest t r.level

/-! ## The rest window's end (R84) -/

/-- The evaluation of a running rest window whose timer expires, and the start of the next. -/
def restExpiry (t : TankNo) (p : Part) : Part :=
  let x := p.tank t
  match x.rest with
  | .none => p
  | .running start _ seenGood =>
    let net := x.gaugeNet.getD start
    let change : Int := (net : Int) - start
    let limit : Int := (x.cfg.restThreshold * 1000 : Nat)
    let q := modTank t (fun x => { x with rest := .running net x.book false }) p
    if !seenGood then q
    else if change < -limit then tripSource .restLoss x.cfg.zone q
    else if limit < change then raise .restGain q
    else q

/-- How long a rest window lasts, in minutes (R68). -/
def TankConfig.restMinutes (c : TankConfig) : Nat := if c.restCode = 0 then 1 else 2 * c.restCode

/-! ## The end of a delivery (R89, R90) -/

/-- The record of a delivery (R89 step 5). -/
def deliveryRecord (t : TankNo) (product : Nat) (d : Delivery) (endGauge : Nat) (received : Int) (cause : CloseCause)
    (ended : Stamp) : Record :=
  { blankRecord (.delivery d.declared d.startGauge endGauge received) d.start ended with
    cause := cause.code
    tank := t.val + 1
    product := product }

/-- A delivery ends (R89), with the close cause that an inlet still OPEN takes. -/
def endDelivery (t : TankNo) (cause : CloseCause) (d : Delivery) (p : Part) : Part :=
  let x := p.tank t
  let endGauge := x.gaugeNet.getD d.startGauge
  let received : Int := (endGauge : Int) - d.startGauge + d.outflow
  let shut := d.closed.getD cause
  let off : Int := received - ((d.declared * 1000 : Nat) : Int)
  let q := if d.closed.isNone then sendInlet t 0 p else p
  let q := lowStockTest t (modTank t (fun x => x.bookChange .received received) q)
  let q := placeReserved (deliveryRecord t (numberOf x.cfg.product) d endGauge received shut (now p)) q
  let q := if d.declared * x.cfg.tolerance < off.natAbs then raise .deliveryVariance q else q
  setTankState t .inService (modTank t (fun x => { x with delivery := none }) q)

/-- RESTART ends the delivery of a RECEIVING tank (R90). -/
def restartDelivery (t : TankNo) (p : Part) : Part :=
  match (p.tank t).state, (p.tank t).delivery with
  | .receiving, some d => endDelivery t .restart d p
  | _, _ => p

end Sys2Proof.Machine
end

