-- ==== Sys2Proof/Machine/Fill.lean ====
section
/-! DEFINITION. The course of a fill: authorization, opening and refusal (R7 to R9), proving runs (R180), TAG reports
(R6), and METER samples (R14 to R17, R22, R23, R29 to R43). -/

namespace Sys2Proof.Machine

open Sys2Proof

/-! ## Refusal (R9) -/

/-- A REFUSAL record (R9, R158). -/
def refusalRecord (h : HoseNo) (cause : RefusalCause) (tag : Long) (slot : Option SlotNo) (hours : Option Nat)
    (flags : Flags) (p : Part) : Record :=
  { blankRecord .refusal (now p) (now p) with
    cause := cause.code
    flags := { flags with profileB := p.letter == .b }
    hose := h.val + 1
    tank := numberOf (p.hose h).cfg.tank
    product := p.hoseProductNo h
    slot := match slot with
      | some m => m.val
      | none => max16
    tag := tag
    hours := hours.getD max32 }

/-- An attempt is refused: LAMP refused, and a record in a free slot, or the refusal counter when none is free. -/
def refuseFill (h : HoseNo) (cause : RefusalCause) (tag : Long) (slot : Option SlotNo) (hours : Option Nat)
    (flags : Flags) (p : Part) : Part :=
  let q := sendLamp h lampRefused p
  if q.canReserve 1 then placeRecord (refusalRecord h cause tag slot hours flags q) q
  else
    modHose h (fun x => { x with
      refusals := setNth x.refusals cause.index (satAdd max16 (nth x.refusals cause.index) 1) }) q

/-! ## Authorization (R7) -/

/-- Checks 1 to 5, which do not look at the machine table. -/
def hoseChecks (h : HoseNo) (p : Part) : List (Bool × RefusalCause) :=
  [ (match (p.hose h).mode with | .idle | .fill _ _ => true | _ => false, .hoseOut),
    (p.bayMode == .run, .bayLayup),
    (!p.hoseTripped h, .zoneTripped),
    (match (p.hose h).cfg.tank with | some t => (p.tank t).state == .inService | none => false, .tankOut),
    (p.roleGood (.meter h) && p.roleGood (.reader h), .deviceNotGood) ]

/-- Checks 7 to 10, on the machine that was found and the tank's product. -/
def machineChecks (h : HoseNo) (m : MachineRec) (p : Part) : List (Bool × RefusalCause) :=
  [ (m.state == .opened, .barred),
    (m.openHose.isNone, .machineBusy),
    (match (p.hose h).cfg.tank.bind p.tankProduct with
      | some (i, _) => decide (0 < nth m.allowances i)
      | none => false, .productNotAllowed),
    (p.current.allows (p.hoseProduct h).cls, .profileClass) ]

/-- The cause of the first check that fails. -/
def firstFailure (checks : List (Bool × RefusalCause)) : Option RefusalCause :=
  (checks.find? fun c => !c.1).map (·.2)

/-- What the cap computation of check 13 answers (R56). -/
structure CapAnswer where
  cap : Int
  hoursDoubt : Bool
  tankLimited : Bool
  deriving DecidableEq, Repr

/-- The cap of an attempt: the class cap bounded by the profile, the recovery cap and the tank (R54 to R56). -/
def fillCap (pr : Profile) (m : MachineRec) (cls : ProductClass) (allowance : Nat) (hours : Option Nat)
    (recovering : Bool) (bound : Int) : CapAnswer :=
  let cap := profileBound pr recovering (classCap pr m cls allowance hours)
  { cap := min (cap : Int) bound, hoursDoubt := hoursDoubt m cls hours, tankLimited := tankLimited bound cap }

/-- The transaction opens (R8). -/
def openFill (h : HoseNo) (t : Transaction) (p : Part) : Part :=
  setMode h (.fill .ready t) (reserve 1 p)
  |> modMachine t.slot (fun m => { m with openHose := some h })
  |> modHose h (fun x => { x with uncoupled := 0, uncoupledRaised := false })
  |> openOnTank t.tank
  |> sendValve h (p.hose h).cfg.openCode
  |> sendLamp h lampReady
  |> claimPump h t.tank

/-- Check 13 and what follows it: the reading is assessed, the cap computed, and the fill opened or refused (R51, R54 to
R56). -/
def capCheck (h : HoseNo) (r : TagReading) (m : SlotNo) (t : TankNo) (i : ProductNo) (p : Part) : Part :=
  let before := p.machine m
  let cls := (p.product i).cls
  let zone := (p.tank t).cfg.zone
  let recovering := (p.zone zone).state == .recovery
  let hours := if before.trusts r.hours then r.hours else none
  let (after, fault) := before.assess r.hours
  let q := modMachine m (fun _ => after) p
  let q := if fault then raise .hoursFault q else q
  let a := fillCap p.current before cls (nth before.allowances i) r.hours recovering (p.tank t).bound
  let flags : Flags := { hoursDoubt := a.hoursDoubt, tankLimited := a.tankLimited }
  if a.cap < 1000 then refuseFill h (if a.tankLimited then .tankLow else .noHeadroom) r.tag (some m) hours flags q
  else
    openFill h
      { tag := r.tag, slot := m, hours := hours, cap := a.cap.toNat, allowance := overrunAllowance a.cap.toNat,
        letter := p.letter, tank := t, product := i, cls := cls, zone := zone, start := now p,
        tally := { flags := { flags with recoveryCap := recovering, profileB := p.letter == .b },
                   lastCode := (p.hose h).cfg.openCode } } q

/-- Check 11: the service hold is evaluated for a LUBE product (R53). -/
def holdEvaluation (m : SlotNo) (cls : ProductClass) (hours : Option Nat) (p : Part) : Part :=
  if cls = .lube then
    let x := p.machine m
    let q := modMachine m (fun x => { x with hold := x.evaluatedHold hours }) p
    if x.serviceDue hours then raise .serviceDue q else q
  else p

/-- An authorization attempt: the checks of R7 in their order, ending in an open transaction or a refusal. -/
def authorize (h : HoseNo) (r : TagReading) (p : Part) : Part :=
  match firstFailure (hoseChecks h p) with
  | some cause => refuseFill h cause r.tag none r.hours {} p
  | none =>
    match p.findTag r.tag with
    | none => refuseFill h .unknownTag r.tag none r.hours {} p
    | some m =>
      match firstFailure (machineChecks h (p.machine m) p), (p.hose h).cfg.tank with
      | some cause, _ => refuseFill h cause r.tag (some m) r.hours {} p
      | none, none => p
      | none, some t =>
        match p.tankProduct t with
        | none => p
        | some (i, prod) =>
          let q := holdEvaluation m prod.cls r.hours p
          if prod.cls == .lube && (q.machine m).hold then refuseFill h .serviceHold r.tag (some m) r.hours {} q
          else if !q.canReserve 1 then refuseFill h .queueFull r.tag (some m) r.hours {} q
          else capCheck h r m t i q

/-! ## Proving runs begin (R180) -/

/-- The conditions under which a COUPLED edge begins a run. -/
def Part.runMayBegin (p : Part) (h : HoseNo) (s : Session) : Bool :=
  decide (s.ended.length < s.planned) && s.run.isNone &&
  (match p.hoseZone h with | some z => (p.zone z).state == .normal | none => false) &&
  (match (p.hose h).cfg.tank with | some t => (p.tank t).state == .inService | none => false) &&
  p.roleGood (.meter h) && p.roleGood (.reader h)

/-- A COUPLED edge on a PROVING hose begins the next run, or sends LAMP refused. -/
def beginRun (h : HoseNo) (s : Session) (p : Part) : Part :=
  match p.runMayBegin h s, (p.hose h).cfg.tank with
  | true, some t =>
    let code := (p.hose h).cfg.openCode
    setMode h (.proving (s.withRun { start := now p, tally := { lastCode := code } })) p
    |> openOnTank t
    |> sendValve h code
    |> sendLamp h lampReady
    |> claimPump h t
  | _, _ => sendLamp h lampRefused p

/-! ## TAG reports (R6) -/

/-- What a TAG report asks of an open fill or a run (R18). -/
def nozzleRequest : Nozzle → Option EndCause
  | .holstered | .lifted => some .nozzleOff
  | .coupledShut => some .full
  | .coupled => none

/-- The end request of a TAG report is sent. -/
def tagRequest (h : HoseNo) (n : Nozzle) (p : Part) : Part :=
  match nozzleRequest n with
  | some cause => endRequest h cause p
  | none => p

/-- A HOLSTERED report resets the uncoupled volume (R22), and sends LAMP off while the hose is IDLE or OUT (R10). -/
def holsteredReport (h : HoseNo) (p : Part) : Part :=
  let q := modHose h (fun x => { x with uncoupled := 0, uncoupledRaised := false }) p
  match (q.hose h).mode with
  | .idle | .out => sendLamp h lampOff q
  | _ => q

/-- What a COUPLED edge does, by the transaction state (R6). -/
def coupledEdge (h : HoseNo) (r : TagReading) (p : Part) : Part :=
  match (p.hose h).mode with
  | .idle | .out => authorize h r p
  | .proving s => beginRun h s p
  | .fill _ _ => p

/-- A TAG telegram from the hose's reader (R6): the last nozzle state, then the end request, then the uncoupled reset,
then the edge. -/
def takeTag (h : HoseNo) (payload : List Byte) (p : Part) : Part :=
  match readTag payload with
  | none => p
  | some r =>
    let wasUncoupled := (p.hose h).nozzle.uncoupled
    let q := modHose h (fun x => { x with nozzle := r.nozzle }) p
    let q := tagRequest h r.nozzle q
    let q := if r.nozzle = .holstered then holsteredReport h q else q
    if r.nozzle = .coupled && wasUncoupled then coupledEdge h r q else q

/-! ## METER samples -/

/-- Net millilitres metered while the nozzle is uncoupled (R22). -/
def addUncoupled (h : HoseNo) (ml : Nat) (p : Part) : Part :=
  if (p.hose h).nozzle.uncoupled then
    let q := modHose h (fun x => { x with uncoupled := satAdd max32 x.uncoupled ml }) p
    let x := q.hose h
    if x.cfg.dripLimit * 1000 < x.uncoupled && !x.uncoupledRaised then
      tripHose .uncoupledFlow h (modHose h (fun x => { x with uncoupledRaised := true }) q)
    else q
  else p

/-- The set a sample is worked in: the transaction's, the run's, or the stray set (R29). -/
def Hose.meterSet (x : Hose) : MeterSet :=
  match x.mode.tally with
  | some t => t.meter
  | none => x.straySet

/-- The tally after a counted sample (R38, R39, R42). -/
def Tally.count (t : Tally) (w : Worked) (own used : Int) : Tally :=
  { t with gross := satAdd max32 t.gross w.gross, net := satAdd max32 t.net w.net, meter := w.meter,
           lastTemp := some used,
           flags := { t.flags with tempSubstituted := t.flags.tempSubstituted || !tempValid own } }

/-- The sums a run keeps of its counted samples (R180). -/
def ProvingRun.addSums (r : ProvingRun) (delta weight factor interval : Nat) : ProvingRun :=
  { r with sumVolume := r.sumVolume + delta * weight, sumFactored := r.sumFactored + delta * weight * factor,
           sumInterval := if 0 < delta then r.sumInterval + interval else r.sumInterval }

def HoseMode.addSums (delta weight factor interval : Nat) : HoseMode → HoseMode
  | .proving s => .proving { s with run := s.run.map fun r => r.addSums delta weight factor interval }
  | m => m

/-- The factor that a sample is worked with (R36); a curve that fails R4's checks gives a free one within the factor's
range (log 6). -/
def sampleFactor (curve : List CurvePoint) (rate : Nat) (p : Part) : Nat × Part :=
  if curveOk curve then (factorAt curve rate, p)
  else (clampNat (Config.freeFactor p.freeUses) 90000 110000, { p with freeUses := p.freeUses + 1 })

/-- A counted sample (R35 to R43, R22, R23): worked in its set, added to its account, handed off, and added to the
uncoupled volume. -/
def countSample (h : HoseNo) (x : Sample) (c : MeterContext) (delta : Nat) (p : Part) : Part :=
  let hose := p.hose h
  let rate := rateOf delta c.weight x.interval hose.meterSet.lastRate (c.curve.headD ⟨0, 0⟩).flow
  let (factor, p) := sampleFactor c.curve rate p
  let used := usedTemp x.temp c.product.fallback
  let w := workSample delta c.weight factor (vcfOf c.product.beta used) rate hose.meterSet
  match hose.mode.tally with
  | some _ =>
    modTally h (fun t => t.count w x.temp used) p
    |> modHose h (fun y => { y with mode := y.mode.addSums delta c.weight factor x.interval })
    |> handOff c.tank .dispensed w.net
    |> addUncoupled h w.net
  | none =>
    modHose h (fun y => { y with straySet := w.meter, stray := satAdd max32 y.stray w.net }) p
    |> handOff c.tank .stray w.net
    |> addUncoupled h w.net

/-- A discarded jump (R33). -/
def countJump (h : HoseNo) (p : Part) : Part :=
  let q := modHose h (fun x => { x with jumpTotal := satAdd max16 x.jumpTotal 1 }) p
    |> modTally h (fun t => { t with jumps := satAdd 255 t.jumps 1 })
    |> raise .meterJump
  match (q.hose h).mode.tally with
  | some t => if t.jumps = 3 then endRequest h .meterFault q else q
  | none => q

/-! ## What follows a sample in a fill (R14 to R17) -/

/-- The state change of a sample with a nonzero delta (R14, R15). -/
def flowStep (h : HoseNo) (p : Part) : Part :=
  match (p.hose h).mode with
  | .fill .ready t => sendLamp h lampFlowing (setMode h (.fill .flowing t) p)
  | .fill .paused t => setMode h (.fill .flowing t) p
  | _ => p

/-- CAP_REACHED (R16 step 4). -/
def capStep (h : HoseNo) (p : Part) : Part :=
  match (p.hose h).mode with
  | .fill .flowing t | .fill .paused t => if t.cap ≤ t.tally.net then endRequest h .capReached p else p
  | _ => p

/-- OVERRUN (R16 step 5). -/
def overrunStep (h : HoseNo) (p : Part) : Part :=
  match (p.hose h).mode with
  | .fill _ t => if t.cap + t.allowance < t.tally.net then tripHose .overrun h p else p
  | _ => p

/-- Of two taper steps that qualify, the one with the smaller threshold, or the lower code where they share it. -/
def closerStep (a b : TaperStep) : TaperStep :=
  if b.litres < a.litres || (b.litres = a.litres && b.code < a.code) then b else a

/-- The applicable throttle code at a remaining volume in mL (R17). -/
def taperCode (steps : List TaperStep) (openCode : Nat) (remaining : Int) : Nat :=
  match steps.filter fun s => remaining ≤ ((s.litres * 1000 : Nat) : Int) with
  | [] => openCode
  | s :: rest => (rest.foldl closerStep s).code

/-- The throttle is lowered when the applicable code is below the last code sent (R17). -/
def lowerThrottle (h : HoseNo) (remaining : Int) (t : Tally) (p : Part) : Part :=
  let c := (p.hose h).cfg
  let code := taperCode c.taper c.openCode remaining
  if code < t.lastCode then
    modTally h (fun t => { t with lastCode := code, flags := { t.flags with tapered := true } }) (sendValve h code p)
  else p

/-- The taper (R16 step 6, R17). A sample with a delta of 0 does not move it (R32). -/
def taperStep (h : HoseNo) (p : Part) : Part :=
  match (p.hose h).mode with
  | .fill .flowing t | .fill .paused t => lowerThrottle h ((t.cap : Int) - t.tally.net) t.tally p
  | _ => p

/-! ## What follows a sample in a proving run (R180, R181) -/

/-- LAMP flowing at the first sample with a nonzero delta; the idle timer restarts at each. -/
def runFlowStep (h : HoseNo) (p : Part) : Part :=
  match (p.hose h).mode with
  | .proving s =>
    match s.run with
    | some r => if r.flowed then p
      else sendLamp h lampFlowing (setMode h (.proving (s.withRun { r with flowed := true })) p)
    | none => p
  | _ => p

/-- The run ends when its gross reaches the can volume (R180, R181). -/
def runCapStep (h : HoseNo) (p : Part) : Part :=
  match (p.hose h).mode with
  | .proving s =>
    match s.run with
    | some r => if s.can ≤ r.tally.gross then endRequest h .capReached p else p
    | none => p
  | _ => p

/-- The taper of a run goes by its can volume less its gross (R180). -/
def runTaperStep (h : HoseNo) (p : Part) : Part :=
  match (p.hose h).mode with
  | .proving s =>
    match s.run with
    | some r => lowerThrottle h ((s.can : Int) - r.tally.gross) r.tally p
    | none => p
  | _ => p

/-- Steps 3 to 6 of R16 for a fill, and their like for a run; `moved` says that the sample added a nonzero delta. The
cap and overrun steps are made on every sample (log 17), the state change and the taper at a nonzero delta alone (R14,
R15, R32). -/
def afterSample (h : HoseNo) (moved : Bool) (p : Part) : Part :=
  (if moved then runFlowStep h (flowStep h p) else p)
  |> capStep h
  |> overrunStep h
  |> runCapStep h
  |> (fun q => if moved then runTaperStep h (taperStep h q) else q)

/-- A METER sample is taken (R29 to R34): it sets the baseline, is discarded as a jump, or is counted. -/
def takeSample (h : HoseNo) (x : Sample) (doubtful : Bool) (p : Part) : Part :=
  let q := if x.fault || doubtful then markDoubt h p else p
  let q := modHose h (fun y => { y with baseline := some x.count }) q
  match (p.hose h).baseline, p.meterContext h with
  | some base, some c =>
    let delta := deltaOf base x.count
    if c.ceiling < delta then afterSample h false (countJump h q)
    else afterSample h (decide (0 < delta)) (countSample h x c delta q)
  | _, _ => afterSample h false q

/-- A METER telegram handed to the hose controller, with the meter's health after this telegram (R29, R34). -/
def takeMeter (h : HoseNo) (payload : List Byte) (doubtful : Bool) (p : Part) : Part :=
  match readSample payload with
  | some x => takeSample h x doubtful p
  | none => p

/-! ## The hose's timers (R12, R14, R15, R21) -/

/-- The idle timer's expiry: in READY, PAUSED or a proving run it ends it with IDLE_TIMEOUT. -/
def idleExpiry (h : HoseNo) (p : Part) : Part :=
  if (p.hose h).idleTimer.isSome then endRequest h .idleTimeout p else p

/-- The pause timer's expiry: FLOWING becomes PAUSED, and the idle timer starts. -/
def pauseExpiry (h : HoseNo) (p : Part) : Part :=
  match (p.hose h).mode with
  | .fill .flowing t => setMode h (.fill .paused t) p
  | _ => p

/-- The confirm timer's expiry while the pump wait is still set: START_FAIL. -/
def confirmExpiry (h : HoseNo) (p : Part) : Part :=
  if (p.hose h).confirmTimer.isSome then endRequest h .startFail p else p

end Sys2Proof.Machine
end

