-- ==== Sys2Proof/Machine/Filter.lean ====
section
/-! DEFINITION. The Pass filter (chapter 8): the traffic guard, the ISOLATE dropping, the pass table and its counters. -/

namespace Sys2Proof.Machine

open Sys2Proof

/-! ## The traffic guard (R150 to R152) -/

/-- The first guard condition that holds for the object of a binding (R150). -/
def Part.guardOn (p : Part) : Binding → Option GuardCondition
  | .valve h =>
    if p.hoseTripped h then some .tripped
    else match (p.hose h).mode with
      | .fill _ _ | .proving _ => some .hoseBusy
      | .idle | .out => none
  | .starter t | .inlet t =>
    if (p.zone (p.tank t).cfg.zone).state = .tripped then some .tripped
    else if 0 < (p.tank t).openHoses then some .tankOpen
    else if (p.tank t).state = .receiving then some .tankReceiving
    else none
  | _ => none

/-- The condition that covers a telegram to a node; to all nodes, the one of the lowest-numbered covered node (R150,
R152). -/
def Part.guardFor (p : Part) (dst : Node) : Option GuardCondition :=
  if dst = 63 then
    match firstIdx (fun d => (p.guardOn d.binding).isSome) p.devices with
    | some n => p.guardOn (p.device n).binding
    | none => none
  else
    match deviceOf dst with
    | some n => p.guardOn (p.device n).binding
    | none => none

/-- What the guard's drop or hold records (R152). -/
def guardDrop (dir : Direction) (dst : Node) (c : GuardCondition) (p : Part) : Part :=
  match dir with
  | .upToField =>
    countEvent .up .droppedGuard { p with filter := { p.filter with
      guardCount := satAdd max16 p.filter.guardCount 1, lastNode := some dst, lastCondition := some c } }
  | .fieldToUp =>
    { p with filter := { p.filter with
      holdCount := satAdd max16 p.filter.holdCount 1, lastNode := some dst, lastCondition := some c } }

/-! ## Isolated hoses (R149) -/

/-- A node of a hose that is OUT with handling ISOLATE. -/
def Part.isolated (p : Part) (x : Node) : Bool :=
  match deviceOf x with
  | none => false
  | some n =>
    match (p.device n).binding with
    | .meter h | .reader h | .valve h => (p.hose h).mode == .out && (p.hose h).cfg.handling == .isolate
    | _ => false

/-! ## The pass table (R146, R147) -/

/-- The node a rule compares: the source going up, the destination going down (R146). -/
def comparedNode (dir : Direction) (t : Telegram) : Node :=
  match dir with
  | .fieldToUp => t.head.src
  | .upToField => t.head.dst

/-- A rule matches a telegram (R146). -/
def PassRule.matches (r : PassRule) (dir : Direction) (t : Telegram) : Bool :=
  r.inUse && r.dir == dir && (t.kind &&& r.kindMask == r.kindValue &&& r.kindMask) &&
    (comparedNode dir t &&& r.nodeMask == r.nodeValue &&& r.nodeMask)

/-- Whether the deciding rule passes the telegram (R147). -/
def PassRule.passes (r : PassRule) : Bool :=
  match r.action with
  | .pass => true
  | .drop => false
  | .thin n => n == 0 || r.thinCount == 0

/-- The rule after it has decided a telegram: one hit more, and the thin counter moved on (R146, R147). -/
def PassRule.decided (r : PassRule) : PassRule :=
  { r with hits := satAdd max16 r.hits 1,
           thinCount := match r.action with
             | .thin n => if n = 0 then r.thinCount else if r.thinCount + 1 < 2 * n then r.thinCount + 1 else 0
             | _ => r.thinCount }

/-! ## The decision (R145) -/

/-- The ports a direction leads from and to. -/
def Direction.from : Direction → PortId
  | .fieldToUp => .fp
  | .upToField => .up

def Direction.to : Direction → PortId
  | .fieldToUp => .up
  | .upToField => .fp

def FilterEntry.acceptAll (f : FilterEntry) : Direction → Bool
  | .fieldToUp => f.acceptUpward
  | .upToField => f.acceptDownward

def FilterEntry.defaultDrop (f : FilterEntry) : Direction → Bool
  | .fieldToUp => f.dropUpward
  | .upToField => f.dropDownward

/-- A passed telegram is counted where it arrived and placed in the other port's queue, unchanged. -/
def passOn (dir : Direction) (t : Telegram) (p : Part) : Part :=
  modPort dir.to (Port.placeForwarded t) (countEvent dir.from .passed p)

/-- A telegram dropped by the table, a default action or the ISOLATE dropping. -/
def dropTable (dir : Direction) (p : Part) : Part := countEvent dir.from .droppedTable p

/-- The outcome of a decision. -/
def settleTelegram (dir : Direction) (t : Telegram) (passes : Bool) (p : Part) : Part :=
  if passes then passOn dir t p else dropTable dir p

/-- Steps 3 to 5 of the decision: accept-all, the first matching rule, the default action. -/
def tableDecision (dir : Direction) (t : Telegram) (p : Part) : Part :=
  if p.filter.acceptAll dir then settleTelegram dir t true p
  else
    match firstIdx (fun r => r.matches dir t) p.rules with
    | some i => settleTelegram dir t (nth p.rules i).passes { p with rules := setNth p.rules i (nth p.rules i).decided }
    | none => settleTelegram dir t (!p.filter.defaultDrop dir) p

/-- The filter decides a telegram offered to it (R145). -/
def offer (dir : Direction) (t : Telegram) (p : Part) : Part :=
  match (if t.kind = kindRun || t.kind = kindSet then p.guardFor t.head.dst else none) with
  | some c => guardDrop dir t.head.dst c p
  | none => if p.isolated (comparedNode dir t) then dropTable dir p else tableDecision dir t p

end Sys2Proof.Machine
end

