-- ==== Sys2Proof/Machine/Echo.lean ====
section
/-! DEFINITION. The field line test (R185, R186): its patterns, its ECHO telegrams, and its end. -/

namespace Sys2Proof.Machine

open Sys2Proof

/-- One step of the PSEUDO register: right by one, bit 15 entering as the exclusive-or of bits 0, 2, 3 and 5. -/
def pseudoStep (r : Word) : Word :=
  let bit := ((r.getLsbD 0 ^^ r.getLsbD 2) ^^ r.getLsbD 3) ^^ r.getLsbD 5
  (r >>> 1) ||| (if bit then 0x8000 else 0)

/-- Eight steps of the register. -/
def pseudoByteStep (r : Word) : Word := [0, 1, 2, 3, 4, 5, 6, 7].foldl (fun x (_ : Nat) => pseudoStep x) r

/-- The next test byte, and the pattern's sources after it (R185). -/
def nextByte (t : LineTest) : Byte × LineTest :=
  match t.pattern with
  | .fixed => (t.byte, t)
  | .counting => (t.counter, { t with counter := t.counter + 1 })
  | .pseudo =>
    let r := pseudoByteStep t.register
    (lowByte r, { t with register := r })

/-- The next `n` test bytes. -/
def nextBytes : Nat → LineTest → List Byte × LineTest
  | 0, t => ([], t)
  | n + 1, t =>
    let (b, t) := nextByte t
    let (rest, t) := nextBytes n t
    (b :: rest, t)

/-- The next ECHO of a running test is queued to its target (R185, R133). -/
def queueEcho (t : LineTest) (p : Part) : Part :=
  let (bytes, t) := nextBytes t.length t
  modPort .fp (Port.queueOrder (orderTelegram kindEcho t.target bytes)) { p with test := some t }

/-- An echo that is still awaited counts missing (R186). -/
def countMissing (t : LineTest) (c : TestCounts) : TestCounts :=
  if t.awaited.isSome then { c with missing := satAdd max16 c.missing 1 } else c

/-- The ECHO that a count of sent telegrams makes the last: the one of a single test, or the 10,000th. -/
def LineTest.lastSent (t : LineTest) (sent : Nat) : Bool := !t.continuous || decide (Config.maxEchoes ≤ sent)

/-- The last byte of an ECHO has left the line (R185). DEDUCED (log 21): the sent count rises also when the test has
been stopped meanwhile; no echo is awaited then, and no timer starts. -/
def echoSent (payload : List Byte) (p : Part) : Part :=
  let sent := satAdd max16 p.counts.sent 1
  { p with counts := { p.counts with sent := sent },
           test := p.test.map fun t =>
             { t with awaited := some payload, gapRunning := true, waitRunning := t.lastSent sent } }

/-- The test is over: the running flag clears and LINE_TEST_DONE is raised. -/
def finishTest (p : Part) : Part := raise .lineTestDone { p with test := none }

/-- An ECHO_BACK from node `n` (R186). -/
def takeEchoBack (n : DevNo) (payload : List Byte) (p : Part) : Part :=
  match p.test with
  | none => p
  | some t =>
    match t.awaited with
    | none => p
    | some sent =>
      if n = t.target then
        let counts := if payload = sent then { p.counts with intact := satAdd max16 p.counts.intact 1 }
          else { p.counts with mismatched := satAdd max16 p.counts.mismatched 1 }
        let q := { p with counts := counts, test := some { t with awaited := none } }
        if t.lastSent p.counts.sent then finishTest q else q
      else p

/-- The gap timer's expiry: in continuous mode the next ECHO is queued while fewer than 10,000 were sent, and one still
awaited then counts missing (R185, R186). -/
def gapExpiry (p : Part) : Part :=
  match p.test with
  | none => p
  | some t =>
    if t.gapRunning then
      if t.continuous && decide (p.counts.sent < Config.maxEchoes) then
        queueEcho { t with gapRunning := false, awaited := none } { p with counts := countMissing t p.counts }
      else { p with test := some { t with gapRunning := false } }
    else p

/-- The last ECHO has been awaited for 1 s: it counts missing and the test ends (R186). -/
def waitExpiry (p : Part) : Part :=
  match p.test with
  | none => p
  | some t => if t.waitRunning && t.awaited.isSome then finishTest { p with counts := countMissing t p.counts } else p

/-- A running test is stopped: a queued ECHO not yet sent is removed uncounted, an awaited one counts missing (R186). -/
def stopTest (p : Part) : Part :=
  match p.test with
  | none => p
  | some t =>
    modPort .fp (fun q => { q with own := q.own.filter fun u => u.kind != kindEcho })
      { p with counts := countMissing t p.counts, test := none }

/-- A stop that raises LINE_TEST_DONE: by command, or by BAY_MODE to RUN. -/
def stopTestNoticed (p : Part) : Part := if p.test.isSome then raise .lineTestDone (stopTest p) else p

end Sys2Proof.Machine
end

