-- ==== Sys2Proof/Machine/Monitor.lean ====
section
/-! DEFINITION. The Line monitor (chapter 6): health scores and reports, the taking of field telegrams, and binding
writes; with them the reports of sump sensors and stop stations (R94, R95) and of starters, valves and inlets (R13, R24,
R77). -/

namespace Sys2Proof.Machine

open Sys2Proof

/-! ## Health (R119 to R125) -/

/-- The health state after a change of the score (R120). -/
def healthAfter (present : Health) (score : Nat) : Health :=
  match present with
  | .lost => if score < 16 then .good else .lost
  | _ => if score < 32 then .good else if score < 96 then .doubtful else .lost

/-- METER_DOUBT in an open transaction, on its meter's entry to DOUBTFUL or LOST (R123). -/
def doubtFill (h : HoseNo) (p : Part) : Part :=
  match (p.hose h).mode with
  | .fill _ _ => markDoubt h p
  | _ => p

/-- What the owner of a bound object does when its device enters DOUBTFUL (R123 to R125). -/
def reportDoubtful (b : Binding) (p : Part) : Part :=
  match b with
  | .meter h => doubtFill h p
  | .gauge t => gaugeLeftGood t p
  | _ => p

/-- What the owner does when its device enters LOST (R31, R96, R123 to R125). -/
def reportLost (b : Binding) (p : Part) : Part :=
  match b with
  | .meter h => endRequest h .meterLost (modHose h (fun x => { x with baseline := none }) (doubtFill h p))
  | .reader h => endRequest h .readerLost p
  | .starter t => stopPumping t p
  | .gauge t => closeInlet t .gauge (gaugeLeftGood t p)
  | .sump z => if (p.zone z).sensorTrips then tripSource .sensorLost z p else p
  | .estop z => tripFor .sensorLost z p
  | _ => p

/-- A change of health is reported to the owner; on entry to LOST, DEVICE_LOST is raised first (R121). -/
def reportHealth (b : Binding) (new : Health) (p : Part) : Part :=
  match new with
  | .good => p
  | .doubtful => reportDoubtful b p
  | .lost => reportLost b (raise .deviceLost p)

/-- A bound node's score takes a new value: the health state follows, and a change is reported (R120, R121). -/
def setScore (n : DevNo) (score : Nat) (p : Part) : Part :=
  let d := p.device n
  let new := healthAfter d.health score
  let q := modDevice n (fun d => { d with score := score, health := new }) p
  if new = d.health then q else reportHealth d.binding new q

/-- A telegram from a bound node lowers its score by 1 (R119). -/
def scoreTelegram (n : DevNo) (p : Part) : Part := setScore n ((p.device n).score - 1) p

/-- The period timer's expiry raises a bound node's score by 4, to no more than 128 (R119). -/
def periodExpiry (n : DevNo) (p : Part) : Part :=
  if (p.device n).binding = .unbound then p else setScore n (satAdd 128 (p.device n).score 4) p

/-- The period timer of a device entry, in units of 100 ms: it runs while the node is bound (R115, R119). -/
def Device.periodTimer (d : Device) : Option Nat := if d.binding = .unbound then none else some d.period

/-! ## Reports of the Trip unit's sensors (R94, R95) -/

/-- A SUMP report of node `n`, bound to zone `z` (R94). -/
def takeSump (n : DevNo) (z : ZoneNo) (payload : List Byte) (p : Part) : Part :=
  match readSensor payload with
  | none => p
  | some wet =>
    let q := modDevice n (fun d => { d with wet := wet }) p
    if wet && !(p.device n).wet then tripSource .sumpWet z q else q

/-- An ESTOP report of node `n`, bound to a zone or to all four (R95). -/
def takeEstop (n : DevNo) (z : Option ZoneNo) (payload : List Byte) (p : Part) : Part :=
  match readSensor payload with
  | none => p
  | some pressed =>
    let q := modDevice n (fun d => { d with pressed := pressed }) p
    if pressed && !(p.device n).pressed then tripFor .estop z q else q

/-! ## Reports of starters, valves and inlets -/

/-- A STATUS of a tank's starter (R13). -/
def takeStarter (t : TankNo) (payload : List Byte) (p : Part) : Part :=
  match payload with
  | [] => p
  | b :: _ =>
    if b = 1 then if 0 < (p.pump t).count then confirmPump t p else sendRun t 0 p
    else if b = 0 || b = 2 then if 0 < (p.pump t).count then stopPumping t p else p
    else p

/-- A STATUS of a hose's valve (R24). -/
def takeValve (h : HoseNo) (payload : List Byte) (p : Part) : Part :=
  match readValve payload with
  | some r => modHose h (fun x => { x with valveReport := r }) p
  | none => p

/-- A STATUS of a tank's inlet (R77). -/
def takeInlet (t : TankNo) (payload : List Byte) (p : Part) : Part :=
  match readValve payload with
  | some r => modTank t (fun x => { x with inletReport := r }) p
  | none => p

/-! ## Taking a field telegram (R117, R118, R122) -/

/-- The kind that fits a role (R113). -/
def Binding.kind : Binding → Option Byte
  | .unbound => none
  | .meter _ => some kindMeter
  | .reader _ => some kindTag
  | .valve _ | .starter _ | .inlet _ => some kindStatus
  | .gauge _ => some kindLevel
  | .sump _ => some kindSump
  | .estop _ => some kindEstop

/-- A fitting telegram of node `n` is handed to the owner of its object, where the health state left by this telegram
allows (R122). -/
def handTelegram (n : DevNo) (payload : List Byte) (p : Part) : Part :=
  let d := p.device n
  match d.binding with
  | .unbound => p
  | .meter h => if d.health = .lost then p else takeMeter h payload (d.health == .doubtful) p
  | .reader h => takeTag h payload p
  | .valve h => takeValve h payload p
  | .starter t => takeStarter t payload p
  | .inlet t => takeInlet t payload p
  | .gauge t => if d.health = .lost then p else takeLevel t payload p
  | .sump z => takeSump n z payload p
  | .estop z => takeEstop n z payload p

/-- The telegram's kind is checked against the sender's role (R118): an ECHO_BACK fits every role and goes to the line
test; a kind that does not fit a bound node's role is a mismatch. -/
def checkKind (n : DevNo) (kind : Byte) (payload : List Byte) (p : Part) : Part :=
  let b := (p.device n).binding
  if kind = kindEchoBack then takeEchoBack n payload p
  else if b = .unbound then p
  else if b.kind = some kind then handTelegram n payload p
  else modDevice n (fun d => { d with mismatches := satAdd max16 d.mismatches 1 }) p

/-- The Line monitor takes a good field telegram (R117): its source's entry, the last kind, the score and health, and
then the kind check. -/
def monitorTelegram (t : Telegram) (p : Part) : Part :=
  match deviceOf t.head.src with
  | none => p
  | some n =>
    let q := modDevice n (fun d => { d with lastKind := some t.kind }) p
    let q := if (q.device n).binding = .unbound then q else scoreTelegram n q
    checkKind n t.kind t.payload q

/-- A good telegram ends at the field port: the Line monitor takes it, and the Pass filter decides whether it goes
upstream (R117, R134, R145). -/
def fieldTelegram (t : Telegram) (p : Part) : Part :=
  modPort .fp Port.heardEnd p |> monitorTelegram t |> offer .fieldToUp t

/-! ## Binding writes (R114 to R116) -/

/-- The object reached through a role is a hose that is IN or PROVING (R114 check 5). -/
def Part.hoseWorking (p : Part) : Binding → Bool
  | .meter h | .reader h | .valve h => (p.hose h).mode != .out
  | _ => false

/-- The object reached through a role is a tank that is RECEIVING or has open hoses (R114 check 6). -/
def Part.tankWorking (p : Part) : Binding → Bool
  | .starter t | .inlet t | .gauge t => (p.tank t).state == .receiving || decide (0 < (p.tank t).openHoses)
  | _ => false

/-- What the owner of a released or taken pair does (R115). -/
def rebindOwner (b : Binding) (p : Part) : Part :=
  match b with
  | .meter h => modHose h (fun x => { x with baseline := none }) p
  | .reader h => modHose h (fun x => { x with nozzle := .holstered }) p
  | .valve h => modHose h (fun x => { x with valveReport := .none }) p
  | .starter t => modPump t (fun u => { u with confirmed := false }) p
  | .inlet t => modTank t (fun x => { x with inletReport := .none }) p
  | .gauge t => gaugeLeftGood t p
  | .sump _ | .estop _ | .unbound => p

/-- The device entry for a new pair (R115); the sensor reports go back to dry and released (R94, R95). -/
def Device.rebound (d : Device) (b : Binding) : Device :=
  { d with binding := b, mismatches := 0, wet := false, pressed := false,
           score := if b = .unbound then 0 else 32,
           health := if b = .unbound then .good else .doubtful }

/-- The part's own RUN, SET and LAMP telegrams still waiting for a node are removed (R115). -/
def Port.dropOrders (x : Node) (q : Port) : Port :=
  { q with own := q.own.filter fun u =>
      !(u.head.dst == x && (u.kind == kindRun || u.kind == kindSet || u.kind == kindLamp)) }

/-- A valve, a starter or an inlet is taken: where its zone is TRIPPED, nothing goes on waiting for the node that R101
bars (log 36). -/
def holdTaken (b : Binding) (p : Part) : Part :=
  match b with
  | .valve h => if p.hoseTripped h then dropBarred p else p
  | .starter t | .inlet t => if (p.zone (p.tank t).cfg.zone).state = .tripped then dropBarred p else p
  | _ => p

/-- A binding write, checked in order (R114); `none` is DONE. -/
def bindDevice (n : DevNo) (role object : Nat) (p : Part) : Except Status Part :=
  if p.bayMode ≠ .layUp then .error .refusedMode
  else
    match bindingOf role object with
    | none => .error .badValue
    | some b =>
      let old := (p.device n).binding
      if b = old then .ok p
      else if b ≠ .unbound && (p.boundNode b).isSome then .error .inUse
      else if p.hoseWorking old || p.hoseWorking b then .error .inUse
      else if p.tankWorking old || p.tankWorking b then .error .inUse
      else .ok (modDevice n (fun d => d.rebound b) (modPort .fp (Port.dropOrders (nodeOf n)) p)
        |> rebindOwner old
        |> rebindOwner b
        |> holdTaken b)

end Sys2Proof.Machine
end

