-- ==== Sys2Proof/Machine/HoseCommands.lean ====
section
/-! DEFINITION. The commands of hoses: HOSE_SERVICE (R3 to R5) and meter proving (R178 to R184). -/

namespace Sys2Proof.Machine

open Sys2Proof

/-! ## HOSE_SERVICE -/

/-- The checks of a hose record (R4). -/
def Part.hoseFit (p : Part) (h : HoseNo) : Bool :=
  let c := (p.hose h).cfg
  c.tank.isSome && (p.boundNode (.meter h)).isSome && (p.boundNode (.reader h)).isSome &&
    (p.boundNode (.valve h)).isSome && decide (1 ≤ c.pulseWeight) && curveOk c.curve

def setPendingOut (h : HoseNo) (b : Bool) (p : Part) : Part := modHose h (fun x => { x with pendingOut := b }) p

/-- HOSE_SERVICE(hose, out) (R3). -/
def hoseOut (h : HoseNo) (p : Part) : Answer :=
  match (p.hose h).mode with
  | .idle => done (enterOut h p)
  | .fill (.closing _ _) _ => done (setPendingOut h true p)
  | .fill _ _ => done (setPendingOut h true (endRequest h .hoseOut p))
  | .out => done p
  | .proving _ => refuse .refusedMode p

/-- A hose enters service (R4). -/
def enterIn (h : HoseNo) (p : Part) : Part :=
  modHose h (fun x => { x with mode := .idle, uncoupled := 0, uncoupledRaised := false, pendingOut := false }) p
  |> sendLamp h lampOff

/-- HOSE_SERVICE(hose, in) (R4). -/
def hoseIn (h : HoseNo) (p : Part) : Answer :=
  match (p.hose h).mode with
  | .idle | .fill _ _ => done p
  | .proving _ => refuse .refusedMode p
  | .out => if p.hoseFit h then done (enterIn h p) else refuse .badValue p

/-- HOSE_SERVICE(hose, form): 0 for out, 1 for in (R167). -/
def hoseService (hose form : Byte) : Part → Answer :=
  withIndex 8 hose fun h p => if form = 0 then hoseOut h p else if form = 1 then hoseIn h p else refuse .badValue p

def execHoseServiceOut (src : Node) (args : Option (Byte × Byte)) (s : State) : Host.Outcome State Fault Refusal :=
  outcome (command src (withArgs args fun (hose, form) => hoseService hose form)) s

def execHoseServiceIn (src : Node) (hose : Byte) (s : State) : Host.Outcome State Fault Refusal :=
  outcome (command src (hoseService hose 1)) s

/-! ## PROVE_START (R179) -/

/-- An accepted PROVE_START. -/
def startSession (h : HoseNo) (runs can : Nat) (p : Part) : Part :=
  setMode h (.proving { planned := runs, can := can, ended := [], run := none }) (reserve runs p)
  |> sendLamp h lampOff

/-- The hose's zone is NORMAL; a hose of no zone is in none that is. -/
def Part.zoneNormal (p : Part) (h : HoseNo) : Bool :=
  match p.hoseZone h with
  | some z => (p.zone z).state == .normal
  | none => false

/-- PROVE_START(hose, runs, can mL), checked in order. -/
def proveStartCommand (args : Option (Byte × Byte × Long)) (p : Part) : Answer :=
  withArgs args (fun (hose, runs, can) => withIndex 8 hose fun h p =>
    if runs = 0 || 5 < runs.toNat || can.toNat < 1000 || 2000000 < can.toNat then refuse .badValue p
    else if (p.hose h).mode ≠ .out then refuse .refusedMode p
    else if !p.hoseFit h then refuse .badValue p
    else if !p.zoneNormal h then refuse .refusedMode p
    else if !p.canReserve runs.toNat then refuse .queueFull p
    else done (startSession h runs.toNat can.toNat p)) p

def execProveStart (src : Node) (args : Option (Byte × Byte × Long)) (s : State) :
    Host.Outcome State Fault Refusal :=
  outcome (command src (proveStartCommand args)) s

/-! ## PROVE_RESULT (R182) -/

/-- The result a can reading gives an ended run; none where the command is answered BAD_VALUE. -/
def EndedRun.resultOf (r : EndedRun) (can : Nat) : Option RunResult :=
  let factor := r.factorUsed * can / r.gross
  if r.gross = 0 || can = 0 || !factorOk factor then none
  else some { can := can, factor := factor, credit := can * r.vcf / 1000000 }

/-- The credit goes to the hose's tank. -/
def creditTank (h : HoseNo) (ml : Nat) (p : Part) : Part :=
  match (p.hose h).cfg.tank with
  | some t => disturbWindows t (lowStockTest t (modTank t (fun x => x.bookChange .adjustment ml) p))
  | none => p

/-- The run of number `k` from 1, resulted. -/
def takeResult (h : HoseNo) (s : Session) (k : Nat) (r : EndedRun) (x : RunResult) (p : Part) : Answer where
  part := creditTank h x.credit
    (setMode h (.proving { s with ended := s.ended.set (k - 1) { r with result := some x } }) p)
  status := .done
  data := bytes32 (BitVec.ofNat 32 x.factor) ++ bytes32 (BitVec.ofNat 32 x.credit)

/-- The ended run of number `k` from 1. -/
def Session.endedRun (s : Session) (k : Nat) : Option EndedRun := if k = 0 then none else s.ended[k - 1]?

/-- PROVE_RESULT(hose, run, can mL). -/
def proveResultCommand (args : Option (Byte × Byte × Long)) (p : Part) : Answer :=
  withArgs args (fun (hose, run, can) => withIndex 8 hose fun h p =>
    match (p.hose h).mode with
    | .proving s =>
      match s.endedRun run.toNat with
      | none => refuse .badIndex p
      | some r =>
        if r.result.isSome then refuse .inUse p
        else
          match r.resultOf can.toNat with
          | none => refuse .badValue p
          | some x => takeResult h s run.toNat r x p
    | _ => refuse .refusedMode p) p

def execProveResult (src : Node) (args : Option (Byte × Byte × Long)) (s : State) :
    Host.Outcome State Fault Refusal :=
  outcome (command src (proveResultCommand args)) s

/-! ## PROVE_END (R183) -/

/-- How far apart two flows are. -/
def flowGap (a b : Nat) : Nat := (a - b) + (b - a)

/-- A point's flow lies within 10 % of the mean rate. -/
def near (mean : Nat) (q : CurvePoint) : Bool := decide (flowGap q.flow mean * 100 ≤ mean * 10)

/-- The place of the nearest point among those within 10 %, counted from `k`; `best` is the nearest so far. A later
point, of higher flow, must be strictly nearer. -/
def nearestAt (mean : Nat) : List CurvePoint → Nat → Option (Nat × CurvePoint) → Option (Nat × CurvePoint)
  | [], _, best => best
  | q :: rest, k, best =>
    let better := match best with
      | some (_, b) => decide (flowGap q.flow mean < flowGap b.flow mean)
      | none => true
    nearestAt mean rest (k + 1) (if near mean q && better then some (k, q) else best)

/-- A point put in flow order: the curve, and the place it takes, counted from `k`. -/
def insertPoint (x : CurvePoint) : List CurvePoint → Nat → List CurvePoint × Nat
  | [], k => ([x], k)
  | q :: rest, k =>
    if x.flow < q.flow then (x :: q :: rest, k)
    else
      let (ps, i) := insertPoint x rest (k + 1)
      (q :: ps, i)

/-- The mean point of the resulted runs. -/
def meanPoint (runs : List (EndedRun × RunResult)) : CurvePoint where
  flow := (runs.map fun r => r.1.meanRate).sum / runs.length
  factor := (runs.map fun r => r.2.factor).sum / runs.length

/-- The RESULTED runs of a session. -/
def Session.resulted (s : Session) : List (EndedRun × RunResult) :=
  s.ended.filterMap fun r => r.result.map fun x => (r, x)

/-- The largest run factor less the smallest. -/
def spread (runs : List (EndedRun × RunResult)) : Nat :=
  let fs := runs.map fun r => r.2.factor
  fs.foldl max 0 - fs.foldl min (fs.headD 0)

/-- What an accept makes of a curve: the new curve and the point's position from 1; none where it is answered
BAD_VALUE. -/
def acceptCurve (runs : List (EndedRun × RunResult)) (curve : List CurvePoint) : Option (List CurvePoint × Nat) :=
  let x := meanPoint runs
  if runs.length < 3 || 50 < spread runs then none
  else
    match nearestAt x.flow curve 0 none with
    | some (k, _) => some (curve.set k x, k + 1)
    | none =>
      if 6 ≤ curve.length then none
      else
        let (ps, i) := insertPoint x curve 0
        some (ps, i + 1)

/-- A curve of up to six points put into a record; the points beyond it are kept. -/
def HoseConfig.putCurve (c : HoseConfig) (ps : List CurvePoint) : HoseConfig :=
  let at_ (i : Fin 6) : CurvePoint := (ps[i.val]?).getD (nth c.points i)
  { c with pointCount := ps.length, points := #v[at_ 0, at_ 1, at_ 2, at_ 3, at_ 4, at_ 5] }

/-- The session is dropped: the reservations of runs that placed no record are released, and the hose returns to OUT
with its handling applied (R183, R184, R5). -/
def dropSession (h : HoseNo) (p : Part) : Part :=
  match (p.hose h).mode with
  | .proving s => enterOut h (release (s.planned - s.ended.length) p)
  | _ => p

/-- A run in progress ends with cause ABANDONED, and the session is dropped (R183, R184). -/
def abandonSession (h : HoseNo) (p : Part) : Part :=
  match (p.hose h).mode with
  | .proving s =>
    match s.run with
    | some r => dropSession h (endRun h .abandoned s r p)
    | none => dropSession h p
  | _ => p

/-- PROVE_END(hose, accept). -/
def acceptSession (h : HoseNo) (s : Session) (p : Part) : Answer :=
  if s.run.isSome then refuse .inUse p
  else
    match acceptCurve s.resulted (p.hose h).cfg.curve with
    | none => refuse .badValue p
    | some (ps, position) =>
      let x := meanPoint s.resulted
      { part := modHose h (fun y => { y with cfg := y.cfg.putCurve ps }) p |> dropSession h |> raise .proveDone,
        status := .done,
        data := [BitVec.ofNat 8 position] ++
          bytes16 (if x.flow ≤ max16 then BitVec.ofNat 16 x.flow else Config.freeFlow x.flow) ++
          bytes32 (BitVec.ofNat 32 x.factor) }

/-- PROVE_END(hose, form): 0 for accept, 1 for abandon. -/
def proveEnd (hose form : Byte) : Part → Answer :=
  withIndex 8 hose fun h p =>
    match (p.hose h).mode with
    | .proving s =>
      if form = 0 then acceptSession h s p
      else if form = 1 then done (raise .proveDone (abandonSession h p))
      else refuse .badValue p
    | _ => refuse .refusedMode p

def execProveEndAccept (src : Node) (args : Option (Byte × Byte)) (s : State) : Host.Outcome State Fault Refusal :=
  outcome (command src (withArgs args fun (hose, form) => proveEnd hose form)) s

def execProveEndAbandon (src : Node) (hose : Byte) (s : State) : Host.Outcome State Fault Refusal :=
  outcome (command src (proveEnd hose 1)) s

end Sys2Proof.Machine
end

