-- ==== Sys2Proof/Machine/Window.lean ====
section
/-! DEFINITION. The table window (R168 to R171) and the word layouts of its tables (R159, R177): for each word of an
entry, what it reads and what a write to it does. -/

namespace Sys2Proof.Machine

open Sys2Proof

/-! ## Words and the parts of a word -/

def w16 (n : Nat) : Word := BitVec.ofNat 16 n
def w32 (n : Nat) : Long := BitVec.ofNat 32 n

/-- A word of a low byte and a high byte. -/
def pairWord (lo hi : Nat) : Word := w16 (lo + 256 * hi)

def bitIf (b : Bool) (n : Nat) : Nat := if b then n else 0

/-- A field that may be none or absent: FFFFh then (R177). -/
def optWord (x : Option Nat) : Word := w16 (x.getD max16)

/-- The two-word form: FFFFFFFFh then (R177). -/
def optLong (x : Option Nat) : Long := w32 (x.getD max32)

/-- A signed word; none is FFFFh. -/
def tempWord (x : Option Int) : Word :=
  match x with
  | some t => BitVec.ofInt 16 t
  | none => 0xFFFF

/-- A figure shown as the nearest signed 32-bit one (R75). -/
def saturated (x : Int) : Long := BitVec.ofInt 32 (clampInt x (-2147483648) 2147483647)

/-- A figure shown as a signed 32-bit one; outside that range its bits are free (log 7). -/
def shownSigned (x : Int) : Long :=
  if -2147483648 ≤ x && x ≤ 2147483647 then BitVec.ofInt 32 x else Config.freeSigned x

/-- A flow; above 65,535 its bits are free (log 8). -/
def flowWord (flow : Nat) : Word := if flow ≤ max16 then w16 flow else Config.freeFlow flow

def lowerWord (x : Long) : Word := x.extractLsb' 0 16
def upperWord (x : Long) : Word := x.extractLsb' 16 16

/-- The bits that a word's field holds, from bit `lo`, `n` of them. -/
def bitsOf (w : Word) (lo n : Nat) : Nat := (w.extractLsb' lo n).toNat

def lowPart (w : Word) : Nat := bitsOf w 0 8
def highPart (w : Word) : Nat := bitsOf w 8 8

/-! ## Cells -/

/-- What a write to a word does: it is refused, it applies a one-word field, it is kept as the lower word of a two-word
field, or it applies that field (R170). -/
inductive Slot where
  | shut (st : Status)
  | one (apply : Word → Part → Except Status Part)
  | lower
  | upper (apply : Long → Part → Except Status Part)

/-- One word of an entry. -/
structure Cell where
  value : Word
  slot : Slot

/-- A read-only word: a write is refused with BAD_VALUE (R170). -/
def ro (v : Word) : List Cell := [⟨v, .shut .badValue⟩]

/-- A read-only two-word field. -/
def ro2 (v : Long) : List Cell := ro (lowerWord v) ++ ro (upperWord v)

/-- A one-word field. -/
def rw1 (v : Word) (f : Word → Part → Except Status Part) : List Cell := [⟨v, .one f⟩]

/-- A two-word field. -/
def rw2 (v : Long) (f : Long → Part → Except Status Part) : List Cell :=
  [⟨lowerWord v, .lower⟩, ⟨upperWord v, .upper f⟩]

/-- A change made when the value is in its range, and refused with BAD_VALUE otherwise. -/
def within (ok : Bool) (f : Part → Part) (p : Part) : Except Status Part :=
  if ok then .ok (f p) else .error .badValue

/-- A one-word number of a range, put into an object. -/
def number (v lo hi : Nat) (f : Nat → Part → Part) : List Cell :=
  rw1 (w16 v) fun w => within (decide (lo ≤ w.toNat) && decide (w.toNat ≤ hi)) (f w.toNat)

/-- A two-word number of a range. -/
def number2 (v lo hi : Nat) (f : Nat → Part → Part) : List Cell :=
  rw2 (w32 v) fun w => within (decide (lo ≤ w.toNat) && decide (w.toNat ≤ hi)) (f w.toNat)

/-- A counter that takes 0 only. -/
def zeroOnly (v : Nat) (f : Part → Part) : List Cell := rw1 (w16 v) fun w => within (w == 0) f

/-- A two-word counter that takes 0 only. -/
def zeroOnly2 (v : Nat) (f : Part → Part) : List Cell := rw2 (w32 v) fun w => within (w == 0) f

/-- A throttle code: 0 is refused, and a code above 15 is taken as 15 (R1, R167). -/
def throttle (v : Nat) (f : Nat → Part → Part) : List Cell :=
  number v 1 max16 fun n => f (min n 15)

/-- A two-word hour figure, where FFFFFFFFh is none (R46). -/
def hourField (v : Option Nat) (f : Option Nat → Part → Part) : List Cell :=
  rw2 (optLong v) fun w p => .ok (f (hoursOf w) p)

/-- Words whose writes are refused while their owner's state forbids them (R171). -/
def gated (ok : Bool) (st : Status) (cs : List Cell) : List Cell :=
  if ok then cs else cs.map fun c => { c with slot := .shut st }

/-! ## MACHINE (R46 to R48) -/

def productNos : List ProductNo := [0, 1, 2, 3, 4, 5, 6, 7]

/-- A tag write (R47). -/
def writeTag (m : SlotNo) (tag : Long) (p : Part) : Except Status Part :=
  if tag = (p.machine m).tag then .ok p
  else if (p.machine m).openHose.isSome then .error .inUse
  else if tag = 0 then .ok (modMachine m (fun _ => MachineRec.empty) p)
  else if (p.findTag tag).isSome then .error .inUse
  else .ok (modMachine m (fun x => { x with tag := tag }) p)

/-- The doubt count, with the abnormal flag, which takes clear only (R48). -/
def writeDoubt (m : SlotNo) (w : Word) : Part → Except Status Part :=
  within (!w.getLsbD 15) (modMachine m fun x => { x with doubt := bitsOf w 0 3, abnormal := false })

/-- The words of a machine slot. DESIGN CHOICE (log 23): bits that R177 gives no field, those of the read-only word 2 and of
word 3, read 0. -/
def machineEntry (m : SlotNo) (x : MachineRec) : List Cell :=
  rw2 x.tag (writeTag m) ++
  ro (w16 (bitIf (x.state == .barred) 1 + bitIf x.hold 2 + 256 * numberOf x.openHose)) ++
  rw1 (w16 (x.doubt + bitIf x.abnormal 32768)) (writeDoubt m) ++
  productNos.flatMap (fun i => number (nth x.allowances i) 0 max16 fun n =>
    modMachine m fun y => { y with allowances := setNth y.allowances i n }) ++
  number2 x.burnRate 0 2000000 (fun n => modMachine m fun y => { y with burnRate := n }) ++
  number x.learnCount 0 255 (fun n => modMachine m fun y => { y with learnCount := n }) ++
  hourField x.lastHours (fun n => modMachine m fun y => { y with lastHours := n }) ++
  hourField x.hoursAtFull (fun n => modMachine m fun y => { y with hoursAtFull := n }) ++
  number2 x.addedSinceFull 0 max32 (fun n => modMachine m fun y => { y with addedSinceFull := n }) ++
  hourField x.hoursAtService (fun n => modMachine m fun y => { y with hoursAtService := n }) ++
  number x.serviceInterval 0 max16 (fun n => modMachine m fun y => { y with serviceInterval := n }) ++
  number x.lubeSinceService 0 max16 (fun n => modMachine m fun y => { y with lubeSinceService := n }) ++
  number x.lubeLimit 0 max16 (fun n => modMachine m fun y => { y with lubeLimit := n }) ++
  number2 x.lifetimeFuel 0 max32 (fun n => modMachine m fun y => { y with lifetimeFuel := n }) ++
  number x.fillCount 0 max16 (fun n => modMachine m fun y => { y with fillCount := n })

/-! ## HOSE (R1, R2, R28) -/

/-- Service states IN, OUT, PROVING (R1). -/
def HoseMode.serviceCode : HoseMode → Nat
  | .idle | .fill _ _ => 0
  | .out => 1
  | .proving _ => 2

/-- Transaction states IDLE, READY, FLOWING, PAUSED, CLOSING, OUT, PROVING (R2). -/
def HoseMode.code : HoseMode → Nat
  | .idle => 0
  | .fill .ready _ => 1
  | .fill .flowing _ => 2
  | .fill .paused _ => 3
  | .fill (.closing _ _) _ => 4
  | .out => 5
  | .proving _ => 6

def Nozzle.code : Nozzle → Nat
  | .holstered => 0
  | .lifted => 1
  | .coupled => 2
  | .coupledShut => 3

/-- The last report of a valve or an inlet: 0 to 15, FEh for FAULT, FFh for NONE. -/
def ValveReport.shown : ValveReport → Nat
  | .code n => n
  | .fault => 254
  | .none => 255

/-- The node bound in a role, 0 for none. -/
def Part.nodeNumber (p : Part) (b : Binding) : Nat := numberOf (p.boundNode b)

/-- The cap of the open transaction, or the can volume while a run is in progress (R179). -/
def HoseMode.cap : HoseMode → Nat
  | .fill _ t => t.cap
  | .proving s => s.can
  | _ => 0

/-- Words 62 to 70: the open transaction or the run in progress, 0 where there is none. -/
def openWords (m : HoseMode) : List Cell :=
  match m.tally with
  | some t =>
    ro2 (w32 t.gross) ++ ro2 (w32 t.net) ++ ro (optWord (t.meter.lastRate.map (min · 65534))) ++
    ro (tempWord t.lastTemp) ++ ro (pairWord t.jumps t.flags.bits) ++ ro2 (w32 m.cap)
  | none => [0, 0, 0, 0, 0, 0, 0, 0, 0].flatMap ro

def pointNos : List (Fin 6) := [0, 1, 2, 3, 4, 5]
def stepNos : List (Fin 4) := [0, 1, 2, 3]
def refusalNos : List (Fin 14) := [0, 1, 2, 3, 4, 5, 6, 7, 8, 9, 10, 11, 12, 13]

/-- A change of a hose's configuration. -/
def modConfig (h : HoseNo) (f : HoseConfig → HoseConfig) (p : Part) : Part :=
  modHose h (fun x => { x with cfg := f x.cfg }) p

def modPoint (h : HoseNo) (i : Fin 6) (f : CurvePoint → CurvePoint) : Part → Part :=
  modConfig h fun c => { c with points := setNth c.points i (f (nth c.points i)) }

def modStep (h : HoseNo) (i : Fin 4) (f : TaperStep → TaperStep) : Part → Part :=
  modConfig h fun c => { c with steps := setNth c.steps i (f (nth c.steps i)) }

/-- The hose takes a tank, or none: the stray set is dropped (R28), and in a TRIPPED zone nothing goes on waiting for its
valve that R101 bars (log 36). -/
def giveTank (h : HoseNo) (t : Option TankNo) (p : Part) : Part :=
  let q := modHose h (fun x => { x with cfg := { x.cfg with tank := t }, straySet := {} }) p
  if q.hoseTripped h then dropBarred q else q

/-- A write of the tank field. -/
def writeTankField (h : HoseNo) (w : Word) : Part → Except Status Part :=
  within (decide (w.toNat ≤ 6)) (giveTank h (fromOne 6 w.toNat))

def handlingField (h : HoseNo) (x : Handling) : List Cell :=
  number (bitIf (x == .isolate) 1) 0 1 fun n =>
    modConfig h fun c => { c with handling := if n = 1 then .isolate else .holdClosed }

/-- The configuration words 1 to 39. -/
def hoseConfigWords (h : HoseNo) (c : HoseConfig) (p : Part) (ok : Bool) : List Cell :=
  gated ok .refusedMode (rw1 (w16 (numberOf c.tank)) (writeTankField h)) ++
  ro (optWord ((p.hoseZone h).map (·.val + 1))) ++
  ro (pairWord (p.nodeNumber (.meter h)) (p.nodeNumber (.reader h))) ++
  ro (w16 (p.nodeNumber (.valve h))) ++
  gated ok .refusedMode (
    number2 c.pulseWeight 0 100000 (fun n => modConfig h fun c => { c with pulseWeight := n }) ++
    number c.pulseCeiling 1 max16 (fun n => modConfig h fun c => { c with pulseCeiling := n }) ++
    throttle c.openCode (fun n => modConfig h fun c => { c with openCode := n }) ++
    handlingField h c.handling ++
    number c.pauseTimeout 10 600 (fun n => modConfig h fun c => { c with pauseTimeout := n }) ++
    number c.dripLimit 0 50 (fun n => modConfig h fun c => { c with dripLimit := n }) ++
    number c.pointCount 0 6 (fun n => modConfig h fun c => { c with pointCount := n }) ++
    pointNos.flatMap (fun i =>
      rw1 (flowWord (nth c.points i).flow) (fun w p => .ok (modPoint h i (fun q => { q with flow := w.toNat }) p)) ++
      number2 (nth c.points i).factor 90000 110000 fun n => modPoint h i fun q => { q with factor := n }) ++
    number c.stepCount 0 4 (fun n => modConfig h fun c => { c with stepCount := n }) ++
    stepNos.flatMap (fun i =>
      number (nth c.steps i).litres 0 max16 (fun n => modStep h i fun q => { q with litres := n }) ++
      throttle (nth c.steps i).code fun n => modStep h i fun q => { q with code := n }))

/-- The words of a hose record. DESIGN CHOICE (log 23): bits that R177 gives no field, those of the read-only word 41 and bit
8 of word 68, read 0. -/
def hoseEntry (h : HoseNo) (p : Part) : List Cell :=
  let x := p.hose h
  ro (pairWord x.mode.serviceCode x.mode.code) ++
  hoseConfigWords h x.cfg p (x.mode == .out) ++
  ro (pairWord x.nozzle.code x.valveReport.shown) ++
  ro (w16 (bitIf x.pendingOut 1 + bitIf x.uncoupledRaised 2 + bitIf x.baseline.isSome 4)) ++
  ro2 (w32 x.uncoupled) ++
  zeroOnly2 x.stray (modHose h fun x => { x with stray := 0 }) ++
  ro (optWord x.baseline) ++
  zeroOnly x.jumpTotal (modHose h fun x => { x with jumpTotal := 0 }) ++
  refusalNos.flatMap (fun i => zeroOnly (nth x.refusals i)
    (modHose h fun x => { x with refusals := setNth x.refusals i 0 })) ++
  openWords x.mode

/-! ## TANK and STRAP (R68, R69) -/

def TankState.code : TankState → Nat
  | .inService => 0
  | .receiving => 1
  | .outOfService => 2

def LossWindow.code : LossWindow → Nat
  | .none => 0
  | .waiting => 1
  | .opened _ _ _ => 2
  | .spent => 3

def RestWindow.code : RestWindow → Nat
  | .none => 0
  | .running _ _ _ => 1

def modTankConfig (t : TankNo) (f : TankConfig → TankConfig) (p : Part) : Part :=
  modTank t (fun x => { x with cfg := f x.cfg }) p

/-- A tank moves into a zone: into a TRIPPED one, steps 3 and 4 of R99 are applied to it and its hoses (R101); both
zones' recovery tests are made again (R105). -/
def moveTank (t : TankNo) (z : ZoneNo) (p : Part) : Part :=
  let old := (p.tank t).cfg.zone
  if z = old then p
  else
    let q := modTankConfig t (fun c => { c with zone := z }) p
    let q := if (q.zone z).state = .tripped then
        dropBarred (shutOrders (q.tankHoses t) [t] (each (q.tankHoses t) (fun h => endRequest h .trip) q))
      else q
    recoveryTest z (recoveryTest old q)

def writeZone (t : TankNo) (w : Word) (p : Part) : Except Status Part :=
  match fromOne 4 w.toNat with
  | some z => .ok (moveTank t z p)
  | none => .error .badValue

/-- Words 36 to 41: the delivery in progress. -/
def deliveryWords (d : Option Delivery) : List Cell :=
  match d with
  | some d =>
    ro (w16 d.declared) ++ ro2 (w32 d.startGauge) ++ ro2 (w32 d.outflow) ++
    ro (match d.closed with
      | none => pairWord 1 0
      | some c => pairWord 2 c.code)
  | none => ro 0 ++ ro2 (optLong none) ++ ro2 (optLong none) ++ ro 0

/-- The configuration words 1 to 11. -/
def tankConfigWords (t : TankNo) (c : TankConfig) : List Cell :=
  number (numberOf c.product) 0 8 (fun n => modTankConfig t fun c => { c with product := fromOne 8 n }) ++
  rw1 (w16 (c.zone.val + 1)) (writeZone t) ++
  number2 c.capacity 0 1000000 (fun n => modTankConfig t fun c => { c with capacity := n }) ++
  number c.highHigh 0 max16 (fun n => modTankConfig t fun c => { c with highHigh := n }) ++
  number2 c.lowCutoff 0 1000000 (fun n => modTankConfig t fun c => { c with lowCutoff := n }) ++
  number c.lossFloor 0 max16 (fun n => modTankConfig t fun c => { c with lossFloor := n }) ++
  number c.restThreshold 0 max16 (fun n => modTankConfig t fun c => { c with restThreshold := n }) ++
  number c.restCode 0 7 (fun n => modTankConfig t fun c => { c with restCode := n }) ++
  number c.tolerance 0 1000 (fun n => modTankConfig t fun c => { c with tolerance := n })

/-- The words of a tank record. DESIGN CHOICE (log 23): bits that R177 gives no field, those of the read-only words 0 and 35,
read 0. -/
def tankEntry (t : TankNo) (p : Part) : List Cell :=
  let x := p.tank t
  ro (w16 (x.state.code + bitIf x.low 256 + bitIf x.gaugeHeld 512 + bitIf x.aboveTable 1024)) ++
  gated (x.state == .outOfService) .refusedMode (tankConfigWords t x.cfg) ++
  ro (pairWord (p.nodeNumber (.gauge t)) (p.nodeNumber (.starter t))) ++
  ro (w16 (p.nodeNumber (.inlet t))) ++
  ro2 (saturated x.setPoint) ++
  ro2 (shownSigned x.totals.received) ++
  ro2 (shownSigned x.totals.adjustment) ++
  ro2 (shownSigned x.totals.dispensed) ++
  ro2 (shownSigned x.totals.stray) ++
  ro2 (saturated x.book) ++
  ro (w16 x.folds) ++
  ro2 (optLong x.gaugeNet) ++
  ro (optWord x.lastLevel) ++ ro (optWord x.lastWater) ++ ro (tempWord x.lastTemp) ++
  ro (pairWord x.loss.code x.rest.code) ++
  ro (w16 x.inletReport.shown) ++
  ro (w16 x.openHoses) ++
  ro (w16 ((p.pump t).count + bitIf (p.pump t).confirmed 256)) ++
  deliveryWords x.delivery ++
  ro (tempWord x.gaugeTemp)

def strapNos : List (Fin 32) :=
  [0, 1, 2, 3, 4, 5, 6, 7, 8, 9, 10, 11, 12, 13, 14, 15, 16, 17, 18, 19, 20, 21, 22, 23, 24, 25, 26, 27, 28, 29, 30, 31]

def modStrap (t : TankNo) (i : Fin 32) (f : StrapPoint → StrapPoint) : Part → Part :=
  modTankConfig t fun c => { c with straps := setNth c.straps i (f (nth c.straps i)) }

def strapEntry (t : TankNo) (x : Tank) : List Cell :=
  gated (x.state == .outOfService) .refusedMode (
    number x.cfg.strapCount 0 32 (fun n => modTankConfig t fun c => { c with strapCount := n }) ++
    strapNos.flatMap fun i =>
      number (nth x.cfg.straps i).level 0 max16 (fun n => modStrap t i fun q => { q with level := n }) ++
      number2 (nth x.cfg.straps i).volume 0 1000000 fun n => modStrap t i fun q => { q with volume := n })

/-! ## PRODUCT (R67) and DEVICE (R112 to R116) -/

def modProduct (i : ProductNo) (f : Product → Product) (p : Part) : Part :=
  { p with products := setNth p.products i (f (p.product i)) }

def writeClass (i : ProductNo) (w : Word) (p : Part) : Except Status Part :=
  match classOf w.toNat with
  | some c => .ok (modProduct i (fun x => { x with cls := c }) p)
  | none => .error .badValue

/-- A fallback temperature within −500 to +800. -/
def writeFallback (i : ProductNo) (w : Word) : Part → Except Status Part :=
  within (tempValid w.toInt) (modProduct i fun x => { x with fallback := w.toInt })

def productEntry (i : ProductNo) (x : Product) (used : Bool) : List Cell :=
  gated (!used) .inUse (
    rw1 (w16 x.cls.code) (writeClass i) ++
    number x.beta 0 2000 (fun n => modProduct i fun x => { x with beta := n }) ++
    rw1 (tempWord (some x.fallback)) (writeFallback i) ++
    ro (w16 (bitIf used 1)))

def Health.code : Health → Nat
  | .good => 0
  | .doubtful => 1
  | .lost => 2

/-- DESIGN CHOICE (log 42): R103 says that the sensors' last reports are read in the device table, but R177 gives them no
word and no bit, and none to R112's period timer either; the model follows R177's layout and shows them in no word. -/
def deviceEntry (n : DevNo) (d : Device) : List Cell :=
  rw1 (pairWord d.binding.role d.binding.object) (fun w => bindDevice n (lowPart w) (highPart w)) ++
  rw1 (w16 d.period) (fun w p => .ok (modDevice n (fun d => { d with period := clampNat w.toNat 1 600 }) p)) ++
  ro (pairWord d.score d.health.code) ++
  zeroOnly d.mismatches (modDevice n fun d => { d with mismatches := 0 }) ++
  ro (optWord (d.lastKind.map (·.toNat)))

/-! ## PASS (R143, R144) -/

def PassAction.code : PassAction → Nat
  | .pass => 0
  | .drop => 1
  | .thin _ => 2

def PassAction.thinN : PassAction → Nat
  | .thin n => n
  | _ => 0

def actionOf (code n : Nat) : Option PassAction :=
  match code with
  | 0 => some .pass
  | 1 => some .drop
  | 2 => some (.thin n)
  | _ => none

/-- A change of a rule's fields starts a new thinning cycle. -/
def modRule (r : RuleNo) (f : PassRule → PassRule) (p : Part) : Part :=
  { p with rules := setNth p.rules r { f (nth p.rules r) with thinCount := 0 } }

def writeRuleHead (r : RuleNo) (w : Word) (p : Part) : Except Status Part :=
  match actionOf (bitsOf w 4 2) (bitsOf w 8 3) with
  | some a => .ok (modRule r (fun x => { x with
      inUse := w.getLsbD 0, dir := if w.getLsbD 1 then .upToField else .fieldToUp, action := a }) p)
  | none => .error .badValue

def writeRuleKind (r : RuleNo) (w : Word) (p : Part) : Except Status Part :=
  .ok (modRule r (fun x => { x with kindValue := lowByte w, kindMask := highByte w }) p)

def writeRuleNode (r : RuleNo) (w : Word) : Part → Except Status Part :=
  within (decide (lowPart w ≤ 63) && decide (highPart w ≤ 63))
    (modRule r fun x => { x with nodeValue := w.extractLsb' 0 6, nodeMask := w.extractLsb' 8 6 })

/-- The words of a pass rule. DESIGN CHOICE (log 23): bits that R177 gives no field read 0. -/
def ruleEntry (r : RuleNo) (x : PassRule) : List Cell :=
  rw1 (w16 (bitIf x.inUse 1 + bitIf (x.dir == .upToField) 2 + 16 * x.action.code + 256 * x.action.thinN))
    (writeRuleHead r) ++
  rw1 (pairWord x.kindValue.toNat x.kindMask.toNat) (writeRuleKind r) ++
  rw1 (pairWord x.nodeValue.toNat x.nodeMask.toNat) (writeRuleNode r) ++
  ro (w16 x.thinCount) ++
  zeroOnly x.hits (fun p => { p with rules := setNth p.rules r { nth p.rules r with hits := 0 } })

def GuardCondition.code : GuardCondition → Nat
  | .tripped => 1
  | .hoseBusy => 2
  | .tankOpen => 3
  | .tankReceiving => 4

def writeDefaults (w : Word) (p : Part) : Except Status Part :=
  .ok { p with filter := { p.filter with
    dropUpward := w.getLsbD 0, dropDownward := w.getLsbD 1,
    acceptUpward := w.getLsbD 2, acceptDownward := w.getLsbD 3 } }

/-- The words of the filter entry. DESIGN CHOICE (log 23): bits that R177 gives no field read 0. -/
def filterEntry (f : FilterEntry) : List Cell :=
  rw1 (w16 (bitIf f.dropUpward 1 + bitIf f.dropDownward 2 + bitIf f.acceptUpward 4 + bitIf f.acceptDownward 8))
    writeDefaults ++
  zeroOnly f.guardCount (fun p => { p with filter := { p.filter with guardCount := 0 } }) ++
  zeroOnly f.holdCount (fun p => { p with filter := { p.filter with holdCount := 0 } }) ++
  ro (pairWord ((f.lastNode.map (·.toNat)).getD 255) ((f.lastCondition.map (·.code)).getD 0))

/-! ## PROFILE_A and PROFILE_B (R57) -/

/-- A change of profile A or of profile B. -/
def modProfile (l : Letter) (f : Profile → Profile) (p : Part) : Part :=
  match l with
  | .a => { p with profileA := f p.profileA }
  | .b => { p with profileB := f p.profileB }

/-- The words of a profile. DESIGN CHOICE (log 23): bits of word 5 that R177 gives no field read 0. -/
def profileEntry (l : Letter) (x : Profile) : List Cell :=
  number x.marginPct 0 100 (fun n => modProfile l fun x => { x with marginPct := n }) ++
  number x.marginFloor 0 max16 (fun n => modProfile l fun x => { x with marginFloor := n }) ++
  number x.blindPct 0 100 (fun n => modProfile l fun x => { x with blindPct := n }) ++
  number x.recoveryCap 0 max16 (fun n => modProfile l fun x => { x with recoveryCap := n }) ++
  number x.ceiling 0 max16 (fun n => modProfile l fun x => { x with ceiling := n }) ++
  rw1 (w16 (bitIf x.fuel 1 + bitIf x.lube 2 + bitIf x.coolant 4)) (fun w p =>
    .ok (modProfile l (fun x => { x with fuel := w.getLsbD 0, lube := w.getLsbD 1, coolant := w.getLsbD 2 }) p))

/-! ## RECORD_HEAD (R159) -/

def RecordBody.code : RecordBody → Nat
  | .fill _ _ _ _ => 1
  | .refusal => 2
  | .delivery _ _ _ _ => 3
  | .prove _ _ _ _ => 4
  | .adjust _ _ => 5

def longWords (x : Long) : List Word := [lowerWord x, upperWord x]

/-- Words 14 to 23, those of which a kind makes no use reading 0 (R158). -/
def RecordBody.words : RecordBody → List Word
  | .fill gross net cap temp =>
    longWords (w32 gross) ++ longWords (w32 net) ++ longWords (w32 cap) ++ [BitVec.ofInt 16 temp, 0, 0, 0]
  | .refusal => [0, 0, 0, 0, 0, 0, 0, 0, 0, 0]
  | .delivery declared startGauge endGauge received =>
    longWords (w32 declared) ++ longWords (w32 startGauge) ++ longWords (w32 endGauge) ++
    longWords (shownSigned received) ++ [0, 0]
  | .prove gross net run temp =>
    longWords (w32 gross) ++ longWords (w32 net) ++ [w16 run, 0, BitVec.ofInt 16 temp, 0, 0, 0]
  | .adjust oldBook newBook =>
    longWords (saturated oldBook) ++ longWords (saturated newBook) ++ [0, 0, 0, 0, 0, 0]

/-- The 24 words of a record. -/
def Record.words (r : Record) : List Word :=
  [w16 r.serial, pairWord r.body.code r.cause, w16 (bitIf r.clockUnset 1 + r.flags.bits), pairWord r.hose r.tank,
   pairWord r.product r.jumps, w16 r.slot] ++
  longWords r.start ++ longWords r.ended ++ longWords r.tag ++ longWords (w32 r.hours) ++ r.body.words

/-- The words of the head record; an empty queue is not read (R160). -/
def headWords (records : List Record) : List Word :=
  match records with
  | r :: _ => r.words
  | [] => [0, 0, 0, 0, 0, 0, 0, 0, 0, 0, 0, 0, 0, 0, 0, 0, 0, 0, 0, 0, 0, 0, 0, 0]

/-! ## ZONE (R91) -/

def ZoneState.code : ZoneState → Nat
  | .normal => 0
  | .tripped => 1
  | .recovery => 2

/-- The seconds left, FFFFh stopped, 0 expired. -/
def RecoveryTimer.shown : RecoveryTimer → Nat
  | .stopped => 65535
  | .running s => s
  | .expired => 0

/-- The words of a zone record. DESIGN CHOICE (log 23): bits that R177 gives no field, those of the read-only words 1, 4 and 8,
read 0. -/
def zoneEntry (z : ZoneNo) (x : Zone) : List Cell :=
  ro (w16 x.state.code) ++
  ro (w16 (x.firstCause.code + bitIf x.firstTrip.unset 32768)) ++
  ro2 x.firstTrip.secs ++
  ro (x.causes.setWidth 16) ++
  zeroOnly x.tripCount (modZone z fun x => { x with tripCount := 0 }) ++
  number (bitIf x.sensorTrips 1) 0 1 (fun n => modZone z fun x => { x with sensorTrips := n == 1 }) ++
  ro (w16 x.timer.shown) ++
  ro (x.marks.setWidth 16)

/-! ## The window (R168) -/

/-- The cells of an entry. -/
def cells (sel : Selection) (p : Part) : List Cell :=
  match sel with
  | .machine m => machineEntry m (p.machine m)
  | .hose h => hoseEntry h p
  | .tank t => tankEntry t p
  | .strap t => strapEntry t (p.tank t)
  | .product i => productEntry i (p.product i) (p.inUse i)
  | .device n => deviceEntry n (p.device n)
  | .rule r => ruleEntry r (nth p.rules r)
  | .filter => filterEntry p.filter
  | .profileA => profileEntry .a p.profileA
  | .profileB => profileEntry .b p.profileB
  | .recordHead => (headWords p.records).flatMap ro
  | .zone z => zoneEntry z (p.zone z)

/-- The words per entry of R168. -/
def Selection.words : Selection → Nat
  | .machine _ => 29
  | .hose _ => 71
  | .tank _ => 43
  | .strap _ => 97
  | .product _ => 4
  | .device _ => 5
  | .rule _ => 5
  | .filter => 4
  | .profileA | .profileB => 6
  | .recordHead => 24
  | .zone _ => 9

/-- The offsets of the lower words of an entry's two-word fields that can be written. -/
def Selection.lowers : Selection → List Nat
  | .machine _ => [0, 12, 15, 17, 19, 21, 26]
  | .hose _ => [5, 14, 17, 20, 23, 26, 29, 44]
  | .tank _ => [3, 6]
  | .strap _ => strapNos.map fun i => 3 * i.val + 2
  | _ => []

/-- The word an entry reads at an offset. -/
def readWord (sel : Selection) (offset : Nat) (p : Part) : Word :=
  match (cells sel p)[offset]? with
  | some c => c.value
  | none => 0

/-- The present lower words of an entry's two-word fields (R168). -/
def keptWords (sel : Selection) (p : Part) : List (Nat × Word) := sel.lowers.map fun k => (k, readWord sel k p)

/-- The object of number `x` from 0, among `n`. -/
def fromZero (n x : Nat) : Option (Fin n) := if h : x < n then some ⟨x, h⟩ else none

def pickEntry {n : Nat} (i : Option (Fin n)) (f : Fin n → Selection) : Except Status Selection :=
  match i with
  | some i => .ok (f i)
  | none => .error .badIndex

def onlyEntry (x : Nat) (sel : Selection) : Except Status Selection := if x = 0 then .ok sel else .error .badIndex

/-- The table and entry a WINDOW names. -/
def selectionOf (table entry : Nat) : Except Status Selection :=
  match table with
  | 0 => pickEntry (fromZero 1024 entry) .machine
  | 1 => pickEntry (fromOne 8 entry) .hose
  | 2 => pickEntry (fromOne 6 entry) .tank
  | 3 => pickEntry (fromOne 6 entry) .strap
  | 4 => pickEntry (fromOne 8 entry) .product
  | 5 => pickEntry (fromOne 62 entry) .device
  | 6 => if entry = 32 then .ok .filter else pickEntry (fromZero 32 entry) .rule
  | 7 => onlyEntry entry .profileA
  | 8 => onlyEntry entry .profileB
  | 9 => onlyEntry entry .recordHead
  | 10 => pickEntry (fromOne 4 entry) .zone
  | _ => .error .badValue

/-- A selection is taken at offset 0, with the present lower words kept. -/
def takeSelection (sel : Selection) (p : Part) : Part :=
  { p with cursor := { p.cursor with sel := sel, offset := 0, kept := keptWords sel p } }

/-- WINDOW(table, entry) (R168). -/
def windowCommand (args : Option (Byte × Word)) (p : Part) : Answer :=
  withArgs args (fun (table, entry) p =>
    match selectionOf table.toNat entry.toNat with
    | .ok sel => { part := takeSelection sel p, status := .done, data := [BitVec.ofNat 8 sel.words] }
    | .error st => refuse st p) p

/-- STEP_MODE(mode) (R168). -/
def stepModeCommand (mode : Option Byte) (p : Part) : Answer :=
  withArgs mode (fun m p =>
    let set (x : StepMode) : Answer := done { p with cursor := { p.cursor with mode := x } }
    if m = 0 then set .hold else if m = 1 then set .step else if m = 2 then set .stepOnWrite else refuse .badValue p) p

/-- The offset moved forward, to no further than the last word. -/
def Cursor.advance (c : Cursor) (n : Nat) : Cursor := { c with offset := min (c.offset + n) (c.sel.words - 1) }

/-- The flags byte of a READ's or a WRITE's reply: bit 0 is the end flag (R169, R170). DESIGN CHOICE (log 41): bits 1 to 7, of
which no rule speaks, are sent as 0. -/
def endFlag (b : Bool) : Byte := if b then 1 else 0

/-- READ n (R169, R160). DESIGN CHOICE (log 38): n is checked before the empty queue. DEDUCED (log 28): an EMPTY or
BAD_VALUE reply carries the status alone. -/
def readCommand (n : Option Byte) (p : Part) : Answer :=
  withArgs n (fun n p =>
    let c := p.cursor
    if n = 0 || 5 < n.toNat then refuse .badValue p
    else if c.sel = .recordHead && p.records.isEmpty then refuse .empty p
    else
      let words := (((cells c.sel p).map (·.value)).drop c.offset).take n.toNat
      let last := decide (c.sel.words ≤ c.offset + words.length)
      { part := if c.mode = .step then { p with cursor := c.advance words.length } else p,
        status := .done,
        data := endFlag last :: words.flatMap bytes16 }) p

/-- The kept lower word of the two-word field whose lower word stands at an offset. -/
def Cursor.keptAt (c : Cursor) (k : Nat) : Word := (c.kept.lookup k).getD 0

/-- A lower word is kept for its field. -/
def Cursor.keep (c : Cursor) (k : Nat) (w : Word) : Cursor :=
  { c with kept := c.kept.map fun e => if e.1 = k then (k, w) else e }

/-- One word written at an offset of the entry; beyond its last word it is discarded (R170). -/
def writeWord (sel : Selection) (offset : Nat) (w : Word) (p : Part) : Except Status Part :=
  match (cells sel p)[offset]? with
  | none => .ok p
  | some c =>
    match c.slot with
    | .shut st => .error st
    | .one f => f w p
    | .lower => .ok { p with cursor := p.cursor.keep offset w }
    | .upper f => f (w ++ p.cursor.keptAt (offset - 1)) p

/-- The words of a WRITE, applied in order from an offset; each refused word leaves its fields as they were. The answer
gives the status and the position of the first refused word. -/
def writeWords (sel : Selection) : List Word → Nat → Nat → Part → Part × Option (Status × Nat)
  | [], _, _, p => (p, none)
  | w :: rest, offset, position, p =>
    match writeWord sel offset w p with
    | .ok q => writeWords sel rest (offset + 1) (position + 1) q
    | .error st =>
      let (q, _) := writeWords sel rest (offset + 1) (position + 1) p
      (q, some (st, position))

/-- Whole words of a WRITE's data; an odd byte at the end is discarded. -/
def wholeWords : List Byte → List Word
  | a :: b :: rest => join16 a b :: wholeWords rest
  | _ => []

/-- WRITE (R170, R160). DEDUCED (log 28): the reply to one with no whole word carries the status alone. -/
def writeCommand (data : List Byte) (p : Part) : Answer :=
  let words := wholeWords data
  let c := p.cursor
  if words.isEmpty then refuse .badValue p
  else
    let (q, refused) := writeWords c.sel words c.offset 1 p
    let last := decide (c.sel.words ≤ c.offset + words.length)
    { part := if c.mode = .hold || c.sel = .recordHead then q else { q with cursor := q.cursor.advance words.length },
      status := match refused with
        | some (st, _) => st
        | none => .done,
      data := [endFlag last, match refused with
        | some (_, k) => BitVec.ofNat 8 k
        | none => 0] }

end Sys2Proof.Machine
end

