-- ==== Sys2Proof/Machine/Responder.lean ====
section
/-! DEFINITION. The commands of the Management responder (R168 to R176), of the Account store (R49, R58, R64), of the
record queue (R161) and of the field line test (R185, R186). -/

namespace Sys2Proof.Machine

open Sys2Proof

/-! ## The table window -/

def execWindow (src : Node) (args : Option (Byte × Word)) (s : State) : Host.Outcome State Fault Refusal :=
  outcome (command src (windowCommand args)) s

def execStepMode (src : Node) (mode : Option Byte) (s : State) : Host.Outcome State Fault Refusal :=
  outcome (command src (stepModeCommand mode)) s

def execRead (src : Node) (n : Option Byte) (s : State) : Host.Outcome State Fault Refusal :=
  outcome (command src (readCommand n)) s

def execWrite (src : Node) (data : List Byte) (s : State) : Host.Outcome State Fault Refusal :=
  outcome (command src (writeCommand data)) s

/-! ## BAY_MODE (R172) -/

def flagByte (b : Bool) : Byte := if b then 1 else 0

/-- The state a reply to BAY_MODE carries. -/
def bayReport (p : Part) : List Byte :=
  [flagByte (p.bayMode == .layUp), flagByte (p.letter == .b), flagByte (p.source == .command), flagByte p.profileHigh,
   p.up.node.setWidth 8, flagByte p.clockUnset] ++ bytes32 p.clock

/-- The bay goes to RUN: a line test in progress is stopped (R186). -/
def enterRun (p : Part) : Part := { (if p.bayMode = .layUp then stopTestNoticed p else p) with bayMode := .run }

/-- BAY_MODE(mode): 0 RUN, 1 LAY_UP, FFh no change. -/
def bayModeCommand (mode : Option Byte) (p : Part) : Answer :=
  withArgs mode (fun m p =>
    let report (q : Part) : Answer := { part := q, status := .done, data := bayReport q }
    if m = 0 then report (enterRun p)
    else if m = 1 then report { p with bayMode := .layUp }
    else if m = 0xFF then report p
    else refuse .badValue p) p

def execBayMode (src : Node) (mode : Option Byte) (s : State) : Host.Outcome State Fault Refusal :=
  outcome (command src (bayModeCommand mode)) s

/-! ## PROFILE and PROFILE_SOURCE (R58) -/

/-- A switch: the profile of a letter, as it stands, becomes the current one. -/
def switchProfile (l : Letter) (p : Part) : Part :=
  { p with letter := l, current := match l with
    | .a => p.profileA
    | .b => p.profileB }

/-- The letter a level of the PROFILE line selects. -/
def levelLetter (high : Bool) : Letter := if high then .b else .a

/-- PROFILE(letter): 0 for A, 1 for B. -/
def profileCommand (letter : Option Byte) (p : Part) : Answer :=
  withArgs letter (fun l p =>
    if 1 < l.toNat then refuse .badValue p
    else if p.source = .line then refuse .refusedMode p
    else done (switchProfile (levelLetter (l == 1)) p)) p

def execProfile (src : Node) (letter : Option Byte) (s : State) : Host.Outcome State Fault Refusal :=
  outcome (command src (profileCommand letter)) s

/-- PROFILE_SOURCE(source): 0 for LINE, which switches to the profile of the line's level, 1 for COMMAND. -/
def profileSourceCommand (source : Option Byte) (p : Part) : Answer :=
  withArgs source (fun x p =>
    if x = 0 then done (switchProfile (levelLetter p.profileHigh) { p with source := .line })
    else if x = 1 then done { p with source := .command }
    else refuse .badValue p) p

def execProfileSource (src : Node) (source : Option Byte) (s : State) : Host.Outcome State Fault Refusal :=
  outcome (command src (profileSourceCommand source)) s

/-! ## CLOCK_SET (R173) -/

def clockSetCommand (seconds : Option Long) (p : Part) : Answer :=
  withArgs seconds (fun w p => done { p with clock := w, clockUnset := false }) p

def execClockSet (src : Node) (seconds : Option Long) (s : State) : Host.Outcome State Fault Refusal :=
  outcome (command src (clockSetCommand seconds)) s

/-! ## LINE_RATE, COUNTER_SELECT, COUNTER_READ (R138, R142, R174) -/

/-- A rate is set at once on a quiet port, and waits for the end of a telegram in progress otherwise; the rate in force
changes nothing. -/
def Port.setRate (r : BitVec 2) (q : Port) : Port :=
  if r = q.rate then q
  else if q.rx.isReceiving || q.flight.isSome then { q with nextRate := some r }
  else { q with rate := r, nextRate := none, rx := .idleWait }

def lineRateCommand (code : Option Byte) (p : Part) : Answer :=
  withArgs code (fun c p =>
    if 3 < c.toNat then refuse .badValue p else done (modPort .fp (Port.setRate (c.extractLsb' 0 2)) p)) p

def execLineRate (src : Node) (code : Option Byte) (s : State) : Host.Outcome State Fault Refusal :=
  outcome (command src (lineRateCommand code)) s

/-- A command's port: 0 for UP, 1 for FP, and BAD_INDEX above. -/
def withPort (port : Byte) (f : PortId → Part → Answer) (p : Part) : Answer :=
  if port = 0 then f .up p else if port = 1 then f .fp p else refuse .badIndex p

def counterSelectCommand (args : Option (Byte × Byte)) (p : Part) : Answer :=
  withArgs args (fun (port, selection) => withPort port fun q p =>
    match portEventOf selection.toNat with
    | some e => done (modPort q (fun x => { x with select := e, count := 0 }) p)
    | none => refuse .badValue p) p

def execCounterSelect (src : Node) (args : Option (Byte × Byte)) (s : State) : Host.Outcome State Fault Refusal :=
  outcome (command src (counterSelectCommand args)) s

def counterReadCommand (port : Option Byte) (p : Part) : Answer :=
  withArgs port (fun port => withPort port fun q p =>
    { part := modPort q (fun x => { x with count := 0 }) p, status := .done,
      data := [BitVec.ofNat 8 (p.port q).count, BitVec.ofNat 8 (p.port q).select.code] }) p

def execCounterRead (src : Node) (port : Option Byte) (s : State) : Host.Outcome State Fault Refusal :=
  outcome (command src (counterReadCommand port)) s

/-! ## MACHINE_STATE and SERVICE_DONE (R49, R64) -/

/-- The slot a command names, where it is not empty; BAD_INDEX otherwise. -/
def withMachine (slot : Word) (f : SlotNo → Part → Answer) (p : Part) : Answer :=
  match fromZero 1024 slot.toNat with
  | some m => if (p.machine m).tag = 0 then refuse .badIndex p else f m p
  | none => refuse .badIndex p

/-- MACHINE_STATE(slot, state): 0 for OPEN, 1 for BARRED. -/
def machineState (slot : Word) (state : Byte) : Part → Answer :=
  withMachine slot fun m p =>
    if state = 0 then
      done (modMachine m (fun x => { x with state := .opened, doubt := 0, abnormal := false }) p)
    else if state = 1 then done (modMachine m (fun x => { x with state := .barred }) p)
    else refuse .badValue p

def execMachineStateBarred (src : Node) (slot : Word) (s : State) : Host.Outcome State Fault Refusal :=
  outcome (command src (machineState slot 1)) s

def execMachineStateOpen (src : Node) (args : Option (Word × Byte)) (s : State) : Host.Outcome State Fault Refusal :=
  outcome (command src (withArgs args fun (slot, state) => machineState slot state)) s

/-- SERVICE_DONE(slot, hours). -/
def serviceDoneCommand (args : Option (Word × Long)) (p : Part) : Answer :=
  withArgs args (fun (slot, hours) => withMachine slot fun m p =>
    if hours = 0xFFFFFFFF then refuse .badValue p
    else done (modMachine m (fun x =>
      { x with hoursAtService := some hours.toNat, lubeSinceService := 0, hold := false }) p)) p

def execServiceDone (src : Node) (args : Option (Word × Long)) (s : State) : Host.Outcome State Fault Refusal :=
  outcome (command src (serviceDoneCommand args)) s

/-! ## TAKE (R161) -/

/-- What every reply to TAKE carries: the head's serial, 0 for an empty queue, and the two counts. -/
def queueReport (p : Part) : List Byte :=
  bytes16 (match p.records with
    | r :: _ => w16 r.serial
    | [] => 0) ++ [BitVec.ofNat 8 p.records.length, BitVec.ofNat 8 p.reserved]

/-- The head record leaves the queue. -/
def takeHead (serial : Word) (p : Part) : Part × Status :=
  match p.records with
  | [] => (p, .empty)
  | r :: rest => if w16 r.serial = serial then (headChanged { p with records := rest }, .done) else (p, .badValue)

def takeCommand (serial : Option Word) (p : Part) : Answer :=
  let (q, st) := match serial with
    | some w => takeHead w p
    | none => (p, .badValue)
  { part := q, status := st, data := queueReport q }

def execTake (src : Node) (serial : Option Word) (s : State) : Host.Outcome State Fault Refusal :=
  outcome (command src (takeCommand serial)) s

/-! ## LINE_TEST (R185, R186) -/

/-- The running flag and the four counts. -/
def testReport (p : Part) : List Byte :=
  flagByte p.test.isSome :: (bytes16 (w16 p.counts.sent) ++ bytes16 (w16 p.counts.intact) ++
    bytes16 (w16 p.counts.mismatched) ++ bytes16 (w16 p.counts.missing))

/-- Every reply to LINE_TEST carries the running flag and the counts. -/
def testAnswer (st : Status) (p : Part) : Answer := { part := p, status := st, data := testReport p }

def patternOf (n : Nat) : Option TestPattern :=
  match n with
  | 0 => some .fixed
  | 1 => some .counting
  | 2 => some .pseudo
  | _ => none

/-- An accepted start: the counts are zeroed, the pattern seeded, the first ECHO queued. -/
def startTest (t : LineTest) (p : Part) : Part := queueEcho t { p with counts := {} }

/-- The parameters of a start, where each lies in its range. -/
def testOf (continuous : Bool) (gap pattern byte length target : Byte) : Option LineTest :=
  match patternOf pattern.toNat, fromOne 62 target.toNat with
  | some x, some n =>
    if gap.toNat ≤ 3 && length.toNat ≤ 12 then
      some { continuous := continuous, gap := gap.toNat, pattern := x, byte := byte, length := length.toNat,
             target := n, counter := 0, register := 0xACE1, awaited := none, gapRunning := false,
             waitRunning := false }
    else none
  | _, _ => none

/-- LINE_TEST single or continuous: the mode, then a running test, then the values. -/
def lineTestStart (continuous : Bool) (args : Option (Byte × Byte × Byte × Byte × Byte)) (p : Part) : Answer :=
  match args with
  | none => testAnswer .badValue p
  | some (gap, pattern, byte, length, target) =>
    if p.bayMode ≠ .layUp then testAnswer .refusedMode p
    else if p.test.isSome then testAnswer .inUse p
    else
      match testOf continuous gap pattern byte length target with
      | some t => testAnswer .done (startTest t p)
      | none => testAnswer .badValue p

/-- LINE_TEST stop, or one whose mode is missing or none of the four. -/
def lineTestStopCommand (mode : Option Byte) (p : Part) : Answer :=
  if mode = some 0 then testAnswer .done (stopTestNoticed p) else testAnswer .badValue p

def execLineTestSingle (src : Node) (args : Option (Byte × Byte × Byte × Byte × Byte)) (s : State) :
    Host.Outcome State Fault Refusal :=
  outcome (command src (lineTestStart false args)) s

def execLineTestContinuous (src : Node) (args : Option (Byte × Byte × Byte × Byte × Byte)) (s : State) :
    Host.Outcome State Fault Refusal :=
  outcome (command src (lineTestStart true args)) s

def execLineTestRead (src : Node) (s : State) : Host.Outcome State Fault Refusal :=
  outcome (command src (testAnswer .done)) s

def execLineTestStop (src : Node) (mode : Option Byte) (s : State) : Host.Outcome State Fault Refusal :=
  outcome (command src (lineTestStopCommand mode)) s

/-! ## RESTART (R175, R26, R90, R184) -/

/-- Step 1: a fill is brought to its close, its drain window cut to 0. -/
def forceClose (h : HoseNo) (p : Part) : Part :=
  let q := match (p.hose h).mode with
    | .fill (.closing _ _) _ => leaveClosing h p
    | .fill _ _ => leaveClosing h (endRequest h .restart p)
    | _ => p
  setPendingOut h false q

/-- Steps 2 and 4: the windows of a tank become NONE, and its counts 0. -/
def quietTank (t : TankNo) (p : Part) : Part :=
  modPump t (fun _ => { count := 0, confirmed := false })
    (modTank t (fun x => { x with loss := .none, rest := .none, openHoses := 0 }) p)

/-- Step 5: the closing orders. -/
def closingOrders (p : Part) : Part :=
  each hoseNos (fun h => sendValve h 0) p
  |> each tankNos (fun t => sendInlet t 0)
  |> each tankNos (fun t => sendRun t 0)

/-- Step 6: the event counts become 0, and the cursor takes its reset selection. -/
def resetCursor (p : Part) : Part :=
  let q := modPort .fp (fun x => { x with count := 0 }) (modPort .up (fun x => { x with count := 0 }) p)
  takeSelection (.machine 0) { q with cursor := { q.cursor with mode := .step } }

/-- The effects of RESTART, in their order. -/
def restartEffects (p : Part) : Part :=
  each hoseNos forceClose p
  |> each tankNos restartDelivery
  |> each hoseNos abandonSession
  |> stopTest
  |> (fun q => { q with bayMode := .layUp })
  |> each tankNos quietTank
  |> closingOrders
  |> resetCursor

/-- RESTART: the reply is queued ahead of the effects. -/
def restartCommand (src : Node) (p : Part) : Part := restartEffects (reply src .done [] (consumeUp p))

def execRestart (src : Node) (s : State) : Host.Outcome State Fault Refusal := outcome (restartCommand src) s

/-- A COMMAND with no payload byte, or with a code that is not listed (R167). -/
def execCommandUnknown (src : Node) (s : State) : Host.Outcome State Fault Refusal :=
  outcome (command src (refuse .unknown)) s

end Sys2Proof.Machine
end

