-- ==== Sys2Proof/Machine/Events.lean ====
section
/-! DEFINITION. The resets, the PROFILE line, the ports' own events and the timers. A timer that is not running does
not expire: its row then has no effect. -/

namespace Sys2Proof.Machine

open Sys2Proof

/-! ## Power-on and the RESET line (R110, R127, R129) -/

/-- The node number the straps give: 0 and 63 make the part node 62 (R129). -/
def strapNode (straps : Node) : Node := if straps = 0 || straps = 63 then 62 else straps

/-- Every block at its reset values, and then the four trips' notices, raised in turn (R110, R163). The model's count
of free values goes on, so that none is used twice. -/
def powerUp (nodeStraps : Node) (rateStraps : BitVec 2) (profileHigh : Bool) (p : Part) : Part :=
  each zoneNos (fun z => raise (.trip z))
    { Part.atReset (strapNode nodeStraps) rateStraps profileHigh with freeUses := p.freeUses }

def execPowerOn (nodeStraps : Node) (rateStraps : BitVec 2) (profileHigh : Bool) (s : State) :
    Host.Outcome State Fault Refusal :=
  outcome (powerUp nodeStraps rateStraps profileHigh) s

def execResetLine (nodeStraps : Node) (rateStraps : BitVec 2) (profileHigh : Bool) (s : State) :
    Host.Outcome State Fault Refusal :=
  outcome (powerUp nodeStraps rateStraps profileHigh) s

/-! ## The PROFILE line (R58) -/

/-- The line changes level; with source LINE the current profile is switched. A level that is the present one is no
change. -/
def profileLine (high : Bool) (p : Part) : Part :=
  if high = p.profileHigh then p
  else
    let q := { p with profileHigh := high }
    if p.source = .line then switchProfile (levelLetter high) q else q

def execProfileLineChange (high : Bool) (s : State) : Host.Outcome State Fault Refusal := outcome (profileLine high) s

/-! ## The ports (R127, R137, R138) -/

/-- The idle time reaches 3 character times. -/
def Port.quiet (q : Port) : Port := if q.rx = .idleWait then { q with rx := .idle } else q

def execIdleWaitExpiry (port : PortId) (s : State) : Host.Outcome State Fault Refusal :=
  outcome (modPort port Port.quiet) s

/-- Some telegram waits to be sent. -/
def Port.waiting (q : Port) : Bool := !(q.own.isEmpty && q.forwarded.isEmpty)

/-- The bytes stored once a further one is heard: none after the 18th (R131). -/
def storeByte (bytes : List Byte) (data : Byte) : List Byte :=
  if bytes.length < Config.storedBytes then bytes ++ [data] else bytes

/-- The start bit of a character (R127): in IDLE_WAIT and IDLE a telegram begins to be received, and the port defers
what it has queued (R137); in RECEIVING the telegram goes on. The character's byte is stored with its start bit
(log 11), and a port that sends does not hear itself (log 15). -/
def Port.startBit (data : Byte) (q : Port) : Port :=
  if q.flight.isSome then q
  else
    match q.rx with
    | .receiving bytes => { q with rx := .receiving (storeByte bytes data) }
    | .idleWait | .idle =>
      let x := { q with rx := .receiving [data] }
      if q.waiting then x.counted .deferrals else x

def execStartBitHeard (heard : StartBit) (s : State) : Host.Outcome State Fault Refusal :=
  outcome (modPort heard.port (Port.startBit heard.data)) s

/-- The head of the queue goes into flight (R137, R139). -/
def Port.sendHead (q : Port) : Port :=
  if q.rx = .idle && q.flight.isNone then
    match q.own, q.forwarded with
    | t :: rest, _ => { q with own := rest, flight := some { telegram := t, ours := true } }
    | [], t :: rest => { q with forwarded := rest, flight := some { telegram := t, ours := false } }
    | [], [] => q
  else q

def execTransmitStart (port : PortId) (s : State) : Host.Outcome State Fault Refusal :=
  outcome (modPort port Port.sendHead) s

/-- The port after the last byte: it waits for an idle line again, at a rate that waited (R137, R138). -/
def Port.sent (ours : Bool) (q : Port) : Port :=
  let x := { q with flight := none, rx := .idleWait, rate := q.nextRate.getD q.rate, nextRate := none }
  if ours then x.counted .sentByPart else x

/-- The last byte of the telegram in flight has gone; an ECHO of the part's own is told to the line test (R185). -/
def sendEnd (port : PortId) (p : Part) : Part :=
  match (p.port port).flight with
  | none => p
  | some f =>
    let q := modPort port (Port.sent f.ours) p
    if port = .fp && f.ours && f.telegram.kind = kindEcho then echoSent f.telegram.payload q else q

def execTransmitEnd (port : PortId) (s : State) : Host.Outcome State Fault Refusal := outcome (sendEnd port) s

/-! ## Timers -/

/-- R14, R15, R181. -/
def execIdleTimerExpiry (hose : HoseNo) (s : State) : Host.Outcome State Fault Refusal := outcome (idleExpiry hose) s

/-- R15. -/
def execPauseTimerExpiry (hose : HoseNo) (s : State) : Host.Outcome State Fault Refusal := outcome (pauseExpiry hose) s

/-- R12. -/
def execConfirmTimerExpiry (hose : HoseNo) (s : State) : Host.Outcome State Fault Refusal :=
  outcome (confirmExpiry hose) s

/-- R21. -/
def execDrainWindowExpiry (hose : HoseNo) (s : State) : Host.Outcome State Fault Refusal :=
  outcome (leaveClosing hose) s

/-- R119. -/
def execPeriodTimerExpiry (node : DevNo) (s : State) : Host.Outcome State Fault Refusal :=
  outcome (periodExpiry node) s

/-- The settle timer's expiry (R81): the checks of R82 are made from the next good LEVEL on. -/
def settleExpiry (t : TankNo) (p : Part) : Part :=
  modTank t (fun x => { x with loss := match x.loss with
    | .opened g b _ => .opened g b true
    | w => w }) p

def execSettleTimerExpiry (tank : TankNo) (s : State) : Host.Outcome State Fault Refusal :=
  outcome (settleExpiry tank) s

/-- R84. -/
def execRestWindowExpiry (tank : TankNo) (s : State) : Host.Outcome State Fault Refusal := outcome (restExpiry tank) s

/-- The recovery timer's expiry (R105). -/
def recoveryExpiry (z : ZoneNo) (p : Part) : Part :=
  match (p.zone z).timer with
  | .running _ => recoveryTest z (modZone z (fun x => { x with timer := .expired }) p)
  | _ => p

def execRecoveryTimerExpiry (zone : ZoneNo) (s : State) : Host.Outcome State Fault Refusal :=
  outcome (recoveryExpiry zone) s

/-- A second of the recovery timer's time: the seconds left fall, and the last is ended by the expiry itself. -/
def Zone.second (x : Zone) : Zone :=
  { x with timer := match x.timer with
    | .running n => .running (max 1 (n - 1))
    | t => t }

/-- A second of the part's own time (R173): the bay clock counts on, and so do the seconds left of the recovery
timers. -/
def clockTick (p : Part) : Part := each zoneNos (fun z => modZone z Zone.second) { p with clock := p.clock + 1 }

def execBayClockTick (s : State) : Host.Outcome State Fault Refusal := outcome clockTick s

/-- R185. -/
def execGapTimerExpiry (s : State) : Host.Outcome State Fault Refusal := outcome gapExpiry s

/-- R186. -/
def execEchoWaitExpiry (s : State) : Host.Outcome State Fault Refusal := outcome waitExpiry s

end Sys2Proof.Machine
end

