-- ==== Sys2Proof/Machine/Field.lean ====
section
/-! DEFINITION. The rows of the field line's good telegrams. Each row fixes its kind; what the telegram does is decided
by the sender's role and health, and by the Pass filter (R117, R118, R122, R145). -/

namespace Sys2Proof.Machine

open Sys2Proof

/-- METER (R29). -/
def execMeterSample (head : Header) (payload : List Byte) (s : State) : Host.Outcome State Fault Refusal :=
  outcome (fieldTelegram ⟨head, kindMeter, payload⟩) s

/-- LEVEL (R72). -/
def execLevelReport (head : Header) (payload : List Byte) (s : State) : Host.Outcome State Fault Refusal :=
  outcome (fieldTelegram ⟨head, kindLevel, payload⟩) s

/-- TAG (R6). -/
def execTagReport (head : Header) (payload : List Byte) (s : State) : Host.Outcome State Fault Refusal :=
  outcome (fieldTelegram ⟨head, kindTag, payload⟩) s

/-- SUMP (R94). -/
def execSumpReport (head : Header) (payload : List Byte) (s : State) : Host.Outcome State Fault Refusal :=
  outcome (fieldTelegram ⟨head, kindSump, payload⟩) s

/-- ESTOP (R95). -/
def execEstopReport (head : Header) (payload : List Byte) (s : State) : Host.Outcome State Fault Refusal :=
  outcome (fieldTelegram ⟨head, kindEstop, payload⟩) s

/-- STATUS of a starter (R13). -/
def execStarterStatus (head : Header) (payload : List Byte) (s : State) : Host.Outcome State Fault Refusal :=
  outcome (fieldTelegram ⟨head, kindStatus, payload⟩) s

/-- STATUS of a valve (R24). -/
def execValveStatus (head : Header) (payload : List Byte) (s : State) : Host.Outcome State Fault Refusal :=
  outcome (fieldTelegram ⟨head, kindStatus, payload⟩) s

/-- STATUS of an inlet (R77). -/
def execInletStatus (head : Header) (payload : List Byte) (s : State) : Host.Outcome State Fault Refusal :=
  outcome (fieldTelegram ⟨head, kindStatus, payload⟩) s

/-- ECHO_BACK (R186). -/
def execEchoBack (head : Header) (payload : List Byte) (s : State) : Host.Outcome State Fault Refusal :=
  outcome (fieldTelegram ⟨head, kindEchoBack, payload⟩) s

/-- Any other good field telegram (R117). -/
def execFieldTelegramOther (head : Header) (kind : Byte) (payload : List Byte) (s : State) :
    Host.Outcome State Fault Refusal :=
  outcome (fieldTelegram ⟨head, kind, payload⟩) s

end Sys2Proof.Machine
end

