-- ==== Sys2Proof/Machine/StockCommands.lean ====
section
/-! DEFINITION. The commands of tanks: STOCK_SET (R79), DELIVERY_START (R85), DELIVERY_END (R89), TANK_SERVICE (R70,
R71). -/

namespace Sys2Proof.Machine

open Sys2Proof

/-! ## STOCK_SET -/

/-- The ADJUST record of a STOCK_SET (R79, R158). -/
def adjustRecord (t : TankNo) (product : Nat) (oldBook newBook : Int) (at_ : Stamp) : Record :=
  { blankRecord (.adjust oldBook newBook) at_ at_ with tank := t.val + 1, product := product }

/-- An accepted STOCK_SET. -/
def setStock (t : TankNo) (ml : Nat) (p : Part) : Part :=
  let x := p.tank t
  modTank t (fun x => { x with setPoint := ml, totals := {}, book := ml }) p
  |> placeRecord (adjustRecord t (numberOf x.cfg.product) x.book ml (now p))
  |> lowStockTest t
  |> disturbWindows t

/-- STOCK_SET(tank, mL), checked in order (R79). -/
def stockSetCommand (args : Option (Byte × Long)) (p : Part) : Answer :=
  withArgs args (fun (tank, ml) => withIndex 6 tank fun t p =>
    let x := p.tank t
    if x.cfg.capacity * 1000 < ml.toNat then refuse .badValue p
    else if x.state = .receiving then refuse .inUse p
    else if x.state ≠ .outOfService && p.bayMode ≠ .layUp then refuse .refusedMode p
    else if !p.canReserve 1 then refuse .queueFull p
    else done (setStock t ml.toNat p)) p

def execStockSet (src : Node) (args : Option (Byte × Long)) (s : State) : Host.Outcome State Fault Refusal :=
  outcome (command src (stockSetCommand args)) s

/-! ## DELIVERY_START and DELIVERY_END -/

/-- An accepted DELIVERY_START. -/
def startDelivery (t : TankNo) (declared : Nat) (p : Part) : Part :=
  let d : Delivery := { declared := declared, startGauge := (p.tank t).gaugeNet.getD 0, start := now p, outflow := 0,
                        closed := none }
  reserve 1 p
  |> modTank t (fun x => { x with delivery := some d })
  |> setTankState t .receiving
  |> disturbWindows t
  |> sendInlet t 15

/-- The gauge is GOOD, not held, and has given a net. -/
def Part.gaugeReady (p : Part) (t : TankNo) : Bool :=
  p.roleGood (.gauge t) && !(p.tank t).gaugeHeld && (p.tank t).gaugeNet.isSome

/-- The last level lies below the high-high level. -/
def Tank.belowHighHigh (x : Tank) : Bool :=
  match x.lastLevel with
  | some l => decide (l < x.cfg.highHigh)
  | none => false

/-- DELIVERY_START(tank, declared L), checked in order (R85). -/
def deliveryStartCommand (args : Option (Byte × Word)) (p : Part) : Answer :=
  withArgs args (fun (tank, declared) => withIndex 6 tank fun t p =>
    let x := p.tank t
    if declared = 0 || x.cfg.capacity < declared.toNat then refuse .badValue p
    else if (p.boundNode (.gauge t)).isNone || (p.boundNode (.inlet t)).isNone then refuse .badValue p
    else if x.state = .receiving then refuse .inUse p
    else if x.state ≠ .inService then refuse .refusedMode p
    else if !p.gaugeReady t then refuse .refusedMode p
    else if !x.belowHighHigh then refuse .refusedMode p
    else if (p.zone x.cfg.zone).state ≠ .normal then refuse .refusedMode p
    else if !p.canReserve 1 then refuse .queueFull p
    else done (startDelivery t declared.toNat p)) p

def execDeliveryStart (src : Node) (args : Option (Byte × Word)) (s : State) : Host.Outcome State Fault Refusal :=
  outcome (command src (deliveryStartCommand args)) s

/-- DELIVERY_END(tank) (R89). -/
def deliveryEndCommand (tank : Option Byte) (p : Part) : Answer :=
  withArgs tank (fun tank => withIndex 6 tank fun t p =>
    match (p.tank t).state, (p.tank t).delivery with
    | .receiving, some d => done (endDelivery t .deliveryEnd d p)
    | _, _ => refuse .refusedMode p) p

def execDeliveryEnd (src : Node) (tank : Option Byte) (s : State) : Host.Outcome State Fault Refusal :=
  outcome (command src (deliveryEndCommand tank)) s

/-! ## TANK_SERVICE -/

/-- The product field names an entry whose class is not NONE (R71 check 1). -/
def Part.productNamed (p : Part) (t : TankNo) : Bool := (p.heldProduct t).isSome

/-- The five checks of R71. -/
def Part.tankFit (p : Part) (t : TankNo) : Bool :=
  let c := (p.tank t).cfg
  p.productNamed t && c.strapsOk && c.capacityOk &&
    decide (0 < c.highHigh) && decide (c.highHigh ≤ (lastStrap c.table).level) && (p.boundNode (.gauge t)).isSome

/-- TANK_SERVICE(tank, in) (R70). -/
def tankIn (t : TankNo) (p : Part) : Answer :=
  if (p.tank t).state ≠ .outOfService then done p
  else if p.tankFit t then done (lowStockTest t (setTankState t .inService p))
  else refuse .badValue p

/-- TANK_SERVICE(tank, out) (R70). -/
def tankOut (t : TankNo) (p : Part) : Answer :=
  match (p.tank t).state with
  | .outOfService => done p
  | .receiving => refuse .inUse p
  | .inService =>
    if 0 < (p.tank t).openHoses then refuse .inUse p
    else done (setTankState t .outOfService (modTank t (fun x => { x with loss := .none, rest := .none }) p))

/-- TANK_SERVICE(tank, form): 0 for out, 1 for in (R167). -/
def tankService (tank form : Byte) : Part → Answer :=
  withIndex 6 tank fun t p => if form = 0 then tankOut t p else if form = 1 then tankIn t p else refuse .badValue p

def execTankServiceIn (src : Node) (tank : Byte) (s : State) : Host.Outcome State Fault Refusal :=
  outcome (command src (tankService tank 1)) s

def execTankServiceOut (src : Node) (args : Option (Byte × Byte)) (s : State) : Host.Outcome State Fault Refusal :=
  outcome (command src (withArgs args fun (tank, form) => tankService tank form)) s

end Sys2Proof.Machine
end

