-- ==== Sys2Proof/Machine/ZoneCommands.lean ====
section
/-! DEFINITION. The commands of zones: TRIP_ZONE (R97) and TRIP_RESET (R103, R104); and the notice commands (R164 to
R166). -/

namespace Sys2Proof.Machine

open Sys2Proof

/-- TRIP_ZONE(zone): 0 names all four zones (R97). -/
def tripZoneCommand (zone : Option Byte) (p : Part) : Answer :=
  withArgs zone (fun zone p => if zone = 0 then done (tripAll .command p)
    else withIndex 4 zone (fun z p => done (tripSource .command z p)) p) p

def execTripZone (src : Node) (zone : Option Byte) (s : State) : Host.Outcome State Fault Refusal :=
  outcome (command src (tripZoneCommand zone)) s

/-- TRIP_RESET(zone) (R103). -/
def tripResetCommand (zone : Option Byte) (p : Part) : Answer :=
  withArgs zone (fun zone => withIndex 4 zone fun z p =>
    if (p.zone z).state ≠ .tripped then done p
    else if p.resetBlocked z then refuse .causePresent p
    else done (enterRecovery z p)) p

def execTripReset (src : Node) (zone : Option Byte) (s : State) : Host.Outcome State Fault Refusal :=
  outcome (command src (tripResetCommand zone)) s

/-! ## Notices -/

/-- The trip notices that NOTICE_READ keeps: those of the zones that are TRIPPED (R165). -/
def Part.keptNotices (p : Part) : Word :=
  zoneNos.foldl (fun w z => if (p.zone z).state = .tripped then w ||| (Notice.trip z).bit else w) 0

/-- NOTICE_READ (R165). -/
def noticeReadCommand (p : Part) : Answer :=
  let after := p.pendingNotices &&& p.keptNotices
  { part := syncLines { p with pendingNotices := after }, status := .done,
    data := bytes16 p.pendingNotices ++ bytes16 after }

def execNoticeRead (src : Node) (s : State) : Host.Outcome State Fault Refusal :=
  outcome (command src noticeReadCommand) s

/-- NOTICE_MASK(mask set) (R164). -/
def noticeMaskCommand (set : Option Word) (p : Part) : Answer :=
  withArgs set (fun w p => { part := { p with noticeMask := w }, status := .done, data := bytes16 p.noticeMask }) p

def execNoticeMask (src : Node) (set : Option Word) (s : State) : Host.Outcome State Fault Refusal :=
  outcome (command src (noticeMaskCommand set)) s

/-- TOP_NOTICE (R166). -/
def topNoticeCommand (p : Part) : Answer :=
  { part := p, status := .done, data := [BitVec.ofNat 8 (topRank p.pendingNotices p.noticeMask)] }

def execTopNotice (src : Node) (s : State) : Host.Outcome State Fault Refusal :=
  outcome (command src topNoticeCommand) s

end Sys2Proof.Machine
end

