-- ==== Sys2Proof/Machine/Route.lean ====
section
/-! DEFINITION. Where a good telegram of the upstream line goes (R134), and the rows of such telegrams. -/

namespace Sys2Proof.Machine

open Sys2Proof

/-- The effect of a COMMAND that has been decoded to its row. -/
def runCommand (i : Instr) : Part → Part :=
  match i with
  | .window src a => command src (windowCommand a)
  | .stepMode src a => command src (stepModeCommand a)
  | .read src a => command src (readCommand a)
  | .write src d => command src (writeCommand d)
  | .bayMode src a => command src (bayModeCommand a)
  | .profile src a => command src (profileCommand a)
  | .profileSource src a => command src (profileSourceCommand a)
  | .clockSet src a => command src (clockSetCommand a)
  | .lineRate src a => command src (lineRateCommand a)
  | .counterSelect src a => command src (counterSelectCommand a)
  | .counterRead src a => command src (counterReadCommand a)
  | .stockSet src a => command src (stockSetCommand a)
  | .deliveryStart src a => command src (deliveryStartCommand a)
  | .deliveryEnd src a => command src (deliveryEndCommand a)
  | .tripZone src a => command src (tripZoneCommand a)
  | .tripReset src a => command src (tripResetCommand a)
  | .hoseServiceOut src a => command src (withArgs a fun (hose, form) => hoseService hose form)
  | .hoseServiceIn src h => command src (hoseService h 1)
  | .tankServiceIn src t => command src (tankService t 1)
  | .tankServiceOut src a => command src (withArgs a fun (tank, form) => tankService tank form)
  | .machineStateBarred src m => command src (machineState m 1)
  | .machineStateOpen src a => command src (withArgs a fun (slot, state) => machineState slot state)
  | .serviceDone src a => command src (serviceDoneCommand a)
  | .take src a => command src (takeCommand a)
  | .noticeRead src => command src noticeReadCommand
  | .noticeMask src a => command src (noticeMaskCommand a)
  | .topNotice src => command src topNoticeCommand
  | .proveStart src a => command src (proveStartCommand a)
  | .proveResult src a => command src (proveResultCommand a)
  | .proveEndAccept src a => command src (withArgs a fun (hose, form) => proveEnd hose form)
  | .proveEndAbandon src h => command src (proveEnd h 1)
  | .lineTestSingle src a => command src (lineTestStart false a)
  | .lineTestContinuous src a => command src (lineTestStart true a)
  | .lineTestRead src => command src (testAnswer .done)
  | .lineTestStop src a => command src (lineTestStopCommand a)
  | .restart src => restartCommand src
  | .commandUnknown src => command src (refuse .unknown)
  | _ => id

/-- A telegram addressed to the part (R134): a COMMAND of class 1 goes to the responder, and any other is discarded. -/
def takeUp (t : Telegram) (p : Part) : Part :=
  if t.head.cls = 1 && t.kind = kindCommand then runCommand (decodeCommand t.head.src t.payload) p else consumeUp p

/-- A telegram for another node: its end is heard, and the Pass filter decides it (R134, R145). -/
def offerUp (t : Telegram) (p : Part) : Part := offer .upToField t (modPort .up Port.heardEnd p)

/-- A good telegram of the upstream line. -/
def upTelegram (t : Telegram) (p : Part) : Part := if t.head.dst = p.up.node then takeUp t p else offerUp t p

def execUpTelegramOffered (t : Telegram) (s : State) : Host.Outcome State Fault Refusal := outcome (upTelegram t) s

def execUpTelegramConsumed (t : Telegram) (s : State) : Host.Outcome State Fault Refusal := outcome (upTelegram t) s

/-- The end of a telegram at a port, as it was heard (R131): discarded and counted, or good and routed. -/
def telegramEnd (q : PortId) (heard : List RxChar) (p : Part) : Part :=
  match receive heard with
  | .crcError => countEvent q .crcError (modPort q Port.heardEnd p)
  | .lengthError => countEvent q .lengthError (modPort q Port.heardEnd p)
  | .good t => match q with
    | .up => upTelegram t p
    | .fp => fieldTelegram t p

def execTelegramDiscarded (port : PortId) (heard : List RxChar) (s : State) : Host.Outcome State Fault Refusal :=
  outcome (telegramEnd port heard) s

end Sys2Proof.Machine
end

