-- ==== Sys2Proof/Machine/Dispatch.lean ====
section
/-! DEFINITION. One arm for each command and event of the table. -/

namespace Sys2Proof.Machine

open Sys2Proof

def exec (i : Instr) (s : State) : Host.Outcome State Fault Refusal :=
  match i with
  | .powerOn nodeStraps rateStraps profileHigh => Sys2Proof.Machine.execPowerOn nodeStraps rateStraps profileHigh s
  | .resetLine nodeStraps rateStraps profileHigh => Sys2Proof.Machine.execResetLine nodeStraps rateStraps profileHigh s
  | .profileLineChange high => Sys2Proof.Machine.execProfileLineChange high s
  | .meterSample head payload => Sys2Proof.Machine.execMeterSample head payload s
  | .levelReport head payload => Sys2Proof.Machine.execLevelReport head payload s
  | .tagReport head payload => Sys2Proof.Machine.execTagReport head payload s
  | .sumpReport head payload => Sys2Proof.Machine.execSumpReport head payload s
  | .estopReport head payload => Sys2Proof.Machine.execEstopReport head payload s
  | .starterStatus head payload => Sys2Proof.Machine.execStarterStatus head payload s
  | .valveStatus head payload => Sys2Proof.Machine.execValveStatus head payload s
  | .inletStatus head payload => Sys2Proof.Machine.execInletStatus head payload s
  | .echoBack head payload => Sys2Proof.Machine.execEchoBack head payload s
  | .fieldTelegramOther head kind payload => Sys2Proof.Machine.execFieldTelegramOther head kind payload s
  | .telegramDiscarded port heard => Sys2Proof.Machine.execTelegramDiscarded port heard s
  | .upTelegramOffered telegram => Sys2Proof.Machine.execUpTelegramOffered telegram s
  | .upTelegramConsumed telegram => Sys2Proof.Machine.execUpTelegramConsumed telegram s
  | .idleWaitExpiry port => Sys2Proof.Machine.execIdleWaitExpiry port s
  | .transmitStart port => Sys2Proof.Machine.execTransmitStart port s
  | .transmitEnd port => Sys2Proof.Machine.execTransmitEnd port s
  | .idleTimerExpiry hose => Sys2Proof.Machine.execIdleTimerExpiry hose s
  | .pauseTimerExpiry hose => Sys2Proof.Machine.execPauseTimerExpiry hose s
  | .confirmTimerExpiry hose => Sys2Proof.Machine.execConfirmTimerExpiry hose s
  | .drainWindowExpiry hose => Sys2Proof.Machine.execDrainWindowExpiry hose s
  | .periodTimerExpiry node => Sys2Proof.Machine.execPeriodTimerExpiry node s
  | .settleTimerExpiry tank => Sys2Proof.Machine.execSettleTimerExpiry tank s
  | .restWindowExpiry tank => Sys2Proof.Machine.execRestWindowExpiry tank s
  | .recoveryTimerExpiry zone => Sys2Proof.Machine.execRecoveryTimerExpiry zone s
  | .bayClockTick => Sys2Proof.Machine.execBayClockTick s
  | .gapTimerExpiry => Sys2Proof.Machine.execGapTimerExpiry s
  | .echoWaitExpiry => Sys2Proof.Machine.execEchoWaitExpiry s
  | .window src args => Sys2Proof.Machine.execWindow src args s
  | .stepMode src mode => Sys2Proof.Machine.execStepMode src mode s
  | .read src n => Sys2Proof.Machine.execRead src n s
  | .write src data => Sys2Proof.Machine.execWrite src data s
  | .bayMode src mode => Sys2Proof.Machine.execBayMode src mode s
  | .profile src letter => Sys2Proof.Machine.execProfile src letter s
  | .profileSource src source => Sys2Proof.Machine.execProfileSource src source s
  | .clockSet src seconds => Sys2Proof.Machine.execClockSet src seconds s
  | .lineRate src code => Sys2Proof.Machine.execLineRate src code s
  | .counterSelect src args => Sys2Proof.Machine.execCounterSelect src args s
  | .counterRead src port => Sys2Proof.Machine.execCounterRead src port s
  | .stockSet src args => Sys2Proof.Machine.execStockSet src args s
  | .deliveryStart src args => Sys2Proof.Machine.execDeliveryStart src args s
  | .deliveryEnd src tank => Sys2Proof.Machine.execDeliveryEnd src tank s
  | .tripZone src zone => Sys2Proof.Machine.execTripZone src zone s
  | .tripReset src zone => Sys2Proof.Machine.execTripReset src zone s
  | .hoseServiceOut src args => Sys2Proof.Machine.execHoseServiceOut src args s
  | .hoseServiceIn src hose => Sys2Proof.Machine.execHoseServiceIn src hose s
  | .tankServiceIn src tank => Sys2Proof.Machine.execTankServiceIn src tank s
  | .tankServiceOut src args => Sys2Proof.Machine.execTankServiceOut src args s
  | .machineStateBarred src slot => Sys2Proof.Machine.execMachineStateBarred src slot s
  | .machineStateOpen src args => Sys2Proof.Machine.execMachineStateOpen src args s
  | .serviceDone src args => Sys2Proof.Machine.execServiceDone src args s
  | .take src serial => Sys2Proof.Machine.execTake src serial s
  | .noticeRead src => Sys2Proof.Machine.execNoticeRead src s
  | .noticeMask src set => Sys2Proof.Machine.execNoticeMask src set s
  | .topNotice src => Sys2Proof.Machine.execTopNotice src s
  | .proveStart src args => Sys2Proof.Machine.execProveStart src args s
  | .proveResult src args => Sys2Proof.Machine.execProveResult src args s
  | .proveEndAccept src args => Sys2Proof.Machine.execProveEndAccept src args s
  | .proveEndAbandon src hose => Sys2Proof.Machine.execProveEndAbandon src hose s
  | .lineTestSingle src args => Sys2Proof.Machine.execLineTestSingle src args s
  | .lineTestContinuous src args => Sys2Proof.Machine.execLineTestContinuous src args s
  | .lineTestRead src => Sys2Proof.Machine.execLineTestRead src s
  | .lineTestStop src mode => Sys2Proof.Machine.execLineTestStop src mode s
  | .restart src => Sys2Proof.Machine.execRestart src s
  | .commandUnknown src => Sys2Proof.Machine.execCommandUnknown src s
  | .startBitHeard heard => Sys2Proof.Machine.execStartBitHeard heard s

end Sys2Proof.Machine
end

