-- ==== Sys2Proof/Safety.lean ====
section
/-! DEFINITION. What holds of the part between any two events: the promises that the manual makes about the whole
machine, each as a statement about one state. A safe state is one in which all of them hold. -/

namespace Sys2Proof.Machine

open Sys2Proof

/-! ## Lines and notices -/

/-- SHUTDOWN is active exactly when at least one zone is TRIPPED (R108), and BAY ALARM exactly when a zone is TRIPPED or
RECOVERY or OVERFILL_GUARD is pending (R109). -/
def Part.LinesFollow (p : Part) : Prop :=
  (p.shutdown = true ↔ ∃ z, (p.zone z).state = .tripped) ∧
  (p.bayAlarm = true ↔ (∃ z, (p.zone z).state ≠ .normal) ∨ Notice.overfillGuard.isIn p.pendingNotices = true)

/-- The trip notice of a zone is pending whenever that zone is TRIPPED (R99, R165). -/
def Part.TripNoticesPend (p : Part) : Prop :=
  ∀ z, (p.zone z).state = .tripped → (Notice.trip z).isIn p.pendingNotices = true

/-! ## Queues and cursor -/

/-- A transmit queue holds up to 32 telegrams (R139). -/
def Port.Fits (q : Port) : Prop := q.own.length + q.forwarded.length ≤ 32

def Part.QueuesFit (p : Part) : Prop := p.up.Fits ∧ p.fp.Fits

/-- The window's offset lies inside the selected entry (R168 to R170). -/
def Part.CursorInside (p : Part) : Prop := p.cursor.offset < p.cursor.sel.words

/-- The thin counter of a THIN rule stays below 2n, and is 0 otherwise (R143, R147). -/
def PassRule.ThinInside (r : PassRule) : Prop :=
  match r.action with
  | .thin n => if n = 0 then r.thinCount = 0 else r.thinCount < 2 * n
  | _ => r.thinCount = 0

def Part.ThinInside (p : Part) : Prop := ∀ r, (nth p.rules r).ThinInside

/-! ## Devices and books -/

/-- A score lies in 0 to 128, an unbound node has score 0 and is GOOD, and a bound one's health is one that its score
allows: below 32 for GOOD, 32 to 95 for DOUBTFUL, 16 and above for LOST (R119, R120). -/
def Device.Scored (d : Device) : Prop :=
  d.score ≤ 128 ∧ (d.binding = .unbound → d.score = 0 ∧ d.health = .good) ∧
  (d.health = .good → d.score < 32) ∧
  (d.health = .doubtful → 32 ≤ d.score ∧ d.score < 96) ∧
  (d.health = .lost → 16 ≤ d.score)

def Part.DevicesScored (p : Part) : Prop := ∀ n, (p.device n).Scored

/-- A tank's book stock is its set-point with the four totals (R75). -/
def Tank.Balanced (x : Tank) : Prop :=
  x.book = x.setPoint + x.totals.received + x.totals.adjustment - x.totals.dispensed - x.totals.stray

def Part.BooksBalance (p : Part) : Prop := ∀ t, (p.tank t).Balanced

/-! ## Operations in progress -/

/-- The places a hose has been promised: one for an open transaction, one for each run of a session that has placed no
record (R155). -/
def HoseMode.promised : HoseMode → Nat
  | .fill _ _ => 1
  | .proving s => s.planned - s.ended.length
  | _ => 0

/-- One place for an open delivery. -/
def Tank.promised (x : Tank) : Nat := if x.delivery.isSome then 1 else 0

/-- The reservations in all. -/
def Part.promised (p : Part) : Nat :=
  (hoseNos.map fun h => (p.hose h).mode.promised).sum + (tankNos.map fun t => (p.tank t).promised).sum

/-- The runs begun are no more than those planned (R178). -/
def HoseMode.SessionFits : HoseMode → Prop
  | .proving s => s.ended.length + (if s.run.isSome then 1 else 0) ≤ s.planned
  | _ => True

/-- The reservation count is the number of places promised, queued and reserved never exceed 64 (R155), a tank is
RECEIVING exactly while it has a delivery (R69, R85), and no session has begun more runs than it planned. -/
def Part.RecordsFit (p : Part) : Prop :=
  p.reserved = p.promised ∧ p.records.length + p.reserved ≤ 64 ∧
  (∀ t, (p.tank t).state = .receiving ↔ (p.tank t).delivery.isSome = true) ∧
  (∀ h, (p.hose h).mode.SessionFits)

/-- The open transaction of a hose is on machine slot `m`. -/
def HoseMode.holds (m : SlotNo) : HoseMode → Bool
  | .fill _ t => t.slot == m
  | _ => false

/-- A machine's open-hose field names a hose exactly when that hose's open transaction is that machine's (R21). -/
def Part.MachinesAgree (p : Part) : Prop :=
  ∀ m h, (p.machine m).openHose = some h ↔ (p.hose h).mode.holds m = true

/-- A hose's claim on the pump of tank `t` (R11). -/
def Hose.claims (t : TankNo) (x : Hose) : Nat :=
  match x.mode with
  | .fill (.closing _ _) _ => 0
  | .fill _ txn => if txn.tank = t then 1 else 0
  | .proving s => if s.run.isSome && x.cfg.tank == some t then 1 else 0
  | _ => 0

/-- Each pump reference count is the number of claims on that tank's pump (R11). -/
def Part.PumpsAgree (p : Part) : Prop := ∀ t, (p.pump t).count = (hoseNos.map fun h => (p.hose h).claims t).sum

/-- A hose that the open-hose count of tank `t` counts (R69). -/
def Hose.opens (t : TankNo) (x : Hose) : Nat :=
  match x.mode with
  | .fill _ txn => if txn.tank = t then 1 else 0
  | .proving s => if s.run.isSome && x.cfg.tank == some t then 1 else 0
  | _ => 0

/-- Each open-hose count is the number of open transactions and runs on that tank (R69). -/
def Part.OpenHosesAgree (p : Part) : Prop := ∀ t, (p.tank t).openHoses = (hoseNos.map fun h => (p.hose h).opens t).sum

/-- While a zone is TRIPPED, every hose of that zone is IDLE, CLOSING, OUT or PROVING without a run in progress
(R101). -/
def Part.TrippedHosesShut (p : Part) : Prop :=
  ∀ h z, p.hoseZone h = some z → (p.zone z).state = .tripped →
    (p.hose h).mode.dispensing = false ∧ (p.hose h).mode.run = none

/-- No RUN 1 to a starter, and no SET above 0 to a valve or an inlet, of a TRIPPED zone waits at either port (R101). -/
def Part.OrdersHeld (p : Part) : Prop :=
  ∀ t, t ∈ p.up.own ∨ t ∈ p.up.forwarded ∨ t ∈ p.fp.own ∨ t ∈ p.fp.forwarded → p.bars t = false

/-- A hose fills from the tank its own tank field names: the field is not written while the hose is in service
(R171). -/
def Part.FillsOnOwnTank (p : Part) : Prop := ∀ h ph txn, (p.hose h).mode = .fill ph txn → (p.hose h).cfg.tank = some txn.tank

/-- While the net of an open transaction is above its cap and overrun allowance, the zone of its hose is TRIPPED (R98): the
sample that took it there raised OVERRUN, and no reset of the zone comes before the fill has closed (R103). -/
def Part.OverrunsTripped (p : Part) : Prop :=
  ∀ h ph txn, (p.hose h).mode = .fill ph txn → txn.cap + txn.allowance < txn.tally.net → p.hoseTripped h = true

/-- A tank that is out of service has no open hose (R70). -/
def Part.OutTanksClosed (p : Part) : Prop := ∀ t, (p.tank t).state = .outOfService → (p.tank t).openHoses = 0

/-- A safe state: every promise holds. -/
def Part.Safe (p : Part) : Prop :=
  p.LinesFollow ∧ p.TripNoticesPend ∧ p.QueuesFit ∧ p.CursorInside ∧ p.ThinInside ∧ p.DevicesScored ∧
  p.BooksBalance ∧ p.RecordsFit ∧ p.MachinesAgree ∧ p.PumpsAgree ∧ p.OpenHosesAgree ∧ p.FillsOnOwnTank ∧ p.OutTanksClosed ∧
  p.TrippedHosesShut ∧ p.OrdersHeld ∧ p.OverrunsTripped

/-! ## Words the statements share -/

/-- The state in which a COMMAND from `src` has been consumed at its port, its effect `f` made, and the answer queued
(R134, R167). -/
def State.answered (s : State) (src : Node) (st : Status) (data : List Byte) (f : Part → Part) : State :=
  s.on fun p => reply src st data (f (consumeUp p))

/-- The health in which one telegram leaves a node whose score and health agree (R120): DOUBTFUL goes to GOOD as the score
goes from 32 to 31, LOST goes to GOOD as it goes from 16 to 15, and no other telegram changes it. -/
def Device.heardHealth (d : Device) : Health :=
  if d.health = .doubtful ∧ d.score = 32 ∨ d.health = .lost ∧ d.score = 16 then .good else d.health

/-- Node `n` is bound in a role to an object, or is unbound, and its score and its health, whichever that is, agree. -/
def Part.Hears (p : Part) (n : DevNo) (b : Binding) : Prop := (p.device n).binding = b ∧ (p.device n).Scored

/-- The part after a good telegram of such a node has ended at the field port and been scored (R117, R119, R120). -/
def Part.heard (p : Part) (n : DevNo) (kind : Byte) : Part :=
  modDevice n (fun d => { d with lastKind := some kind, score := d.score - 1, health := d.heardHealth })
    (modPort .fp Port.heardEnd p)

/-- The state in which a field telegram of node `n` has had the effect `f`, and the Pass filter has then decided it (R117,
R145). That the filter comes last is the model's reading (log 16). -/
def State.told (s : State) (head : Header) (kind : Byte) (payload : List Byte) (n : DevNo) (f : Part → Part) : State :=
  s.on fun p => offer .fieldToUp ⟨head, kind, payload⟩ (f (p.heard n kind))

/-- A condition that blocks TRIP_RESET of a zone (R103). -/
def Part.ResetBlocked (p : Part) (z : ZoneNo) : Prop :=
  (∃ n, (p.device n).binding = .sump z ∧ (p.device n).wet = true) ∨
  (∃ n, ((p.device n).binding = .estop (some z) ∨ (p.device n).binding = .estop none) ∧
    ((p.device n).pressed = true ∨ (p.device n).health = .lost)) ∨
  (∃ n, (p.device n).binding = .sump z ∧ (p.device n).health = .lost ∧ (p.zone z).sensorTrips = true) ∨
  (∃ h, p.hoseZone h = some z ∧ (p.hose h).mode.isClosing = true)

end Sys2Proof.Machine
end

