-- ==== Sys2Proof/WellFormed.lean ====
section
/-! DEFINITION. What an event must satisfy to be one that the line, or the COMMAND decoder, can deliver under its
row. Operand widths are in the types; what is left is checked here. The meanings are total: they do not lean on it. -/

namespace Sys2Proof

/-- A payload of a good telegram (R130). -/
def payloadOk (payload : List Byte) : Bool := decide (payload.length ≤ Config.maxPayload)

/-- An event as its row describes it. Whether a telegram's source is bound, and which node is the part's own, is the
state's to say. -/
def Instr.wellFormed : Instr → Bool
  | .meterSample _ p | .levelReport _ p | .tagReport _ p | .sumpReport _ p | .estopReport _ p
  | .starterStatus _ p | .valveStatus _ p | .inletStatus _ p | .echoBack _ p => payloadOk p
  | .fieldTelegramOther _ _ p => payloadOk p
  | .telegramDiscarded _ heard => receive heard = .crcError || receive heard = .lengthError
  | .upTelegramOffered t => payloadOk t.payload
  | .upTelegramConsumed t => payloadOk t.payload && !(t.head.cls == 1 && t.kind == 0x40)
  | .write _ data => decide (data.length ≤ 11)
  | .hoseServiceOut _ (some (_, form)) => form != 1
  | .tankServiceOut _ (some (_, form)) => form != 1
  | .machineStateOpen _ (some (_, form)) => form != 1
  | .proveEndAccept _ (some (_, form)) => form != 1
  | .lineTestStop _ (some mode) => mode != 1 && mode != 2 && mode != 3
  | _ => true

end Sys2Proof
end

