-- ==== Sys2Proof/Certificates/Slice0/Obligations.lean ====
section
/-! DEFINITION. The statements for the provers. Each says of which rules of spec/ it speaks; what a command or an event
leaves unchanged is what its next state's equation leaves out. -/

open Sys2Proof Sys2Proof.Machine

/-! ## The step and the resets -/

/-- The command at the front of the queue is run on the state with the queue's rest; with nothing waiting the part idles,
which is the model's choice (log 4). -/
def Obligations.StepRunsTheFrontCommandOrIdles : Prop :=
  (∀ (c : Instr) (rest : List Instr) (s : State), s.pending = c :: rest →
     step s = exec c { s with pending := rest }) ∧
  (∀ s : State, s.pending = [] → step s = .next s)

/-- Every command and event has an effect, and none of them touches the commands that wait behind it. -/
def Obligations.EveryCommandCompletesAndKeepsTheQueue : Prop :=
  ∀ (c : Instr) (s : State), ∃ t, exec c s = .next t ∧ t.pending = s.pending

/-- R110, R127, R129, R163: power-on and the RESET line put every block at its reset value, with the trip notices and one
ATTENTION. What the curve points, taper steps and strapping points beyond their counts hold then is the model's choice
(log 3); the model's count of free values goes on (log 6), and so does its queue of waiting commands and events, which
stays as it is (log 34). Every zone is then TRIPPED with cause RESTART, both lines are active, every last sensor report is
dry or released, no node is bound and no telegram waits on the field line. -/
def Obligations.PowerOnAndTheResetLineRestoreEveryBlock : Prop :=
  (∀ (straps : Node) (rate : BitVec 2) (high : Bool) (s : State),
     let node : Node := if straps = 0 ∨ straps = 63 then 62 else straps
     let t : State := { s with toPart := { Part.atReset node rate high with
       pendingNotices := 0x000F, up := { Port.atReset rate node with own := [firstAttention node] },
       freeUses := s.freeUses } }
     exec (.powerOn straps rate high) s = .next t ∧ exec (.resetLine straps rate high) s = .next t) ∧
  (∀ (straps : Node) (rate : BitVec 2) (high : Bool) (s : State), ∃ t : State,
     exec (.powerOn straps rate high) s = .next t ∧ exec (.resetLine straps rate high) s = .next t ∧
     (∀ z, t.zone z = { state := .tripped, firstCause := .restart, firstTrip := ⟨0, true⟩, causes := 0x100,
                        tripCount := 1, sensorTrips := true, timer := .stopped, marks := 0 } ∧
           (Notice.trip z).isIn t.pendingNotices = true) ∧
     t.shutdown = true ∧ t.bayAlarm = true ∧
     (∀ n, (t.device n).wet = false ∧ (t.device n).pressed = false ∧ (t.device n).binding = .unbound) ∧
     t.fp.own = [] ∧ t.fp.forwarded = [])

/-- Every promise of Safety.lean holds right after reset, and the state the model starts from is the one POWER_ON leaves
with straps 0 and the PROFILE line low, the model's choice of straps (log 2), where no command waits and no free value has
been used (logs 6, 34). -/
def Obligations.TheResetStateIsSafe : Prop :=
  (State.reset.toPart.Safe) ∧
  (∀ s : State, s.freeUses = 0 → s.pending = [] → exec (.powerOn 0 0 false) s = .next State.reset)

/-! ## Promises every step keeps -/

/-- R108, R109: the SHUTDOWN and BAY ALARM lines; R99, R165: the trip notice of a TRIPPED zone. -/
def Obligations.LinesAndTripNoticesFollowTheZones : Prop :=
  (∀ s t : State, s.LinesFollow → step s = .next t → t.LinesFollow) ∧
  (∀ s t : State, s.TripNoticesPend → step s = .next t → t.TripNoticesPend)

/-- R139, R141. -/
def Obligations.TransmitQueuesNeverPassThirtyTwo : Prop :=
  ∀ s t : State, s.QueuesFit → step s = .next t → t.QueuesFit

/-- R168 to R170: the window's offset; R143, R147: the thin counters. -/
def Obligations.TheCursorAndTheThinCountersStayInside : Prop :=
  (∀ s t : State, s.CursorInside → step s = .next t → t.CursorInside) ∧
  (∀ s t : State, s.ThinInside → step s = .next t → t.ThinInside)

/-- R119, R120. -/
def Obligations.HealthScoresAndStatesAgree : Prop :=
  ∀ s t : State, s.DevicesScored → step s = .next t → t.DevicesScored

/-- R75, R78. -/
def Obligations.BookStockEqualsItsAccounts : Prop :=
  ∀ s t : State, s.BooksBalance → step s = .next t → t.BooksBalance

/-- R155, R156. -/
def Obligations.RecordsAndReservationsNeverPassSixtyFour : Prop :=
  ∀ s t : State, s.RecordsFit → step s = .next t → t.RecordsFit

/-- R21, R52. -/
def Obligations.MachinesAndOpenTransactionsNameEachOther : Prop :=
  ∀ s t : State, s.MachinesAgree → step s = .next t → t.MachinesAgree

/-- R11, R69. -/
def Obligations.PumpAndOpenHoseCountsCountTheirHoses : Prop :=
  (∀ s t : State, s.PumpsAgree → step s = .next t → t.PumpsAgree) ∧
  (∀ s t : State, s.OpenHosesAgree → step s = .next t → t.OpenHosesAgree)

/-- R101, with what it rests on: the open-hose counts (R69), that a fill's tank is its hose's (R171), and that a tank out of
service has no open hose (R70). That an order barred by R101 is taken out of the port it waits at is the model's reading
(log 36). R98: whenever the net of an open transaction is above its cap and overrun allowance, its zone is TRIPPED; every
command and event keeps this where it holds with those promises, so that the sample that takes a net past the figure
trips the zone in its own event, and no reset, no tank or zone field and no other event lets the zone go while the
transaction is open. That the overrun is looked at on every sample is the model's reading (log 17). -/
def Obligations.NoHoseOfATrippedZoneDispenses : Prop :=
  (∀ s t : State, s.OpenHosesAgree → s.FillsOnOwnTank → s.OutTanksClosed → s.TrippedHosesShut → s.OrdersHeld →
    step s = .next t →
    t.OpenHosesAgree ∧ t.FillsOnOwnTank ∧ t.OutTanksClosed ∧ t.TrippedHosesShut ∧ t.OrdersHeld) ∧
  (∀ s t : State, s.OpenHosesAgree → s.FillsOnOwnTank → s.OutTanksClosed → s.TrippedHosesShut → s.OverrunsTripped →
    step s = .next t → t.OverrunsTripped)

/-! ## Telegrams and COMMANDs as bytes -/

/-- R130 to R132: the bytes of a telegram, heard without a framing fault, are read back as that telegram. -/
def Obligations.TelegramBytesReadBack : Prop :=
  ∀ t : Telegram, t.payload.length ≤ 12 → receive (sound t.bytes) = .good t

/-- R167: a command written as a COMMAND's payload is decoded to that command. That LINE_TEST read and stop go by the mode
byte alone (log 20), and that the row of form 0 carries a command's short COMMANDs (log 32), are the model's choices. -/
def Obligations.CommandPayloadsReadBack : Prop :=
  ∀ (i : Instr) (src : Node) (payload : List Byte), i.wellFormed = true → encodeCommand i = some (src, payload) →
    decodeCommand src payload = i

/-- R134, R167: a COMMAND that arrives as a telegram for the part has the effect of the row it spells. -/
def Obligations.ARawCommandRunsAsItsRow : Prop :=
  ∀ (t : Telegram) (s : State), t.head.dst = s.up.node → t.head.cls = 1 → t.kind = 0x40 →
    exec (.upTelegramConsumed t) s = exec (decodeCommand t.head.src t.payload) s

/-- R133, R167: every COMMAND row, RESTART included, queues exactly one REPLY, of class 2, from the part's node to the
COMMAND's source, where the upstream queue has room for it and for one ATTENTION. -/
def Obligations.EveryCommandGetsExactlyOneReply : Prop :=
  ∀ (i : Instr) (src : Node) (payload : List Byte) (s : State), encodeCommand i = some (src, payload) →
    s.up.own.length + s.up.forwarded.length ≤ 30 → ∃ (t : State) (answer : List Byte),
      exec i s = .next t ∧
      t.up.own.filter (fun u => u.kind == 0x41) = s.up.own.filter (fun u => u.kind == 0x41) ++
        [{ head := { dst := src, cls := 2, src := s.up.node, rsv := 0 }, kind := 0x41, payload := answer }] ∧
      t.up.node = s.up.node

/-- R167: a COMMAND with too few parameter bytes is answered BAD_VALUE, and one that names no object of its kind BAD_INDEX;
neither has an effect. That a bad number is answered before a form above 1 (log 30), and that the row of form 0 carries a
command's short COMMANDs (log 32), are the model's choices. -/
def Obligations.ShortCommandsAndBadNumbersHaveNoEffect : Prop :=
  ∀ (src : Node) (s : State),
    (∀ i ∈ ([.window src none, .stepMode src none, .read src none, .bayMode src none, .profile src none,
        .profileSource src none, .clockSet src none, .lineRate src none, .counterSelect src none,
        .counterRead src none, .stockSet src none, .deliveryStart src none, .deliveryEnd src none, .tripZone src none,
        .tripReset src none, .hoseServiceOut src none, .tankServiceOut src none, .machineStateOpen src none,
        .serviceDone src none, .noticeMask src none, .proveStart src none, .proveResult src none,
        .proveEndAccept src none] : List Instr), exec i s = .next (s.answered src .badValue [] id)) ∧
    (∀ (b x : Byte) (w : Long), b = 0 ∨ 8 < b.toNat →
      ∀ i ∈ ([.hoseServiceIn src b, .hoseServiceOut src (some (b, x)), .proveStart src (some (b, x, w)),
        .proveResult src (some (b, x, w)), .proveEndAccept src (some (b, x)), .proveEndAbandon src b] : List Instr),
        exec i s = .next (s.answered src .badIndex [] id)) ∧
    (∀ (b x : Byte) (litres : Word) (ml : Long), b = 0 ∨ 6 < b.toNat →
      ∀ i ∈ ([.stockSet src (some (b, ml)), .deliveryStart src (some (b, litres)), .deliveryEnd src (some b),
        .tankServiceIn src b, .tankServiceOut src (some (b, x))] : List Instr),
        exec i s = .next (s.answered src .badIndex [] id))

/-! ## The ports (R131, R134, R137 to R142) -/

/-- R131, R142: a telegram that fails a check is counted at its port, which is idle again, or in IDLE_WAIT at a rate that
waited (the model's reading, log 10), and changes nothing else. R134,
R145: a telegram for another node is offered to the Pass filter, and one for the part that is no COMMAND of class 1 is
counted CONSUMED and changes nothing else. R127, R137: 3 character times of idle line take a port to IDLE; the start bit
of an arriving telegram takes it to RECEIVING with its first byte, with a deferral counted where something waits to be
sent, and the bytes that follow are added behind it, up to 18. That a byte is held from its start bit on is the model's
choice (log 11), and so is that a port that sends hears nothing (log 15). -/
def Obligations.PortsTakeWhatTheLineBrings : Prop :=
  (∀ (q : PortId) (heard : List RxChar) (s : State),
     (receive heard = .crcError → exec (.telegramDiscarded q heard) s =
       .next (s.on (modPort q fun x => x.heardEnd.counted .crcError))) ∧
     (receive heard = .lengthError → exec (.telegramDiscarded q heard) s =
       .next (s.on (modPort q fun x => x.heardEnd.counted .lengthError)))) ∧
  (∀ (t : Telegram) (s : State),
     (t.head.dst ≠ s.up.node → exec (.upTelegramOffered t) s =
       .next (s.on fun p => offer .upToField t { p with up := p.up.heardEnd })) ∧
     (t.head.dst = s.up.node → ¬(t.head.cls = 1 ∧ t.kind = 0x40) → exec (.upTelegramConsumed t) s =
       .next { s with up := s.up.heardEnd.counted .consumed })) ∧
  (∀ (q : PortId) (data : Byte) (s : State),
     ((s.port q).rx = .idleWait →
       exec (.idleWaitExpiry q) s = .next (s.on (modPort q fun x => { x with rx := .idle }))) ∧
     ((s.port q).flight = none → (s.port q).rx = .idleWait ∨ (s.port q).rx = .idle →
       ((s.port q).own = [] → (s.port q).forwarded = [] → exec (.startBitHeard ⟨q, data⟩) s =
         .next (s.on (modPort q fun x => { x with rx := .receiving [data] }))) ∧
       ((s.port q).own ≠ [] ∨ (s.port q).forwarded ≠ [] → exec (.startBitHeard ⟨q, data⟩) s =
         .next (s.on (modPort q fun x => { x with
           rx := .receiving [data]
           count := if x.select = .deferrals then min 255 (x.count + 1) else x.count })))) ∧
     (∀ bytes, (s.port q).flight = none → (s.port q).rx = .receiving bytes → exec (.startBitHeard ⟨q, data⟩) s =
       .next (s.on (modPort q fun x => { x with
         rx := .receiving (if bytes.length < 18 then bytes ++ [data] else bytes) }))) ∧
     ((s.port q).flight ≠ none → exec (.startBitHeard ⟨q, data⟩) s = .next s))

/-- R137, R139: on an idle line the oldest telegram of the part's own goes into flight, or, where there is none, the oldest
forwarded one. R137, R138, R142: after its last byte the port waits for an idle line, at a rate that waited, and counts
a telegram of the part's own. R185: an ECHO of the part's own is then counted sent and awaited, and the gap timer starts;
the ECHO of a single test, or the 10,000th, also starts the last wait. -/
def Obligations.SendingTakesTheHeadAndEndsInIdleWait : Prop :=
  (∀ (q : PortId) (t : Telegram) (rest : List Telegram) (s : State), (s.port q).rx = .idle → (s.port q).flight = none →
     ((s.port q).own = t :: rest → exec (.transmitStart q) s = .next (s.on (modPort q fun x =>
       { x with own := rest, flight := some { telegram := t, ours := true } }))) ∧
     ((s.port q).own = [] → (s.port q).forwarded = t :: rest → exec (.transmitStart q) s =
       .next (s.on (modPort q fun x =>
         { x with forwarded := rest, flight := some { telegram := t, ours := false } })))) ∧
  (∀ (q : PortId) (f : Flight) (s : State), (s.port q).flight = some f →
     ¬(q = .fp ∧ f.ours = true ∧ f.telegram.kind = 0x23) →
     exec (.transmitEnd q) s = .next (s.on (modPort q fun x =>
       { x with flight := none, rx := .idleWait, rate := x.nextRate.getD x.rate, nextRate := none,
                count := if f.ours ∧ x.select = .sentByPart then min 255 (x.count + 1) else x.count }))) ∧
  (∀ (t : LineTest) (e : Telegram) (s : State), s.test = some t → e.kind = 0x23 →
     s.fp.flight = some { telegram := e, ours := true } →
     exec (.transmitEnd .fp) s = .next { s with
       fp := { s.fp with flight := none, rx := .idleWait, rate := s.fp.nextRate.getD s.fp.rate, nextRate := none,
                         count := if s.fp.select = .sentByPart then min 255 (s.fp.count + 1) else s.fp.count }
       counts := { s.counts with sent := min 65535 (s.counts.sent + 1) }
       test := some { t with awaited := some e.payload, gapRunning := true,
                             waitRunning := !t.continuous || decide (10000 ≤ min 65535 (s.counts.sent + 1)) } })

/-- R140, R141: an order takes the place of what waits of its kind for its node, a RUN or SET also that of a forwarded one
to all nodes, and an ATTENTION that of the one still waiting (log 9: a forwarded one to all nodes with it); what else
waits stays, in its order, and the new telegram is the youngest of the part's own. Where that leaves no room, the youngest
forwarded telegram is displaced, or, with none to displace, the new one is lost; either is counted QUEUE_DROP. -/
def Obligations.AnOrderReplacesWhatWaitsForItsNode : Prop :=
  ∀ (t : Telegram) (q r : Port) (own kept : List Telegram),
    ((own = q.own.filter (fun u => decide ¬(u.kind = t.kind ∧ u.head.dst = t.head.dst)) ∧
      kept = q.forwarded.filter (fun u => decide ¬(u.kind = t.kind ∧ (u.head.dst = t.head.dst ∨
        (t.kind = 0x20 ∨ t.kind = 0x21) ∧ u.head.dst = 63))) ∧ r = q.queueOrder t) ∨
     (own = q.own.filter (fun u => decide (u.kind ≠ 0x42)) ∧
      kept = q.forwarded.filter (fun u => decide ¬(u.kind = 0x42 ∧ u.head.dst = 63)) ∧ r = q.queueAttention t)) →
    let dropped : Nat := if q.select = .queueDrop then min 255 (q.count + 1) else q.count
    (own.length + kept.length < 32 → r = { q with own := own ++ [t], forwarded := kept }) ∧
    (∀ (front : List Telegram) (youngest : Telegram), 32 ≤ own.length + kept.length → kept = front ++ [youngest] →
      r = { q with own := own ++ [t], forwarded := front, count := dropped }) ∧
    (32 ≤ own.length → kept = [] → r = { q with own := own, forwarded := [], count := dropped })

/-! ## The Pass filter (chapter 8) -/

/-- R145: the decision changes the ports, the rules and the filter entry alone. For a telegram that the guard does not
cover: R149, a node of a hose that is OUT with handling ISOLATE drops it; R148, else accept-all of its direction passes
it, with no rule tried; R145 to R147, else the first matching rule decides it, taking a hit and moving its thin counter
on; R148, else the default action of its direction does. R146: a rule matches where it is in use, its direction is the
telegram's, and every bit of the kind and of the compared node that its masks hold is that of its values. R139, R141: a
forwarded telegram goes to the end of the forwarded section, or is dropped from a full queue and counted QUEUE_DROP. -/
def Obligations.TheFirstMatchingRuleDecidesAndOnlyTheFilterChanges : Prop :=
  (∀ (dir : Direction) (t : Telegram) (p : Part),
     ∃ (u f : Port) (rs : Vector PassRule 32) (e : FilterEntry),
       offer dir t p = { p with up := u, fp := f, rules := rs, filter := e }) ∧
  (∀ (dir : Direction) (t : Telegram) (p : Part), t.kind ≠ 0x20 ∧ t.kind ≠ 0x21 ∨ p.guardFor t.head.dst = none →
     let node : Node := match dir with
       | .fieldToUp => t.head.src
       | .upToField => t.head.dst
     let cutOff : Prop := ∃ (n : DevNo) (h : HoseNo), deviceOf node = some n ∧
       ((p.device n).binding = .meter h ∨ (p.device n).binding = .reader h ∨ (p.device n).binding = .valve h) ∧
       (p.hose h).mode = .out ∧ (p.hose h).cfg.handling = .isolate
     let acceptAll : Bool := match dir with
       | .fieldToUp => p.filter.acceptUpward
       | .upToField => p.filter.acceptDownward
     let defaultDrop : Bool := match dir with
       | .fieldToUp => p.filter.dropUpward
       | .upToField => p.filter.dropDownward
     let passed : Part → Part := fun q => match dir with
       | .fieldToUp => { q with fp := q.fp.counted .passed, up := q.up.placeForwarded t }
       | .upToField => { q with up := q.up.counted .passed, fp := q.fp.placeForwarded t }
     let dropped : Part → Part := fun q => match dir with
       | .fieldToUp => { q with fp := q.fp.counted .droppedTable }
       | .upToField => { q with up := q.up.counted .droppedTable }
     (cutOff → offer dir t p = dropped p) ∧
     (¬cutOff → acceptAll = true → offer dir t p = passed p) ∧
     (∀ i : RuleNo, ¬cutOff → acceptAll = false →
       (nth p.rules i).matches dir t = true → (∀ j, j < i → (nth p.rules j).matches dir t = false) →
       let r := nth p.rules i
       let q : Part := { p with rules := setNth p.rules i { r with
         hits := min 65535 (r.hits + 1)
         thinCount := match r.action with
           | .thin n => if n = 0 then r.thinCount else if r.thinCount + 1 < 2 * n then r.thinCount + 1 else 0
           | _ => r.thinCount } }
       offer dir t p =
         if (match r.action with
           | .pass => true
           | .drop => false
           | .thin n => n = 0 ∨ r.thinCount = 0)
         then passed q else dropped q) ∧
     (¬cutOff → acceptAll = false → (∀ j, (nth p.rules j).matches dir t = false) →
       offer dir t p = if defaultDrop = true then dropped p else passed p)) ∧
  (∀ (r : PassRule) (dir : Direction) (t : Telegram),
     let node : Node := match dir with
       | .fieldToUp => t.head.src
       | .upToField => t.head.dst
     r.matches dir t = true ↔ r.inUse = true ∧ r.dir = dir ∧
       (∀ i, r.kindMask.getLsbD i = true → t.kind.getLsbD i = r.kindValue.getLsbD i) ∧
       (∀ i, r.nodeMask.getLsbD i = true → node.getLsbD i = r.nodeValue.getLsbD i)) ∧
  (∀ (t : Telegram) (q : Port),
     (q.own.length + q.forwarded.length < 32 → q.placeForwarded t = { q with forwarded := q.forwarded ++ [t] }) ∧
     (32 ≤ q.own.length + q.forwarded.length → q.placeForwarded t =
       { q with count := if q.select = .queueDrop then min 255 (q.count + 1) else q.count }))

/-- R150 to R152: a RUN or SET to a valve, starter or inlet whose object is guarded, or to all nodes where some such node is
bound, is dropped on its way from the upstream line, counted and noted, and held back on its way from the field line,
counted and noted; the condition noted is the first that holds, for all nodes that of the lowest-numbered covered node. A
RUN or SET to a node that is not covered goes on to the other steps. -/
def Obligations.TheGuardDropsOrdersWhereThePartControls : Prop :=
  ∀ (t : Telegram) (p : Part) (rest : List Instr), t.kind = 0x20 ∨ t.kind = 0x21 →
    let covers : Binding → GuardCondition → Prop := fun b c =>
      match b with
      | .valve h =>
        if p.hoseTripped h = true then c = .tripped
        else c = .hoseBusy ∧ (p.hose h).mode ≠ .idle ∧ (p.hose h).mode ≠ .out
      | .starter k | .inlet k =>
        if (p.zone (p.tank k).cfg.zone).state = .tripped then c = .tripped
        else if 0 < (p.tank k).openHoses then c = .tankOpen
        else c = .tankReceiving ∧ (p.tank k).state = .receiving
      | _ => False
    let covered : GuardCondition → Prop := fun c =>
      (∃ n, t.head.dst ≠ 63 ∧ deviceOf t.head.dst = some n ∧ covers (p.device n).binding c) ∨
      (∃ n : DevNo, t.head.dst = 63 ∧ covers (p.device n).binding c ∧
        ∀ m : DevNo, m < n → ∀ d, ¬covers (p.device m).binding d)
    (∀ c, covered c →
      (t.head.dst ≠ p.up.node → exec (.upTelegramOffered t) { toPart := p, pending := rest } = .next
        { toPart := { p with
            up := p.up.heardEnd.counted .droppedGuard
            filter := { p.filter with guardCount := min 65535 (p.filter.guardCount + 1),
                                      lastNode := some t.head.dst, lastCondition := some c } },
          pending := rest }) ∧
      offer .fieldToUp t p = { p with
        filter := { p.filter with holdCount := min 65535 (p.filter.holdCount + 1),
                                  lastNode := some t.head.dst, lastCondition := some c } }) ∧
    ((∀ c, ¬covered c) → p.guardFor t.head.dst = none)

/-! ## Field telegrams (R6, R13, R22 to R24, R29 to R43, R72, R77, R94, R95, R117 to R122, R186) -/

/-- R24, R77, R117: a STATUS of a valve or an inlet sets the last report to its code or to FAULT; another value is not
acted on. R12, R13: a starter's report is applied to its tank by the pump reference count: running confirms the pump,
which ends the pump wait of every hose of the tank, or, with no claim, is answered with RUN 0; stopped and fault end
what pumps; another value is not acted on. R136: nor is a STATUS with no payload byte. R122: so it is from a node that
is GOOD, DOUBTFUL or LOST. Besides that, each telegram is scored and offered to the Pass filter, which decides last (the
model's reading, log 16). To confirm the pump sets its flag, keeps its count, and clears the pump wait of the fill or
run of each of the tank's hoses; nothing else of them and no other hose, pump or state changes. R13, R18, R181: to end
what pumps, every open fill and every proving run of the tank's hoses is ended with PUMP_STOP, the runs leaving their
PROVE records, and the pump is no longer confirmed; the other hoses are left alone. That the PROVE record of a run with
no worked sample has 0 for its last temperature is the model's choice (log 39). -/
def Obligations.ValveInletAndStarterReportsAreTaken : Prop :=
  (∀ (head : Header) (n : DevNo) (b : Byte) (rest : List Byte) (s : State), deviceOf head.src = some n →
     let report : Option ValveReport :=
       if b.toNat ≤ 15 then some (.code b.toNat) else if b = 0xFF then some .fault else none
     (∀ h, s.Hears n (.valve h) → exec (.valveStatus head (b :: rest)) s =
       .next (s.told head 0x15 (b :: rest) n (modHose h fun x => { x with valveReport := report.getD x.valveReport }))) ∧
     (∀ k, s.Hears n (.inlet k) → exec (.inletStatus head (b :: rest)) s =
       .next (s.told head 0x15 (b :: rest) n (modTank k fun x => { x with inletReport := report.getD x.inletReport })))) ∧
  (∀ (head : Header) (n : DevNo) (k : TankNo) (b : Byte) (rest : List Byte) (s : State), deviceOf head.src = some n →
     s.Hears n (.starter k) →
     exec (.starterStatus head (b :: rest)) s = .next (s.told head 0x15 (b :: rest) n
       (if b = 1 then (if 0 < (s.pump k).count then confirmPump k else sendRun k 0)
        else if b = 0 ∨ b = 2 then (if 0 < (s.pump k).count then stopPumping k else id)
        else id))) ∧
  (∀ (head : Header) (n : DevNo) (s : State), deviceOf head.src = some n →
     (∀ h, s.Hears n (.valve h) → exec (.valveStatus head []) s = .next (s.told head 0x15 [] n id)) ∧
     (∀ k, s.Hears n (.inlet k) → exec (.inletStatus head []) s = .next (s.told head 0x15 [] n id)) ∧
     (∀ k, s.Hears n (.starter k) → exec (.starterStatus head []) s = .next (s.told head 0x15 [] n id))) ∧
  (∀ (k : TankNo) (p : Part),
     let q := confirmPump k p
     let ready : Tally → Tally := fun y => { y with pumpWait := false }
     q.pump k = { p.pump k with confirmed := true } ∧ (∀ j, j ≠ k → q.pump j = p.pump j) ∧
     (∀ h, (p.hose h).cfg.tank = some k → (q.hose h).confirmTimer = none ∧ q.hose h = { p.hose h with
       mode := match (p.hose h).mode with
         | .fill ph txn => .fill ph { txn with tally := ready txn.tally }
         | .proving ses => .proving { ses with run := ses.run.map fun r => { r with tally := ready r.tally } }
         | m => m }) ∧
     (∀ h, (p.hose h).cfg.tank ≠ some k → q.hose h = p.hose h) ∧
     q = { p with hoses := q.hoses, pumps := q.pumps }) ∧
  (∀ (k : TankNo) (p : Part),
     let q := stopPumping k p
     ((p.pump k).count = 0 → q = modPump k (fun u => { u with confirmed := false }) p) ∧
     (0 < (p.pump k).count →
       (∀ h ph txn, (p.hose h).cfg.tank = some k → (p.hose h).mode = .fill ph txn → (p.hose h).mode.isClosing = false →
         q.hose h = { p.hose h with mode := (.fill (.closing .pumpStop ⟨p.clock, p.clockUnset⟩)
           { txn with tally := { txn.tally with lastCode := 0, pumpWait := false } }) }) ∧
       (∀ h ses r, (p.hose h).cfg.tank = some k → (p.hose h).mode = .proving ses → ses.run = some r →
         ∃ e : EndedRun, q.hose h = { p.hose h with
             mode := .proving { ses with run := none, ended := ses.ended ++ [e] } } ∧
           e.cause = .pumpStop ∧ e.gross = r.tally.gross ∧ e.net = r.tally.net ∧ e.result = none ∧
           ∃ rec ∈ q.records, rec.cause = 5 ∧ rec.hose = h.val + 1 ∧
             rec.body = .prove r.tally.gross r.tally.net (ses.ended.length + 1) (r.tally.lastTemp.getD 0)) ∧
       (∀ h, (p.hose h).cfg.tank ≠ some k ∨ (p.hose h).mode.tally = none ∨ (p.hose h).mode.isClosing = true →
         q.hose h = p.hose h) ∧
       (q.pump k).confirmed = false ∧ (∀ rec ∈ p.records, rec ∈ q.records) ∧ q.zones = p.zones ∧ q.machines = p.machines ∧
       q.devices = p.devices))

/-- R94: a SUMP report sets the sensor's last report, and the change from dry to wet raises SUMP_WET for its zone. R95,
R93: an ESTOP report sets the station's last report, and the change from released to pressed raises ESTOP for its zone,
or for the four zones in turn. A value other than 0 and 1 is not acted on, nor is a report with no payload byte. R122:
so it is from a node that is GOOD, DOUBTFUL or LOST. That the Pass filter decides after the owner is the model's reading
(log 16). -/
def Obligations.SumpAndEstopReportsTripOnTheirChange : Prop :=
  (∀ (head : Header) (n : DevNo) (z : ZoneNo) (b : Byte) (rest : List Byte) (s : State), deviceOf head.src = some n →
     s.Hears n (.sump z) →
     exec (.sumpReport head (b :: rest)) s = .next (s.told head 0x13 (b :: rest) n fun p =>
       if b = 0 then modDevice n (fun d => { d with wet := false }) p
       else if b = 1 then
         let q := modDevice n (fun d => { d with wet := true }) p
         if (s.device n).wet then q else tripSource .sumpWet z q
       else p)) ∧
  (∀ (head : Header) (n : DevNo) (z : Option ZoneNo) (b : Byte) (rest : List Byte) (s : State),
     deviceOf head.src = some n → s.Hears n (.estop z) →
     exec (.estopReport head (b :: rest)) s = .next (s.told head 0x14 (b :: rest) n fun p =>
       if b = 0 then modDevice n (fun d => { d with pressed := false }) p
       else if b = 1 then
         let q := modDevice n (fun d => { d with pressed := true }) p
         if (s.device n).pressed then q
         else match z with
           | some z => tripSource .estop z q
           | none => tripSource .estop 3 (tripSource .estop 2 (tripSource .estop 1 (tripSource .estop 0 q)))
       else p)) ∧
  (∀ (head : Header) (n : DevNo) (s : State), deviceOf head.src = some n →
     (∀ z, s.Hears n (.sump z) → exec (.sumpReport head []) s = .next (s.told head 0x13 [] n id)) ∧
     (∀ z, s.Hears n (.estop z) → exec (.estopReport head []) s = .next (s.told head 0x14 [] n id)))

/-- R31: a METER telegram that leaves its meter LOST is not worked at all, and R29, R136: nor is one with fewer than 7
payload bytes, whatever its meter's health: it is scored and offered to the Pass filter alone. R29 to R34: any other
sets the baseline to its count, and marks an open fill or run doubtful where it carries a fault or leaves its meter
DOUBTFUL; with no baseline, or no tank, product, weight or curve, that is all that is added; else a delta above the
ceiling is counted as a jump, and any other is worked; and then the steps that follow a sample are made. That they
follow a baseline, a jump and a sample with nothing to work it by is the model's reading (log 17), and so is that the
Pass filter decides last (log 16). R33: a jump raises the hose's total, the fill's or run's count and METER_JUMP, and
the third of a fill or a run ends it with METER_FAULT (R181). R23, R29, R32, R35 to R43: with no fill or run open, a
counted sample is worked in the stray set, at the factor of its rate and the VCF of its temperature, and its whole
millilitres go to the stray total, to the tank and to the uncoupled volume. -/
def Obligations.BaselineSamplesAndStrayFlowAreWorked : Prop :=
  (∀ (head : Header) (n : DevNo) (h : HoseNo) (payload : List Byte) (s : State),
     deviceOf head.src = some n → s.Hears n (.meter h) → (s.device n).heardHealth = .lost →
     exec (.meterSample head payload) s = .next (s.told head 0x10 payload n id)) ∧
  (∀ (head : Header) (n : DevNo) (h : HoseNo) (payload : List Byte) (s : State),
     deviceOf head.src = some n → s.Hears n (.meter h) → payload.length < 7 →
     exec (.meterSample head payload) s = .next (s.told head 0x10 payload n id)) ∧
  (∀ (head : Header) (n : DevNo) (h : HoseNo) (c0 c1 i0 i1 t0 t1 st : Byte) (rest : List Byte) (s : State),
     deviceOf head.src = some n → s.Hears n (.meter h) → (s.device n).heardHealth ≠ .lost →
     let doubt := st.getLsbD 0 || decide ((s.device n).heardHealth = .doubtful)
     let payload := c0 :: c1 :: i0 :: i1 :: t0 :: t1 :: st :: rest
     let count := (join16 c0 c1).toNat
     let sample : Sample := { count := count, interval := (join16 i0 i1).toNat, temp := (join16 t0 t1).toInt,
                              fault := st.getLsbD 0 }
     let start : Part → Part := fun p =>
       modHose h (fun x => { x with baseline := some count }) (if doubt then markDoubt h p else p)
     ((s.hose h).baseline = none ∨ s.meterContext h = none → exec (.meterSample head payload) s =
       .next (s.told head 0x10 payload n fun p => afterSample h false (start p))) ∧
     (∀ base c, (s.hose h).baseline = some base → s.meterContext h = some c →
       let delta := (count + 65536 - base) % 65536
       (c.ceiling < delta → exec (.meterSample head payload) s =
         .next (s.told head 0x10 payload n fun p => afterSample h false (countJump h (start p)))) ∧
       (delta ≤ c.ceiling → exec (.meterSample head payload) s = .next (s.told head 0x10 payload n fun p =>
         afterSample h (decide (0 < delta)) (countSample h sample c delta (start p)))))) ∧
  (∀ (h : HoseNo) (p : Part),
     ((∀ k, (p.hose h).cfg.tank ≠ some k) → p.meterContext h = none) ∧
     (∀ k, (p.hose h).cfg.tank = some k →
       (p.tankProduct k = none ∨ (∃ i prod, p.tankProduct k = some (i, prod) ∧ prod.cls = .none) ∨
         (p.hose h).cfg.pulseWeight = 0 ∨ (p.hose h).cfg.pointCount = 0 → p.meterContext h = none) ∧
       (∀ i prod, p.tankProduct k = some (i, prod) → prod.cls ≠ .none → 0 < (p.hose h).cfg.pulseWeight →
         0 < (p.hose h).cfg.pointCount → p.meterContext h = some
           { tank := k, product := prod, weight := (p.hose h).cfg.pulseWeight, ceiling := (p.hose h).cfg.pulseCeiling,
             curve := (p.hose h).cfg.curve }))) ∧
  (∀ (h : HoseNo) (p : Part),
     let doubted : Tally → Tally := fun y => { y with flags := { y.flags with meterDoubt := true } }
     let jumped : Tally → Tally := fun y => { y with jumps := min 255 (y.jumps + 1) }
     let total : Nat := min 65535 ((p.hose h).jumpTotal + 1)
     ((p.hose h).mode.tally = none → markDoubt h p = p ∧
       countJump h p = raise .meterJump (modHose h (fun x => { x with jumpTotal := total }) p)) ∧
     (∀ ph txn, (p.hose h).mode = .fill ph txn →
       let kept : Transaction := { txn with tally := jumped txn.tally }
       let q := raise .meterJump (modHose h (fun x => { x with jumpTotal := total, mode := .fill ph kept }) p)
       markDoubt h p = modHose h (fun x => { x with mode := .fill ph { txn with tally := doubted txn.tally } }) p ∧
       (txn.tally.jumps ≠ 2 ∨ (p.hose h).mode.isClosing = true → countJump h p = q) ∧
       (txn.tally.jumps = 2 → (p.hose h).mode.isClosing = false →
         countJump h p = enterClosing h .meterFault kept q)) ∧
     (∀ ses r, (p.hose h).mode = .proving ses → ses.run = some r →
       let kept : ProvingRun := { r with tally := jumped r.tally }
       let q := raise .meterJump
         (modHose h (fun x => { x with jumpTotal := total, mode := .proving { ses with run := some kept } }) p)
       markDoubt h p = modHose h (fun x => { x with mode := .proving { ses with
         run := some { r with tally := doubted r.tally } } }) p ∧
       (r.tally.jumps ≠ 2 → countJump h p = q) ∧
       (r.tally.jumps = 2 → countJump h p = endRun h .meterFault { ses with run := some kept } kept q))) ∧
  (∀ (head : Header) (n : DevNo) (h : HoseNo) (c0 c1 i0 i1 t0 t1 st : Byte) (rest : List Byte) (s : State)
     (base : Nat) (k : TankNo) (i : ProductNo) (prod : Product),
     deviceOf head.src = some n → s.Hears n (.meter h) → (s.device n).heardHealth ≠ .lost →
     (s.hose h).baseline = some base →
     (s.hose h).mode.tally = none → (s.hose h).cfg.tank = some k → s.tankProduct k = some (i, prod) →
     prod.cls ≠ .none → 0 < (s.hose h).cfg.pulseWeight → curveOk (s.hose h).cfg.curve = true →
     let x := s.hose h
     let payload := c0 :: c1 :: i0 :: i1 :: t0 :: t1 :: st :: rest
     let count := (join16 c0 c1).toNat
     let delta := (count + 65536 - base) % 65536
     let interval := (join16 i0 i1).toNat
     let own := (join16 t0 t1).toInt
     let temp := if -500 ≤ own ∧ own ≤ 800 then own else prod.fallback
     let rate := if interval = 0 then x.straySet.lastRate.getD (x.cfg.curve.headD ⟨0, 0⟩).flow
       else delta * x.cfg.pulseWeight * 60 / (interval * 1000)
     let w := workSample delta x.cfg.pulseWeight (factorAt x.cfg.curve rate) (vcfOf prod.beta temp) rate x.straySet
     delta ≤ x.cfg.pulseCeiling →
     exec (.meterSample head payload) s = .next (s.told head 0x10 payload n fun p =>
       modHose h (fun y => { y with baseline := some count, straySet := w.meter,
                                    stray := min 4294967295 (y.stray + w.net) }) p
       |> handOff k .stray w.net
       |> addUncoupled h w.net))

/-- R37, R38, R41, R42: no volume is lost between samples: what the stages take in is what they give out and keep in the
residues, which stay inside their ranges. R36, R40: every factor of a curve that passes R4's checks lies in 90,000 to
110,000, a rate equal to a point's flow gives that point's factor, and every VCF lies in 900,000 to 1,100,000. -/
def Obligations.ResiduesCarryRemaindersAndFactorsStayInRange : Prop :=
  (∀ (delta weight factor vcf rate : Nat) (m : MeterSet), m.a < 100000 → m.b < 1000 → m.c < 1000000 → m.d < 1000 →
     let w := workSample delta weight factor vcf rate m
     let micro := (delta * weight * factor + m.a) / 100000
     delta * weight * factor + m.a = micro * 100000 + w.meter.a ∧
     micro + m.b = w.gross * 1000 + w.meter.b ∧
     micro * vcf + m.c + m.d * 1000000 = w.net * 1000000000 + w.meter.d * 1000000 + w.meter.c ∧
     w.meter.a < 100000 ∧ w.meter.b < 1000 ∧ w.meter.c < 1000000 ∧ w.meter.d < 1000) ∧
  ((∀ (curve : List CurvePoint) (rate : Nat), curveOk curve = true →
     90000 ≤ factorAt curve rate ∧ factorAt curve rate ≤ 110000 ∧
     ∀ q ∈ curve, q.flow = rate → factorAt curve rate = q.factor) ∧
   (∀ (beta : Nat) (t : Int), 900000 ≤ vcfOf beta t ∧ vcfOf beta t ≤ 1100000))

/-- R16, R29, R38, R39, R42, R43: a counted sample of a fill adds its whole gross and net millilitres to the fill, and
takes the net off the tank's book, also where that ends the fill with TANK_LOW. R180: so it does for a proving run,
which also sums its volume, its factored volume and the intervals with flow. R22: with the nozzle HOLSTERED or LIFTED
the net is also added to the uncoupled volume, which saturates; where that lies above the drip limit and uncoupled
raised is clear, it is set and the hose's zone, if it has one, is TRIPPED, a fill of a zone that was not going into
CLOSING and such a run ending with TRIP (R18, R181). With the nozzle coupled, or below the limit, or with the source
already raised, no zone changes. -/
def Obligations.ACountedSampleMovesFillAndBookAlike : Prop :=
  ∀ (h : HoseNo) (x : Sample) (c : MeterContext) (delta : Nat) (p : Part), curveOk c.curve = true →
    let q := countSample h x c delta p
    let used := usedTemp x.temp c.product.fallback
    let rate : MeterSet → Nat := fun m => rateOf delta c.weight x.interval m.lastRate (c.curve.headD ⟨0, 0⟩).flow
    let work : MeterSet → Worked := fun m =>
      workSample delta c.weight (factorAt c.curve (rate m)) (vcfOf c.product.beta used) (rate m) m
    let coupled := (p.hose h).nozzle = .coupled ∨ (p.hose h).nozzle = .coupledShut
    let sum : Nat → Nat := fun net => min 4294967295 ((p.hose h).uncoupled + net)
    let raises : Nat → Prop := fun net =>
      ¬coupled ∧ (p.hose h).cfg.dripLimit * 1000 < sum net ∧ (p.hose h).uncoupledRaised = false
    let trips : Nat → Prop := fun net => raises net ∧ ∃ z, p.hoseZone h = some z ∧ (p.zone z).state ≠ .tripped
    let booked : Nat → Prop := fun net =>
      (q.tank c.tank).book = (p.tank c.tank).book - net ∧ (∀ k, k ≠ c.tank → (q.tank k).book = (p.tank k).book) ∧
      q.machines = p.machines ∧
      (q.hose h).uncoupled = (if coupled then (p.hose h).uncoupled else sum net) ∧
      ((q.hose h).uncoupledRaised = true ↔ (p.hose h).uncoupledRaised = true ∨ raises net) ∧
      (¬raises net → q.zones = p.zones) ∧
      (raises net → (∀ z, p.hoseZone h = some z → (q.zone z).state = .tripped) ∧
        ∀ y, p.hoseZone h ≠ some y → q.zone y = p.zone y)
    (∀ ph txn, (p.hose h).mode = .fill ph txn →
      let w := work txn.tally.meter
      (∃ (ph' : Phase) (txn' : Transaction), (q.hose h).mode = .fill ph' txn' ∧
        txn'.tally.gross = min 4294967295 (txn.tally.gross + w.gross) ∧
        txn'.tally.net = min 4294967295 (txn.tally.net + w.net) ∧ txn'.tally.meter = w.meter ∧
        txn'.tally.lastTemp = some used ∧ txn'.tally.jumps = txn.tally.jumps ∧
        txn'.tally.flags = { txn.tally.flags with
          tempSubstituted := txn.tally.flags.tempSubstituted || decide (¬(-500 ≤ x.temp ∧ x.temp ≤ 800)) } ∧
        txn'.cap = txn.cap ∧ txn'.slot = txn.slot ∧ txn'.tank = txn.tank) ∧
      booked w.net ∧ (trips w.net → (q.hose h).mode.isClosing = true)) ∧
    (∀ ses r, (p.hose h).mode = .proving ses → ses.run = some r →
      let w := work r.tally.meter
      let worked : Tally := { r.tally with
        gross := min 4294967295 (r.tally.gross + w.gross), net := min 4294967295 (r.tally.net + w.net),
        meter := w.meter, lastTemp := some used,
        flags := { r.tally.flags with
          tempSubstituted := r.tally.flags.tempSubstituted || decide (¬(-500 ≤ x.temp ∧ x.temp ≤ 800)) } }
      (¬trips w.net → (q.hose h).mode = .proving { ses with run := some { r with
        tally := worked
        sumVolume := r.sumVolume + delta * c.weight
        sumFactored := r.sumFactored + delta * c.weight * factorAt c.curve (rate r.tally.meter)
        sumInterval := r.sumInterval + (if 0 < delta then x.interval else 0) } }) ∧
      (trips w.net → ∃ e : EndedRun, e.cause = .trip ∧ e.gross = worked.gross ∧ e.net = worked.net ∧
        e.lastTemp = worked.lastTemp ∧ e.flags = worked.flags ∧ e.jumps = worked.jumps ∧ e.result = none ∧
        (q.hose h).mode = .proving { ses with run := none, ended := ses.ended ++ [e] }) ∧
      booked w.net)

/-- R14 to R17, R20, R22, R32, R180, R181: what follows a sample, which has `moved` where it added a nonzero delta. On every
sample a fill in FLOWING or PAUSED that has reached its cap ends with CAP_REACHED, a fill above its cap and allowance
trips its zone with OVERRUN, a fill in CLOSING included, and a run that has reached its can volume ends with CAP_REACHED
(that a sample with no delta is looked at so is the model's reading, log 17). A nonzero delta alone takes READY and PAUSED
to FLOWING and moves the taper: the throttle is lowered to the code of the qualifying step of smallest threshold, where
that lies below the last code sent, and else left, TAPERED being set in a run as in a fill (the model's reading, log 18).
Uncoupled flow above the drip limit trips the zone once; with the
nozzle coupled no flow is uncoupled. -/
def Obligations.ASampleEndsTripsOrThrottlesTheFill : Prop :=
  ∀ (h : HoseNo) (z : ZoneNo) (p : Part), p.hoseZone h = some z →
    let steps := (p.hose h).cfg.taper
    let applies : TaperStep → Int → Prop := fun st remaining => st ∈ steps ∧ remaining ≤ (st.litres * 1000 : Nat) ∧
      ∀ st' ∈ steps, remaining ≤ (st'.litres * 1000 : Nat) →
        st.litres < st'.litres ∨ st.litres = st'.litres ∧ st.code ≤ st'.code
    let lowered : Nat → Tally → Tally := fun code y =>
      { y with lastCode := code, flags := { y.flags with tapered := true } }
    (∀ (ph : Phase) (txn : Transaction) (moved : Bool), (p.hose h).mode = .fill ph txn →
      let remaining : Int := (txn.cap : Int) - txn.tally.net
      let beyond := txn.cap + txn.allowance < txn.tally.net
      let flowing := modHose h (fun x => { x with mode := .fill .flowing txn }) p
      (ph = .flowing ∨ ph = .paused ∧ moved = false →
        (txn.cap ≤ txn.tally.net → ¬beyond → afterSample h moved p = enterClosing h .capReached txn p) ∧
        (beyond → afterSample h moved p = tripSource .overrun z (enterClosing h .capReached txn p)) ∧
        (txn.tally.net < txn.cap → moved = false → afterSample h moved p = p)) ∧
      (ph = .flowing → moved = true → txn.tally.net < txn.cap →
        (∀ st, applies st remaining → st.code < txn.tally.lastCode → afterSample h moved p =
          modHose h (fun x => { x with mode := .fill .flowing { txn with tally := lowered st.code txn.tally } })
            (sendValve h st.code p)) ∧
        (∀ st, applies st remaining → txn.tally.lastCode ≤ st.code → afterSample h moved p = p) ∧
        ((∀ st ∈ steps, ¬remaining ≤ (st.litres * 1000 : Nat)) → txn.tally.lastCode ≤ (p.hose h).cfg.openCode →
          afterSample h moved p = p)) ∧
      (ph = .ready → moved = true → afterSample h moved p = afterSample h true (sendLamp h 2 flowing)) ∧
      (ph = .paused → moved = true → afterSample h moved p = afterSample h true flowing) ∧
      ((∃ cause ended, ph = .closing cause ended) ∨ ph = .ready ∧ moved = false →
        (beyond → afterSample h moved p = tripSource .overrun z p) ∧ (¬beyond → afterSample h moved p = p))) ∧
    (∀ (ses : Session) (r : ProvingRun) (moved : Bool), (p.hose h).mode = .proving ses → ses.run = some r →
      let remaining : Int := (ses.can : Int) - r.tally.gross
      let put : ProvingRun → Part → Part := fun r' => modHose h fun x => { x with mode := .proving { ses with run := some r' } }
      (moved = false ∨ r.flowed = true →
        (ses.can ≤ r.tally.gross → afterSample h moved p = endRun h .capReached ses r p) ∧
        (r.tally.gross < ses.can → moved = false → afterSample h moved p = p)) ∧
      (r.flowed = true → moved = true → r.tally.gross < ses.can →
        (∀ st, applies st remaining → st.code < r.tally.lastCode → afterSample h moved p =
          put { r with tally := lowered st.code r.tally } (sendValve h st.code p)) ∧
        (∀ st, applies st remaining → r.tally.lastCode ≤ st.code → afterSample h moved p = p) ∧
        ((∀ st ∈ steps, ¬remaining ≤ (st.litres * 1000 : Nat)) → r.tally.lastCode ≤ (p.hose h).cfg.openCode →
          afterSample h moved p = p)) ∧
      (r.flowed = false → moved = true →
        afterSample h moved p = afterSample h true (sendLamp h 2 (put { r with flowed := true } p)))) ∧
    (∀ moved : Bool, (p.hose h).mode.tally = none → afterSample h moved p = p) ∧
    (∀ ml : Nat, (p.hose h).nozzle = .coupled ∨ (p.hose h).nozzle = .coupledShut → addUncoupled h ml p = p) ∧
    (∀ ml : Nat, (p.hose h).nozzle = .holstered ∨ (p.hose h).nozzle = .lifted →
      let sum := min 4294967295 ((p.hose h).uncoupled + ml)
      ((p.hose h).uncoupledRaised = false → (p.hose h).cfg.dripLimit * 1000 < sum →
        addUncoupled h ml p = tripSource .uncoupledFlow z
          (modHose h (fun x => { x with uncoupled := sum, uncoupledRaised := true }) p)) ∧
      ((p.hose h).uncoupledRaised = true ∨ sum ≤ (p.hose h).cfg.dripLimit * 1000 →
        addUncoupled h ml p = modHose h (fun x => { x with uncoupled := sum }) p))

/-- R122: a LEVEL that leaves its gauge LOST changes no tank state, and R72, R136: nor does one with fewer than 7
payload bytes: it is scored and offered to the Pass filter alone. R72: any other good LEVEL sets the last readings,
clears GAUGE_HELD, and, where the strapping table is valid and the product not NONE, sets the gauge net; a faulted one
sets GAUGE_HELD, disturbs the windows and closes a delivery's inlet with cause GAUGE (R86). R73: a level within a valid
table clears GAUGE_ABOVE_TABLE, and one above it sets it; that without a product it is cleared alone, and without a
valid table left as it was, is the model's reading (log 40). R72, R81 to R83, R87, R105: with the tank in service a good
LEVEL is then reported to the Trip unit, which marks the tank in a recovering zone, and the loss window, the rest window
and the high-high test follow. R82: the loss threshold is halved where the zone was RECOVERY at the telegram, also where
that telegram takes it to NORMAL. The model's readings are that the report comes before the windows (log 12), that the
loss window is SPENT before its source is taken (log 13), that the recovery timer stays expired in NORMAL (log 19), and
that the Pass filter decides last (log 16). R73: a valid table gives each of its own levels its own volume, and never
gives less for a higher level. -/
def Obligations.AGoodLevelSetsTheReadingsByTheTable : Prop :=
  (∀ (head : Header) (n : DevNo) (k : TankNo) (payload : List Byte) (s : State),
     deviceOf head.src = some n → s.Hears n (.gauge k) → (s.device n).heardHealth = .lost →
     exec (.levelReport head payload) s = .next (s.told head 0x11 payload n id)) ∧
  (∀ (head : Header) (n : DevNo) (k : TankNo) (payload : List Byte) (s : State),
     deviceOf head.src = some n → s.Hears n (.gauge k) → payload.length < 7 →
     exec (.levelReport head payload) s = .next (s.told head 0x11 payload n id)) ∧
  (∀ (head : Header) (n : DevNo) (k : TankNo) (l0 l1 w0 w1 t0 t1 st : Byte) (rest : List Byte) (s : State),
     deviceOf head.src = some n → s.Hears n (.gauge k) → (s.device n).heardHealth ≠ .lost →
     let recovering := decide ((s.zone (s.tank k).cfg.zone).state = .recovery)
     let payload := l0 :: l1 :: w0 :: w1 :: t0 :: t1 :: st :: rest
     let level := (join16 l0 l1).toNat
     let r : LevelReading := { level := level, water := (join16 w0 w1).toNat, temp := (join16 t0 t1).toInt, fault := false }
     (st.getLsbD 0 = true → exec (.levelReport head payload) s = .next (s.told head 0x11 payload n fun p =>
       closeInlet k .gauge (modTank k (fun x => { x with
         gaugeHeld := true, rest := .none, loss := match x.loss with
           | .opened _ _ _ => .waiting
           | w => w }) p))) ∧
     (st.getLsbD 0 = false → (s.tank k).state = .outOfService → (s.tank k).rest = .none →
       exec (.levelReport head payload) s = .next (s.told head 0x11 payload n (takeReading k r))) ∧
     (st.getLsbD 0 = false → (s.tank k).state ≠ .outOfService → exec (.levelReport head payload) s =
       .next (s.told head 0x11 payload n fun p =>
         highHighTest k level (restStep k (lossStep k recovering (gaugeMark k (takeReading k r p))))))) ∧
  (∀ (k : TankNo) (r : LevelReading) (p : Part),
     let table := (p.tank k).cfg.table
     let above := decide ((lastStrap table).level < r.level)
     let read : Tank → Tank := fun x =>
       { x with lastLevel := some r.level, lastWater := some r.water, lastTemp := some r.temp, gaugeHeld := false }
     ((p.tank k).cfg.tableValid = false → takeReading k r p = modTank k read p) ∧
     (∀ i prod, (p.tank k).cfg.tableValid = true → p.tankProduct k = some (i, prod) → prod.cls ≠ .none →
       let used := if -500 ≤ r.temp ∧ r.temp ≤ 800 then r.temp else prod.fallback
       let gross := if r.water < r.level then volumeAt table r.level - volumeAt table r.water else 0
       takeReading k r p = modTank k (fun x => { read x with
         gaugeNet := some (gross * vcfOf prod.beta used / 1000000), gaugeTemp := some used, aboveTable := above }) p) ∧
     ((p.tank k).cfg.tableValid = true →
       (p.tankProduct k = none ∨ ∃ i prod, p.tankProduct k = some (i, prod) ∧ prod.cls = .none) →
       takeReading k r p = modTank k (fun x => { read x with aboveTable := x.aboveTable && above }) p)) ∧
  (∀ (k : TankNo) (p : Part),
     let z := (p.tank k).cfg.zone
     let marked : Zone := { p.zone z with marks := (p.zone z).marks ||| ((1 : BitVec 6) <<< k.val) }
     let ready := (p.zone z).timer = .expired ∧
       ∀ j, (p.tank j).cfg.zone = z → (p.tank j).state ≠ .outOfService → marked.marks.getLsbD j.val = true
     ((p.zone z).state ≠ .recovery → gaugeMark k p = p) ∧
     ((p.zone z).state = .recovery → ¬ready → gaugeMark k p = modZone z (fun _ => marked) p) ∧
     ((p.zone z).state = .recovery → ready → gaugeMark k p =
       syncLines (modZone z (fun _ => { marked with state := .normal, causes := 0, marks := 0 }) p))) ∧
  (∀ (k : TankNo) (recovering : Bool) (p : Part),
     let x := p.tank k
     let checks := x.state = .inService ∧ p.roleGood (.gauge k) = true
     (∀ net, checks → x.gaugeNet = some net → x.loss = .waiting →
       lossStep k recovering p = modTank k (fun y => { y with loss := .opened net x.book false }) p) ∧
     (∀ net g0 b0, checks → x.gaugeNet = some net → x.loss = .opened g0 b0 true →
       let bookFall : Int := b0 - x.book
       let share : Int := if bookFall < 0 then 0 else bookFall * 3 / 100
       let whole : Int := max ((x.cfg.lossFloor * 1000 : Nat) : Int) share
       let threshold : Int := if recovering then whole / 2 else whole
       (threshold < (g0 : Int) - net - bookFall → lossStep k recovering p =
         tripSource .unmeteredLoss x.cfg.zone (modTank k (fun y => { y with loss := .spent }) p)) ∧
       ((g0 : Int) - net - bookFall ≤ threshold → lossStep k recovering p = p)) ∧
     (¬checks ∨ x.gaugeNet = none ∨ x.loss = .none ∨ x.loss = .spent ∨ (∃ g0 b0, x.loss = .opened g0 b0 false) →
       lossStep k recovering p = p)) ∧
  (∀ (k : TankNo) (level : Nat) (p : Part),
     let x := p.tank k
     let resting := x.state = .inService ∧ x.openHoses = 0 ∧ p.roleGood (.gauge k) = true ∧ x.gaugeHeld = false
     (∀ net, x.rest = .none → x.gaugeNet = some net → resting →
       restStep k p = modTank k (fun y => { y with rest := .running net x.book false }) p) ∧
     (x.rest = .none → x.gaugeNet = none ∨ ¬resting → restStep k p = p) ∧
     (∀ g b seen, x.rest = .running g b seen →
       restStep k p = modTank k (fun y => { y with rest := .running g b true }) p) ∧
     (x.state = .receiving → x.inletOpen = true → x.cfg.highHigh ≤ level →
       highHighTest k level p = raise .overfillGuard (closeInlet k .highHigh p)) ∧
     (x.state ≠ .receiving ∨ x.inletOpen = false ∨ level < x.cfg.highHigh → highHighTest k level p = p) ∧
     (∀ (cause : CloseCause) (d : Delivery), x.delivery = some d → d.closed = none →
       closeInlet k cause p = modTank k (fun y => { y with delivery := some { d with closed := some cause } })
         (sendInlet k 0 p)) ∧
     (∀ cause : CloseCause, x.inletOpen = false → closeInlet k cause p = p) ∧
     (x.inletOpen = true ↔ ∃ d, x.delivery = some d ∧ d.closed = none)) ∧
  (∀ (c : TankConfig), c.tableValid = true →
     (∀ q ∈ c.table, volumeAt c.table q.level = q.volume * 1000) ∧
     (∀ a b : Nat, a ≤ b → volumeAt c.table a ≤ volumeAt c.table b))

/-- R6, R136: a TAG report with fewer than 9 payload bytes, or with a nozzle state above 3, is scored and offered to the
Pass filter alone; R135: any other gives its nozzle state, its tag and its hour reading, absent as FFFFFFFFh. R6, R18,
R20, R22, R181: what a TAG report that is no COUPLED edge does, by its nozzle state: LIFTED and HOLSTERED end an open
fill or run with NOZZLE_OFF, COUPLED_SHUT with FULL, a fill in CLOSING keeping its end cause; HOLSTERED also resets the
uncoupled volume, and at an IDLE or OUT hose it turns the lamp off (the lamp at every HOLSTERED report is the model's
reading, log 22); COUPLED after COUPLED or COUPLED_SHUT does nothing more. Each sets the last nozzle state. R122: so it
is from a reader that is GOOD, DOUBTFUL or LOST. That the Pass filter decides last is the model's reading (log 16). -/
def Obligations.TagReportsThatAreNoEdge : Prop :=
  (∀ (head : Header) (n : DevNo) (h : HoseNo) (payload : List Byte) (s : State),
     deviceOf head.src = some n → s.Hears n (.reader h) →
     payload.length < 9 ∨ (∃ b rest, payload = b :: rest ∧ 3 < b.toNat) →
     exec (.tagReport head payload) s = .next (s.told head 0x12 payload n id)) ∧
  (∀ (b a0 a1 a2 a3 h0 h1 h2 h3 : Byte) (rest : List Byte),
     let payload := b :: a0 :: a1 :: a2 :: a3 :: h0 :: h1 :: h2 :: h3 :: rest
     let tag : Long := a3 ++ a2 ++ a1 ++ a0
     let figure : Long := h3 ++ h2 ++ h1 ++ h0
     let hours : Option Nat := if figure = 0xFFFFFFFF then none else some figure.toNat
     (b = 0 → readTag payload = some { nozzle := .holstered, tag := tag, hours := hours }) ∧
     (b = 1 → readTag payload = some { nozzle := .lifted, tag := tag, hours := hours }) ∧
     (b = 2 → readTag payload = some { nozzle := .coupled, tag := tag, hours := hours }) ∧
     (b = 3 → readTag payload = some { nozzle := .coupledShut, tag := tag, hours := hours })) ∧
  ∀ (head : Header) (n : DevNo) (h : HoseNo) (payload : List Byte) (r : TagReading) (s : State),
    deviceOf head.src = some n → s.Hears n (.reader h) → readTag payload = some r →
    let does : (Part → Part) → Prop := fun f => exec (.tagReport head payload) s =
      .next (s.told head 0x12 payload n fun p => f (modHose h (fun x => { x with nozzle := r.nozzle }) p))
    let reset : Part → Part := modHose h fun x => { x with uncoupled := 0, uncoupledRaised := false }
    (r.nozzle = .coupled → (s.hose h).nozzle = .coupled ∨ (s.hose h).nozzle = .coupledShut → does id) ∧
    ((s.hose h).mode = .idle ∨ (s.hose h).mode = .out →
      (r.nozzle = .lifted ∨ r.nozzle = .coupledShut → does id) ∧
      (r.nozzle = .holstered → does fun p => sendLamp h 0 (reset p))) ∧
    (∀ ph txn, (s.hose h).mode = .fill ph txn → (s.hose h).mode.isClosing = false →
      (r.nozzle = .lifted → does (enterClosing h .nozzleOff txn)) ∧
      (r.nozzle = .holstered → does fun p => reset (enterClosing h .nozzleOff txn p)) ∧
      (r.nozzle = .coupledShut → does (enterClosing h .full txn))) ∧
    (∀ ses run, (s.hose h).mode = .proving ses → ses.run = some run →
      (r.nozzle = .lifted → does (endRun h .nozzleOff ses run)) ∧
      (r.nozzle = .holstered → does fun p => reset (endRun h .nozzleOff ses run p)) ∧
      (r.nozzle = .coupledShut → does (endRun h .full ses run))) ∧
    ((s.hose h).mode.isClosing = true ∨ (∃ ses, (s.hose h).mode = .proving ses ∧ ses.run = none) →
      (r.nozzle = .lifted ∨ r.nozzle = .coupledShut → does id) ∧ (r.nozzle = .holstered → does reset))

/-- R6: a COUPLED edge at an IDLE or OUT hose is an authorization attempt, at a PROVING hose it asks for the next run,
and in an open fill it does nothing. R7, R9, R53: the first check that fails refuses the attempt with its cause, the
checks in their order, after the evaluation of the service hold where that is reached; a refusal sends LAMP refused,
unless the hose's zone is TRIPPED (R10), and leaves a record where a place is free, with the hose's tank and its
product, and else counts. R50, R51, R54 to R56: the last check assesses the reading, bars the machine at the seventh
doubtful one, works the class cap of a FUEL, a LUBE and a COOLANT product, bounds it by the profile, by the recovery cap
where the zone is RECOVERY, and by the tank, and refuses a cap below 1,000 mL. R8, R11, R69, R81, R83, R155: a coupling
that passes every check opens the transaction with that cap, whatever the class, the zone's state and the reading, with
its reservation, its orders in their order, its pump claim and what it does to the tank's windows; last, the whole of it
is said for a FUEL product and a trusted reading in a zone that is NORMAL. R180: a run begins where its conditions hold,
with SET to the open code, LAMP ready and RUN 1 for the first claim in their order, its pump claim, and what it does to
the tank's windows, and else LAMP refused is sent, under R10 as before. That the Pass filter decides last is the model's
reading (log 16). -/
def Obligations.ACouplingIsRefusedOrOpensAFill : Prop :=
  let classRoom : Profile → MachineRec → ProductClass → Nat → Option Nat → Nat := fun pr x cls allowance hours =>
    match cls with
    | .fuel =>
      match hours, x.hoursAtFull with
      | some now, some full =>
        if x.trusts hours then
          let headroom := min (allowance * 1000) ((now - full) * x.burnRate / 10 - x.addedSinceFull)
          min (allowance * 1000) (headroom + max (pr.marginFloor * 1000) (headroom * pr.marginPct / 100))
        else allowance * 1000 * pr.blindPct / 100
      | _, _ => allowance * 1000 * pr.blindPct / 100
    | .lube =>
      if x.lubeLimit = 0 then allowance * 1000 else min allowance (x.lubeLimit - x.lubeSinceService) * 1000
    | .coolant => allowance * 1000
    | .none => 0
  (∀ (head : Header) (n : DevNo) (h : HoseNo) (payload : List Byte) (r : TagReading) (s : State),
     deviceOf head.src = some n → s.Hears n (.reader h) → readTag payload = some r →
     r.nozzle = .coupled → (s.hose h).nozzle = .holstered ∨ (s.hose h).nozzle = .lifted →
     let does : (Part → Part) → Prop := fun f => exec (.tagReport head payload) s =
       .next (s.told head 0x12 payload n fun p => f (modHose h (fun x => { x with nozzle := .coupled }) p))
     ((s.hose h).mode = .idle ∨ (s.hose h).mode = .out → does (authorize h r)) ∧
     (∀ ses, (s.hose h).mode = .proving ses → does (beginRun h ses)) ∧
     (∀ ph txn, (s.hose h).mode = .fill ph txn → does id)) ∧
  (∀ (h : HoseNo) (r : TagReading) (p : Part),
     let refused : RefusalCause → Option SlotNo → Prop := fun cause slot =>
       authorize h r p = refuseFill h cause r.tag slot r.hours {} p
     ((p.hose h).mode = .out → refused .hoseOut none) ∧
     ((p.hose h).mode = .idle → p.bayMode = .layUp → refused .bayLayup none) ∧
     ((p.hose h).mode = .idle → p.bayMode = .run → p.hoseTripped h = true → refused .zoneTripped none) ∧
     ((p.hose h).mode = .idle → p.bayMode = .run → p.hoseTripped h = false →
       ((∀ k, (p.hose h).cfg.tank = some k → (p.tank k).state ≠ .inService) → refused .tankOut none) ∧
       (∀ k, (p.hose h).cfg.tank = some k → (p.tank k).state = .inService →
         (p.roleGood (.meter h) = false ∨ p.roleGood (.reader h) = false → refused .deviceNotGood none) ∧
         (p.roleGood (.meter h) = true → p.roleGood (.reader h) = true →
           (r.tag = 0 ∨ (∀ m, (p.machine m).tag ≠ r.tag) → refused .unknownTag none) ∧
           (∀ m, p.findTag r.tag = some m →
             let x := p.machine m
             x.tag = r.tag ∧
             (x.state = .barred → refused .barred (some m)) ∧
             (x.state = .opened → x.openHose ≠ none → refused .machineBusy (some m)) ∧
             (x.state = .opened → x.openHose = none →
               ((∀ i, (p.tank k).cfg.product = some i → nth x.allowances i = 0) →
                 refused .productNotAllowed (some m)) ∧
               (∀ i, (p.tank k).cfg.product = some i → 0 < nth x.allowances i →
                 let lube := (p.product i).cls = .lube
                 let due : Prop := ∃ now at_, r.hours = some now ∧ x.trusts r.hours = true ∧
                   x.hoursAtService = some at_ ∧ x.serviceInterval ≠ 0 ∧ x.serviceInterval * 10 ≤ now - at_
                 let overdue : Prop := ∃ now at_, r.hours = some now ∧ x.trusts r.hours = true ∧
                   x.hoursAtService = some at_ ∧ x.serviceInterval ≠ 0 ∧ x.serviceInterval * 1250 ≤ (now - at_) * 100
                 let worn := x.lubeLimit ≠ 0 ∧ x.lubeLimit ≤ x.lubeSinceService
                 let held : Bool → Part := fun b => modMachine m (fun y => { y with hold := b }) p
                 (p.current.allows (p.product i).cls = false → refused .profileClass (some m)) ∧
                 (∀ (b : Bool) (q : Part), p.current.allows (p.product i).cls = true →
                   (¬lube → q = p) → (lube → due → q = raise .serviceDue (held b)) → (lube → ¬due → q = held b) →
                   (b = true ↔ overdue ∨ worn ∨ x.trusts r.hours = false ∧ x.hold = true) →
                   (lube → b = true → authorize h r p = refuseFill h .serviceHold r.tag (some m) r.hours {} q) ∧
                   (¬lube ∨ b = false →
                     (64 ≤ q.records.length + q.reserved →
                       authorize h r p = refuseFill h .queueFull r.tag (some m) r.hours {} q) ∧
                     (q.records.length + q.reserved < 64 → authorize h r p = capCheck h r m k i q)))))))))) ∧
  (∀ (h : HoseNo) (cause : RefusalCause) (tag : Long) (slot : Option SlotNo) (hours : Option Nat) (flags : Flags)
     (p : Part),
     let q := refuseFill h cause tag slot hours flags p
     (p.records.length + p.reserved < 64 → ∃ rec : Record,
       q.records = p.records ++ [rec] ∧ rec.serial = p.nextSerial ∧ rec.body = .refusal ∧ rec.cause = cause.code ∧
       rec.hose = h.val + 1 ∧ rec.tag = tag ∧ rec.slot = (slot.map (·.val)).getD 65535 ∧
       rec.hours = hours.getD 4294967295 ∧ rec.start = p.clock ∧ rec.ended = p.clock ∧
       rec.tank = (match (p.hose h).cfg.tank with
         | some k => k.val + 1
         | none => 0) ∧
       rec.product = (match (p.hose h).cfg.tank.bind fun k => (p.tank k).cfg.product with
         | some i => i.val + 1
         | none => 0) ∧
       rec.clockUnset = p.clockUnset ∧ rec.flags = { flags with profileB := decide (p.letter = .b) } ∧
       q.hoses = p.hoses) ∧
     (64 ≤ p.records.length + p.reserved → q.records = p.records ∧ q.hose h = { p.hose h with
       refusals := setNth (p.hose h).refusals cause.index (min 65535 (nth (p.hose h).refusals cause.index + 1)) }) ∧
     (p.hoseTripped h = true → q.fp = p.fp) ∧
     (p.hoseTripped h = false → (p.boundNode (.reader h) = none → q.fp = p.fp) ∧
       ∀ n, p.boundNode (.reader h) = some n → q.fp = p.fp.queueOrder
         { head := { dst := nodeOf n, cls := 1, src := 0, rsv := 0 }, kind := 0x22, payload := [3] }) ∧
     (∀ j, j ≠ h → q.hose j = p.hose j) ∧ q.machines = p.machines ∧ q.pumps = p.pumps ∧ q.tanks = p.tanks ∧
     q.reserved = p.reserved ∧ q.zones = p.zones) ∧
  (∀ (h : HoseNo) (r : TagReading) (m : SlotNo) (k : TankNo) (i : ProductNo) (p : Part),
     let x := p.machine m
     let class_ := (p.product i).cls
     let trusted := x.trusts r.hours
     let recovering := (p.zone (p.tank k).cfg.zone).state == .recovery
     let whole := min (classRoom p.current x class_ (nth x.allowances i) r.hours) (p.current.ceiling * 1000)
     let room := if recovering then min whole (p.current.recoveryCap * 1000) else whole
     let bound : Int := (p.tank k).book - ((p.tank k).cfg.lowCutoff * 1000 : Nat)
     let limited := bound < room ∨ bound ≤ 0
     let doubt := min 7 (x.doubt + 1)
     let assessed : Part :=
       if trusted then modMachine m (fun y => { y with doubt := 0, lastHours := r.hours }) p
       else if doubt = 7 then raise .hoursFault (modMachine m (fun y => { y with doubt := 7, state := .barred }) p)
       else modMachine m (fun y => { y with doubt := doubt }) p
     let flags : Flags :=
       { hoursDoubt := !trusted || (class_ == .fuel && x.hoursAtFull.isNone), tankLimited := decide limited }
     (min (room : Int) bound < 1000 → capCheck h r m k i p =
       refuseFill h (if limited then .tankLow else .noHeadroom) r.tag (some m) (if trusted then r.hours else none)
         flags assessed) ∧
     (1000 ≤ min (room : Int) bound → ∃ txn : Transaction, capCheck h r m k i p = openFill h txn assessed ∧
       (txn.cap : Int) = min (room : Int) bound ∧ txn.allowance = max 20000 (txn.cap * 2 / 100) ∧ txn.tag = r.tag ∧
       txn.slot = m ∧ txn.hours = (if trusted then r.hours else none) ∧ txn.tank = k ∧ txn.product = i ∧
       txn.cls = class_ ∧ txn.zone = (p.tank k).cfg.zone ∧ txn.letter = p.letter ∧ txn.start = ⟨p.clock, p.clockUnset⟩ ∧
       txn.tally = { lastCode := (p.hose h).cfg.openCode, flags := { flags with
         recoveryCap := recovering, profileB := decide (p.letter = .b) } })) ∧
  (∀ (h : HoseNo) (txn : Transaction) (p : Part),
     let q := openFill h txn p
     let k := txn.tank
     let first := decide ((p.pump k).count = 0)
     let starter := (p.boundNode (.starter k)).isSome
     let sent : Byte → Binding → Byte → List Telegram := fun kind b value => (p.boundNode b).toList.map fun n =>
       { head := { dst := nodeOf n, cls := 1, src := 0, rsv := 0 }, kind := kind, payload := [value] }
     let orders := sent 0x21 (.valve h) (BitVec.ofNat 8 (p.hose h).cfg.openCode) ++
       (if p.hoseTripped h then [] else sent 0x22 (.reader h) 1) ++ (if first then sent 0x20 (.starter k) 1 else [])
     q.hose h = { p.hose h with
       mode := .fill .ready { txn with tally := { txn.tally with pumpWait := txn.tally.pumpWait || first && starter } }
       uncoupled := 0, uncoupledRaised := false } ∧
     (∀ j, j ≠ h → q.hose j = p.hose j) ∧
     q.machine txn.slot = { p.machine txn.slot with openHose := some h } ∧
     (∀ m, m ≠ txn.slot → q.machine m = p.machine m) ∧
     q.tank k = { p.tank k with
       openHoses := (p.tank k).openHoses + 1, rest := .none
       loss := if (p.tank k).openHoses = 0 ∧ (p.tank k).loss = .none then .waiting else (p.tank k).loss } ∧
     (∀ j, j ≠ k → q.tank j = p.tank j) ∧
     q.pump k = { count := (p.pump k).count + 1, confirmed := if first then !starter else (p.pump k).confirmed } ∧
     (∀ j, j ≠ k → q.pump j = p.pump j) ∧ q.fp = orders.foldl (fun x u => x.queueOrder u) p.fp ∧
     q = { p with hoses := q.hoses, machines := q.machines, tanks := q.tanks, pumps := q.pumps, fp := q.fp,
                  reserved := p.reserved + 1 }) ∧
  (∀ (h : HoseNo) (r : TagReading) (m : SlotNo) (k : TankNo) (i : ProductNo) (p : Part),
     (p.hose h).mode = .idle → p.bayMode = .run → (p.hose h).cfg.tank = some k →
     (p.tank k).state = .inService → (p.zone (p.tank k).cfg.zone).state = .normal →
     p.roleGood (.meter h) = true → p.roleGood (.reader h) = true → p.findTag r.tag = some m →
     (p.machine m).state = .opened → (p.machine m).openHose = none → (p.tank k).cfg.product = some i →
     (p.product i).cls = .fuel → 0 < nth (p.machine m).allowances i → p.current.fuel = true →
     p.records.length + p.reserved < 64 → (p.machine m).trusts r.hours = true →
     let cap := min ((min (classRoom p.current (p.machine m) .fuel (nth (p.machine m).allowances i) r.hours)
       (p.current.ceiling * 1000) : Nat) : Int) ((p.tank k).book - ((p.tank k).cfg.lowCutoff * 1000 : Nat))
     1000 ≤ cap →
     let q := authorize h r p
     (∃ txn : Transaction, (q.hose h).mode = .fill .ready txn ∧ txn.tag = r.tag ∧ txn.slot = m ∧ txn.hours = r.hours ∧
       (txn.cap : Int) = cap ∧ txn.allowance = max 20000 (txn.cap * 2 / 100) ∧ txn.letter = p.letter ∧ txn.tank = k ∧
       txn.product = i ∧ txn.zone = (p.tank k).cfg.zone ∧ txn.start = ⟨p.clock, p.clockUnset⟩ ∧
       txn.tally.gross = 0 ∧ txn.tally.net = 0 ∧ txn.tally.meter = {} ∧ txn.tally.lastCode = (p.hose h).cfg.openCode ∧
       (txn.tally.pumpWait = true ↔ (p.pump k).count = 0 ∧ (p.boundNode (.starter k)).isSome = true)) ∧
     (q.hose h).uncoupled = 0 ∧ (q.hose h).baseline = (p.hose h).baseline ∧
     q.reserved = p.reserved + 1 ∧ q.records = p.records ∧
     (q.machine m).openHose = some h ∧ (q.machine m).doubt = 0 ∧ (q.machine m).lastHours = r.hours ∧
     (q.pump k).count = (p.pump k).count + 1 ∧ (q.tank k).openHoses = (p.tank k).openHoses + 1 ∧
     (∀ j, j ≠ h → q.hose j = p.hose j) ∧ (∀ j, j ≠ m → q.machine j = p.machine j) ∧
     q.zones = p.zones ∧ q.devices = p.devices) ∧
  (∀ (h : HoseNo) (ses : Session) (p : Part),
     let may : TankNo → Prop := fun k => ses.ended.length < ses.planned ∧ ses.run = none ∧
       (p.hose h).cfg.tank = some k ∧ (p.zone (p.tank k).cfg.zone).state = .normal ∧ (p.tank k).state = .inService ∧
       p.roleGood (.meter h) = true ∧ p.roleGood (.reader h) = true
     ((∀ k, ¬may k) → beginRun h ses p = sendLamp h 3 p) ∧
     (∀ k, may k →
       let q := beginRun h ses p
       q.hose h = { p.hose h with mode := .proving { ses with run := some { start := ⟨p.clock, p.clockUnset⟩, tally :=
         { lastCode := (p.hose h).cfg.openCode
           pumpWait := decide ((p.pump k).count = 0) && (p.boundNode (.starter k)).isSome } } } } ∧
       (∀ j, j ≠ h → q.hose j = p.hose j) ∧
       q.tank k = { p.tank k with
         openHoses := (p.tank k).openHoses + 1, rest := .none
         loss := if (p.tank k).openHoses = 0 ∧ (p.tank k).loss = .none then .waiting else (p.tank k).loss } ∧
       (∀ j, j ≠ k → q.tank j = p.tank j) ∧
       (let first := decide ((p.pump k).count = 0)
        let starter := (p.boundNode (.starter k)).isSome
        let sent : Byte → Binding → Byte → List Telegram := fun kind b value => (p.boundNode b).toList.map fun n =>
          { head := { dst := nodeOf n, cls := 1, src := 0, rsv := 0 }, kind := kind, payload := [value] }
        let orders := sent 0x21 (.valve h) (BitVec.ofNat 8 (p.hose h).cfg.openCode) ++ sent 0x22 (.reader h) 1 ++
          (if first then sent 0x20 (.starter k) 1 else [])
        q.pump k = { count := (p.pump k).count + 1, confirmed := if first then !starter else (p.pump k).confirmed } ∧
        q.fp = orders.foldl (fun x u => x.queueOrder u) p.fp) ∧
       (∀ j, j ≠ k → q.pump j = p.pump j) ∧
       q = { p with hoses := q.hoses, tanks := q.tanks, pumps := q.pumps, fp := q.fp })) ∧
  (∀ (m : MachineRec) (hours : Option Nat),
     m.trusts hours = false ↔
       hours = none ∨ ∃ h last, hours = some h ∧ m.lastHours = some last ∧ (h < last ∨ last + 2000 < h))

/-- R118, R185, R186: an ECHO_BACK of the target, while an echo is awaited, counts intact or mismatched, and ends the
test when the awaited ECHO was the last; otherwise it is not counted. So it is from a node of any role and from an
unbound one, in every health state. R117, R118: a telegram of an unbound node only sets the entry's last kind, one whose
kind does not fit a bound node's role is counted as a mismatch, and one of any kind from a source with no entry goes to
the Pass filter alone. That the filter decides last is the model's reading (log 16). -/
def Obligations.EchoBacksAndOtherFieldTelegrams : Prop :=
  (∀ (head : Header) (n : DevNo) (b : Binding) (payload : List Byte) (s : State), deviceOf head.src = some n →
     s.Hears n b →
     (∀ (t : LineTest) (sent : List Byte), s.test = some t → t.awaited = some sent → t.target = n →
       exec (.echoBack head payload) s = .next (s.told head 0x24 payload n fun p =>
         let q := { p with
           counts := if payload = sent then { p.counts with intact := min 65535 (p.counts.intact + 1) }
             else { p.counts with mismatched := min 65535 (p.counts.mismatched + 1) } }
         if t.continuous = false ∨ 10000 ≤ p.counts.sent then raise .lineTestDone { q with test := none }
         else { q with test := some { t with awaited := none } })) ∧
     (s.test = none ∨ (∃ t, s.test = some t ∧ (t.awaited = none ∨ t.target ≠ n)) →
       exec (.echoBack head payload) s = .next (s.told head 0x24 payload n id))) ∧
  (∀ (head : Header) (n : DevNo) (kind : Byte) (payload : List Byte) (s : State), deviceOf head.src = some n →
     kind ≠ 0x24 →
     ((s.device n).binding = .unbound → exec (.fieldTelegramOther head kind payload) s = .next (s.on fun p =>
       offer .fieldToUp ⟨head, kind, payload⟩
         (modDevice n (fun d => { d with lastKind := some kind }) (modPort .fp Port.heardEnd p)))) ∧
     (∀ b, b ≠ .unbound → s.Hears n b → b.kind ≠ some kind →
       exec (.fieldTelegramOther head kind payload) s = .next (s.told head kind payload n
         (modDevice n fun d => { d with mismatches := min 65535 (d.mismatches + 1) })))) ∧
  (∀ (head : Header) (other : Byte) (payload : List Byte) (s : State), deviceOf head.src = none →
     ∀ row ∈ ([(.meterSample head payload, 0x10), (.levelReport head payload, 0x11), (.tagReport head payload, 0x12),
         (.sumpReport head payload, 0x13), (.estopReport head payload, 0x14), (.starterStatus head payload, 0x15),
         (.valveStatus head payload, 0x15), (.inletStatus head payload, 0x15), (.echoBack head payload, 0x24),
         (.fieldTelegramOther head other payload, other)] : List (Instr × Byte)),
       exec row.1 s = .next (s.on fun p => offer .fieldToUp ⟨head, row.2, payload⟩ (modPort .fp Port.heardEnd p)))

/-! ## Timers (R12, R14, R15, R19, R21, R81, R84, R105, R119, R173, R180, R185, R186) -/

/-- R12, R14, R15: the idle timer ends a fill in READY or PAUSED with IDLE_TIMEOUT, the confirm timer one whose pump
wait is set with START_FAIL; the pause timer takes FLOWING to PAUSED. R180, R181: they end a run in progress with the
same causes. That the row of a timer that does not run has no effect is the model's choice (log 5). R10, R11, R18, R19:
entry to CLOSING records the end cause and time, sets the last code sent to 0, clears the pump wait, queues SET 0 and
then LAMP off, or LAMP trip for TRIP, and releases the claim, with RUN 0 where that is the last one; it leaves every
other hose, the open-hose count, the records and the machines alone. R181: the end of a run queues the same orders and
releases its claim, takes the open-hose count down, works the run's mean rate, its factor and its VCF, and places its
PROVE record. That the last release clears pump-confirmed also where no starter is bound is the model's reading (log
18), and the last temperature 0 of a run with no worked sample its choice (log 39). -/
def Obligations.TimersEndOrPauseTheFill : Prop :=
  (∀ (h : HoseNo) (s : State),
     (∀ txn, (s.hose h).mode = .fill .ready txn ∨ (s.hose h).mode = .fill .paused txn →
       exec (.idleTimerExpiry h) s = .next (s.on (enterClosing h .idleTimeout txn))) ∧
     (∀ ph txn, (s.hose h).mode = .fill ph txn → (s.hose h).mode.isClosing = false → txn.tally.pumpWait = true →
       exec (.confirmTimerExpiry h) s = .next (s.on (enterClosing h .startFail txn))) ∧
     ((s.hose h).mode = .idle ∨ (s.hose h).mode = .out →
       exec (.idleTimerExpiry h) s = .next s ∧ exec (.confirmTimerExpiry h) s = .next s) ∧
     (∀ ses run, (s.hose h).mode = .proving ses → ses.run = some run →
       exec (.idleTimerExpiry h) s = .next (s.on (endRun h .idleTimeout ses run)) ∧
       (run.tally.pumpWait = true → exec (.confirmTimerExpiry h) s = .next (s.on (endRun h .startFail ses run))) ∧
       (run.tally.pumpWait = false → exec (.confirmTimerExpiry h) s = .next s))) ∧
  (∀ (h : HoseNo) (s : State),
     (∀ txn, (s.hose h).mode = .fill .flowing txn →
       exec (.pauseTimerExpiry h) s = .next (s.on (modHose h fun x => { x with mode := .fill .paused txn }))) ∧
     ((∀ txn, (s.hose h).mode ≠ .fill .flowing txn) → exec (.pauseTimerExpiry h) s = .next s)) ∧
  (∀ (h : HoseNo) (cause : EndCause) (txn : Transaction) (p : Part),
     let q := enterClosing h cause txn p
     q.hose h = { p.hose h with mode := (.fill (.closing cause ⟨p.clock, p.clockUnset⟩)
       { txn with tally := { txn.tally with lastCode := 0, pumpWait := false } }) } ∧
     (∀ j, j ≠ h → q.hose j = p.hose j) ∧
     q.pump txn.tank = { count := (p.pump txn.tank).count - 1,
                         confirmed := (p.pump txn.tank).confirmed && (p.pump txn.tank).count != 1 } ∧
     (∀ k, k ≠ txn.tank → q.pump k = p.pump k) ∧
     (let sent : Byte → Binding → Byte → List Telegram := fun kind b value => (p.boundNode b).toList.map fun n =>
        { head := { dst := nodeOf n, cls := 1, src := 0, rsv := 0 }, kind := kind, payload := [value] }
      let lamp := if cause = .trip then sent 0x22 (.reader h) 4
        else if p.hoseTripped h then [] else sent 0x22 (.reader h) 0
      let orders := sent 0x21 (.valve h) 0 ++ lamp ++
        (if (p.pump txn.tank).count = 1 then sent 0x20 (.starter txn.tank) 0 else [])
      q.fp = orders.foldl (fun x u => x.queueOrder u) p.fp) ∧
     q = { p with hoses := q.hoses, pumps := q.pumps, fp := q.fp }) ∧
  (∀ (h : HoseNo) (cause : EndCause) (ses : Session) (r : ProvingRun) (k : TankNo) (i : ProductNo) (prod : Product)
     (p : Part), (p.hose h).cfg.tank = some k → p.tankProduct k = some (i, prod) →
     let q := endRun h cause ses r p
     let head := (p.hose h).cfg.curve.headD ⟨0, 0⟩
     let e : EndedRun :=
       { cause := cause, gross := r.tally.gross, net := r.tally.net, lastTemp := r.tally.lastTemp, flags := r.tally.flags
         jumps := r.tally.jumps
         meanRate := if r.sumInterval = 0 then r.tally.meter.lastRate.getD head.flow
           else r.sumVolume * 60 / (r.sumInterval * 1000)
         factorUsed := if r.sumVolume = 0 then head.factor else r.sumFactored / r.sumVolume
         vcf := vcfOf prod.beta (r.tally.lastTemp.getD prod.fallback), result := none }
     let sent : Byte → Binding → Byte → List Telegram := fun kind b value => (p.boundNode b).toList.map fun n =>
       { head := { dst := nodeOf n, cls := 1, src := 0, rsv := 0 }, kind := kind, payload := [value] }
     let lamp := if cause = .trip then sent 0x22 (.reader h) 4
       else if p.hoseTripped h then [] else sent 0x22 (.reader h) 0
     let orders := sent 0x21 (.valve h) 0 ++ lamp ++ (if (p.pump k).count = 1 then sent 0x20 (.starter k) 0 else [])
     q.hose h = { p.hose h with mode := .proving { ses with run := none, ended := ses.ended ++ [e] } } ∧
     (∀ j, j ≠ h → q.hose j = p.hose j) ∧
     q.pump k = { count := (p.pump k).count - 1, confirmed := (p.pump k).confirmed && (p.pump k).count != 1 } ∧
     (∀ j, j ≠ k → q.pump j = p.pump j) ∧
     q.tank k = { p.tank k with
       openHoses := (p.tank k).openHoses - 1
       loss := if (p.tank k).openHoses ≤ 1 then .none else (p.tank k).loss } ∧
     (∀ j, j ≠ k → q.tank j = p.tank j) ∧ q.fp = orders.foldl (fun x u => x.queueOrder u) p.fp ∧
     q.reserved = p.reserved - 1 ∧ q.machines = p.machines ∧ q.zones = p.zones ∧ q.devices = p.devices ∧
     q.records = p.records ++
       [{ serial := p.nextSerial, cause := cause.code, clockUnset := r.start.unset || p.clockUnset, flags := r.tally.flags
          hose := h.val + 1, tank := k.val + 1, product := i.val + 1, jumps := r.tally.jumps, slot := 0
          start := r.start.secs, ended := p.clock, tag := 0, hours := 0
          body := .prove r.tally.gross r.tally.net (ses.ended.length + 1) (r.tally.lastTemp.getD 0) }])

/-- R21, R60, R156 to R158: at the end of the drain window the hose places its FILL record in its reservation, the close
update is made, the machine's open hose is none, the tank's open-hose count falls, its loss window ending with the last
(R81), and the hose is IDLE, or OUT where pending out was set, with SET 0 to its valve and then LAMP off to its reader,
the lamp not in a TRIPPED zone (R5, R10). R60 to R63: what the close update does to a record: the fill count, then for a
FUEL fill that ended FULL what it learns, or that it does not learn, or that it is abnormal, for any other FUEL fill,
for a LUBE fill and for a COOLANT fill; an abnormal fill raises ABNORMAL_USE. -/
def Obligations.TheDrainWindowEndsWithAFillRecord : Prop :=
  (∀ (h : HoseNo) (cause : EndCause) (ended : Stamp) (txn : Transaction) (s : State),
     (s.hose h).mode = .fill (.closing cause ended) txn → ∃ (t : State) (rec : Record),
       exec (.drainWindowExpiry h) s = .next t ∧
       t.records = s.records ++ [rec] ∧ t.reserved = s.reserved - 1 ∧ rec.serial = s.nextSerial ∧
       rec.cause = cause.code ∧ rec.hose = h.val + 1 ∧ rec.tag = txn.tag ∧ rec.slot = txn.slot.val ∧
       rec.start = txn.start.secs ∧ rec.ended = ended.secs ∧ rec.clockUnset = (txn.start.unset || ended.unset) ∧
       rec.flags = txn.tally.flags ∧ rec.jumps = txn.tally.jumps ∧ rec.tank = txn.tank.val + 1 ∧
       rec.product = txn.product.val + 1 ∧ rec.hours = txn.hours.getD 4294967295 ∧
       rec.body = .fill txn.tally.gross txn.tally.net txn.cap (txn.tally.lastTemp.getD 0) ∧
       (t.hose h).mode = (if (s.hose h).pendingOut then .out else .idle) ∧ (t.hose h).pendingOut = false ∧
       (∀ j, j ≠ h → t.hose j = s.hose j) ∧
       (let closed := (s.machine txn.slot).close txn.cls txn.tally.net cause txn.hours
        t.machine txn.slot = { closed.1 with openHose := none } ∧
        (closed.2 = true → Notice.abnormalUse.isIn t.pendingNotices = true)) ∧
       (∀ j, j ≠ txn.slot → t.machine j = s.machine j) ∧
       t.tank txn.tank = { s.tank txn.tank with
         openHoses := (s.tank txn.tank).openHoses - 1
         loss := if (s.tank txn.tank).openHoses ≤ 1 then .none else (s.tank txn.tank).loss } ∧
       (∀ k, k ≠ txn.tank → t.tank k = s.tank k) ∧
       (let sent : Byte → Binding → List Telegram := fun kind b => (s.boundNode b).toList.map fun n =>
          { head := { dst := nodeOf n, cls := 1, src := 0, rsv := 0 }, kind := kind, payload := [0] }
        let orders := if (s.hose h).pendingOut then
            sent 0x21 (.valve h) ++ (if s.hoseTripped h then [] else sent 0x22 (.reader h))
          else []
        t.fp = orders.foldl (fun x u => x.queueOrder u) s.fp) ∧
       t.pumps = s.pumps ∧ t.zones = s.zones ∧ t.devices = s.devices) ∧
  (∀ (m : MachineRec) (net : Nat) (cause : EndCause) (hours : Option Nat),
     let one := { m with fillCount := min 65535 (m.fillCount + 1) }
     let fuelled := { one with lifetimeFuel := min 4294967295 (m.lifetimeFuel + net / 1000) }
     (cause ≠ .full → m.close .fuel net cause hours =
       ({ fuelled with addedSinceFull := min 4294967295 (m.addedSinceFull + net) }, false)) ∧
     (hours = none ∨ m.hoursAtFull = none ∨
         (∃ now full, hours = some now ∧ m.hoursAtFull = some full ∧ now < full + 20) →
       m.close .fuel net .full hours = ({ fuelled with addedSinceFull := 0, hoursAtFull := hours }, false)) ∧
     (∀ now full, hours = some now → m.hoursAtFull = some full → full + 20 ≤ now →
       let observed := (m.addedSinceFull + net) * 10 / (now - full)
       let learnt : Nat → MachineRec := fun rate => { fuelled with
         burnRate := rate, learnCount := min 255 (m.learnCount + 1), hoursAtFull := some now, addedSinceFull := 0 }
       (m.learnCount = 0 → m.close .fuel net .full hours = (learnt (min 2000000 observed), false)) ∧
       (4 ≤ m.learnCount → 3 * m.burnRate < 2 * observed →
         m.close .fuel net .full hours = ({ learnt m.burnRate with abnormal := true }, true)) ∧
       (m.learnCount ≠ 0 → m.learnCount < 4 ∨ 2 * observed ≤ 3 * m.burnRate →
         m.close .fuel net .full hours = (learnt (min 2000000 ((3 * m.burnRate + observed) / 4)), false))) ∧
     m.close .lube net cause hours =
       ({ one with lubeSinceService := min 65535 (m.lubeSinceService + (net + 999) / 1000) }, false) ∧
     m.close .coolant net cause hours = (one, false))

/-- R119, R120: the expiry of a bound node's period timer raises its score by 4, to no more than 128; while its state
stays, GOOD, DOUBTFUL or LOST, nothing else happens, and an unbound node has no timer (that a row for it then has no
effect is the model's choice, log 5). A telegram lowers the score by 1, to no less than 0, and sets the last kind,
whatever it carries and whoever owns the node; it takes a DOUBTFUL node from 32 to GOOD at 31 and a LOST one from 16 to
GOOD at 15, and changes no other health. R121, R123 to R125: what a GOOD node that becomes DOUBTFUL does by its pair, a
meter to an open fill and a gauge to its tank's windows; and a DOUBTFUL node that becomes LOST, by DEVICE_LOST first and
then its pair: a meter or a reader ends what its hose dispenses and a meter's baseline is absent, a starter stops its
tank's pumping, a gauge closes an OPEN inlet, and a sump sensor whose zone is set to it, or a stop station, raises
SENSOR_LOST (R96). -/
def Obligations.ASilentNodeLosesItsHealth : Prop :=
  (∀ (n : DevNo) (s : State),
     let score := (s.device n).score + 4
     let scored : Part → Part := modDevice n fun d => { d with score := min 128 score }
     ((s.device n).binding = .unbound → exec (.periodTimerExpiry n) s = .next s) ∧
     ((s.device n).binding ≠ .unbound →
       (s.device n).health = .good ∧ score < 32 ∨
         (s.device n).health = .doubtful ∧ 32 ≤ score ∧ score < 96 ∨ (s.device n).health = .lost ∧ 16 ≤ score →
       exec (.periodTimerExpiry n) s = .next (s.on scored))) ∧
  (∀ (n : DevNo) (b : Binding) (s : State), (s.device n).binding = b → b ≠ .unbound → (s.device n).health = .good →
     28 ≤ (s.device n).score → (s.device n).score ≤ 91 →
     let does : (Part → Part) → Prop := fun f => exec (.periodTimerExpiry n) s = .next (s.on fun p =>
       f (modDevice n (fun d => { d with score := d.score + 4, health := .doubtful }) p))
     match b with
     | .meter h => ∀ ph txn, ((s.hose h).mode = .fill ph txn → does (modHose h fun x => { x with mode := (.fill ph
         { txn with tally := { txn.tally with flags := { txn.tally.flags with meterDoubt := true } } }) })) ∧
         ((∀ ph txn, (s.hose h).mode ≠ .fill ph txn) → does id)
     | .gauge k => does (modTank k fun x => { x with
         rest := .none, loss := match x.loss with
           | .opened _ _ _ => .waiting
           | w => w })
     | _ => does id) ∧
  (∀ (n : DevNo) (b : Binding) (s : State), (s.device n).binding = b → b ≠ .unbound → (s.device n).health = .doubtful →
     92 ≤ (s.device n).score →
     let does : (Part → Part) → Prop := fun f => exec (.periodTimerExpiry n) s = .next (s.on fun p => f (raise .deviceLost
       (modDevice n (fun d => { d with score := min 128 (d.score + 4), health := .lost }) p)))
     let ends : HoseNo → EndCause → (Part → Part) → (Transaction → Transaction) → Prop := fun h cause first doubt =>
       ((s.hose h).mode = .idle ∨ (s.hose h).mode = .out ∨ (∃ ses, (s.hose h).mode = .proving ses ∧ ses.run = none) →
         does first) ∧
       (∀ ses run, (s.hose h).mode = .proving ses → ses.run = some run →
         does fun p => endRun h cause ses run (first p)) ∧
       (∀ ph txn, (s.hose h).mode = .fill ph txn →
         let marked : Part → Part := modHose h fun x => { x with mode := .fill ph (doubt txn) }
         ((s.hose h).mode.isClosing = true → does fun p => first (marked p)) ∧
         ((s.hose h).mode.isClosing = false → does fun p => enterClosing h cause (doubt txn) (first (marked p))))
     match b with
     | .meter h => ends h .meterLost (modHose h fun x => { x with baseline := none }) fun txn =>
         { txn with tally := { txn.tally with flags := { txn.tally.flags with meterDoubt := true } } }
     | .reader h => ends h .readerLost id id
     | .starter k => does (stopPumping k)
     | .gauge k => does fun p => closeInlet k .gauge (modTank k (fun x => { x with
         rest := .none, loss := match x.loss with
           | .opened _ _ _ => .waiting
           | w => w }) p)
     | .sump z => does (if (s.zone z).sensorTrips then tripSource .sensorLost z else id)
     | .estop (some z) => does (tripSource .sensorLost z)
     | .estop none => does fun p => tripSource .sensorLost 3 (tripSource .sensorLost 2 (tripSource .sensorLost 1
         (tripSource .sensorLost 0 p)))
     | .valve _ | .inlet _ | .unbound => does id) ∧
  (∀ (head : Header) (n : DevNo) (b : Binding) (other : Byte) (payload : List Byte) (s : State),
     deviceOf head.src = some n → s.Hears n b →
     ∀ row ∈ ([(.meterSample head payload, 0x10), (.levelReport head payload, 0x11), (.tagReport head payload, 0x12),
         (.sumpReport head payload, 0x13), (.estopReport head payload, 0x14), (.starterStatus head payload, 0x15),
         (.valveStatus head payload, 0x15), (.inletStatus head payload, 0x15), (.echoBack head payload, 0x24),
         (.fieldTelegramOther head other payload, other)] : List (Instr × Byte)),
       ∃ u : State, exec row.1 s = .next u ∧ (u.device n).score = (s.device n).score - 1 ∧
         (u.device n).lastKind = some row.2 ∧ (u.device n).binding = b ∧
         ((s.device n).health = .good → (u.device n).health = .good) ∧
         ((s.device n).health = .doubtful →
           (u.device n).health = if (s.device n).score = 32 then .good else .doubtful) ∧
         ((s.device n).health = .lost → (u.device n).health = if (s.device n).score = 16 then .good else .lost) ∧
         (∀ m, m ≠ n → u.device m = s.device m))

/-- R81: the settle timer's expiry settles an OPEN loss window, and has no effect on another. R84: at its expiry a rest
window is evaluated where a good reading has been taken, and the next one starts in the same event. That the row of a
timer that does not run has no effect is the model's choice (log 5). -/
def Obligations.SettleAndRestTimersActOnTheirWindows : Prop :=
  (∀ (k : TankNo) (s : State),
     (∀ g b, (s.tank k).loss = .opened g b false → exec (.settleTimerExpiry k) s =
       .next (s.on (modTank k fun x => { x with loss := .opened g b true }))) ∧
     ((s.tank k).loss = .none ∨ (s.tank k).loss = .waiting ∨ (s.tank k).loss = .spent →
       exec (.settleTimerExpiry k) s = .next s)) ∧
  (∀ (k : TankNo) (s : State),
     ((s.tank k).rest = .none → exec (.restWindowExpiry k) s = .next s) ∧
     (∀ (g net : Nat) (b : Int) (seen : Bool), (s.tank k).rest = .running g b seen → (s.tank k).gaugeNet = some net →
       exec (.restWindowExpiry k) s = .next (s.on fun p =>
         let q := modTank k (fun x => { x with rest := .running net x.book false }) p
         if seen = true ∧ (net : Int) - g < -((s.tank k).cfg.restThreshold * 1000 : Nat) then
           tripSource .restLoss (s.tank k).cfg.zone q
         else if seen = true ∧ (((s.tank k).cfg.restThreshold * 1000 : Nat) : Int) < (net : Int) - g then
           raise .restGain q
         else q)))

/-- R105: at the expiry of its recovery timer a zone in RECOVERY enters NORMAL where every tank of it in service is marked,
with its cause set and marks cleared; otherwise the timer stays expired. That the timer stays expired in the zone that has
entered NORMAL is the model's reading (log 19), and that the row of a timer that does not run has no effect its choice
(log 5). R173: a second
of the part's own time counts the bay clock on, from FFFFFFFFh back to 0; that it lowers the seconds left of a running
recovery timer, whose last second is ended by its expiry, is the model's choice (log 14). -/
def Obligations.RecoveryTimersAndTheBayClockCount : Prop :=
  (∀ (z : ZoneNo) (s : State),
     (∀ n, (s.zone z).timer = .running n → (s.zone z).state = .recovery →
       (∀ k, (s.tank k).cfg.zone = z → (s.tank k).state ≠ .outOfService → (s.zone z).marks.getLsbD k.val = true) →
       exec (.recoveryTimerExpiry z) s = .next (s.on fun p => syncLines
         (modZone z (fun x => { x with state := .normal, causes := 0, marks := 0, timer := .expired }) p))) ∧
     (∀ n k, (s.zone z).timer = .running n → (s.tank k).cfg.zone = z → (s.tank k).state ≠ .outOfService →
       (s.zone z).marks.getLsbD k.val = false →
       exec (.recoveryTimerExpiry z) s = .next (s.on (modZone z fun x => { x with timer := .expired }))) ∧
     ((s.zone z).timer = .stopped ∨ (s.zone z).timer = .expired → exec (.recoveryTimerExpiry z) s = .next s)) ∧
  (∀ s : State, ∃ t : State, exec .bayClockTick s = .next t ∧ t.clock = s.clock + 1 ∧ t.clockUnset = s.clockUnset ∧
     (∀ z n, (s.zone z).timer = .running n →
       t.zone z = { s.zone z with timer := .running (if n ≤ 1 then 1 else n - 1) }) ∧
     (∀ z, (∀ n, (s.zone z).timer ≠ .running n) → t.zone z = s.zone z) ∧
     t = { s with clock := t.clock, zones := t.zones })

/-! ## Zones and notices (R58, R93 to R104, R163 to R166) -/

/-- R99, R93, R101: a source taken for a zone that is not TRIPPED trips it: its record, the two lines, the end of what
its hoses dispense, the closing orders, the inlets of its deliveries, and its notice; the other zones keep their
records. The closing orders, SET 0 to its valves and then to its inlets, RUN 0 to its starters and LAMP trip to its
readers, are queued in that order at the field port; each is then the only telegram of its kind to its node that waits
there, and nothing that R101 bars goes on waiting at either port (log 36). R18 to R20, R181: each open fill of the zone
goes into CLOSING with cause TRIP, one in CLOSING keeps its end cause, and a run in progress ends with TRIP. That the
orders of one kind go by hose and tank number is the model's choice (log 37), and that an expired timer stays so through
a trip from NORMAL its reading (log 19). -/
def Obligations.ATripSourceTripsTheZone : Prop :=
  ∀ (c : Cause) (z : ZoneNo) (p : Part), (p.zone z).state ≠ .tripped →
    let q := tripSource c z p
    let orders : Byte → Byte → List Binding → List Telegram := fun kind value bs => bs.filterMap fun b =>
      (p.boundNode b).map fun n => { head := { dst := nodeOf n, cls := 1, src := 0, rsv := 0 }, kind := kind,
                                     payload := [value] }
    let hoses := hoseNos.filter fun h => p.hoseZone h == some z
    let tanks := tankNos.filter fun k => (p.tank k).cfg.zone == z
    let closing := orders 0x21 0 (hoses.map .valve) ++ orders 0x21 0 (tanks.map .inlet) ++
      orders 0x20 0 (tanks.map .starter) ++ orders 0x22 4 (hoses.map .reader)
    q.zone z = { p.zone z with
      state := .tripped, firstCause := c, firstTrip := ⟨p.clock, p.clockUnset⟩,
      causes := (p.zone z).causes ||| c.bit, tripCount := min 255 ((p.zone z).tripCount + 1),
      timer := if (p.zone z).state = .recovery then .stopped else (p.zone z).timer } ∧
    (∀ y, y ≠ z → q.zone y = p.zone y) ∧ q.shutdown = true ∧ q.bayAlarm = true ∧
    (∀ h, p.hoseZone h = some z → (q.hose h).mode.dispensing = false ∧ (q.hose h).mode.run = none) ∧
    (∀ h ph txn, p.hoseZone h = some z → (p.hose h).mode = .fill ph txn → q.hose h =
      if (p.hose h).mode.isClosing = true then p.hose h
      else { p.hose h with mode := (.fill (.closing .trip ⟨p.clock, p.clockUnset⟩)
        { txn with tally := { txn.tally with lastCode := 0, pumpWait := false } }) }) ∧
    (∀ h ses r, p.hoseZone h = some z → (p.hose h).mode = .proving ses → ses.run = some r →
      ∃ e : EndedRun, e.cause = .trip ∧ e.gross = r.tally.gross ∧ e.net = r.tally.net ∧
        q.hose h = { p.hose h with mode := .proving { ses with run := none, ended := ses.ended ++ [e] } }) ∧
    (∀ h, (p.hose h).mode.tally = none → q.hose h = p.hose h) ∧
    (∀ h, p.hoseZone h ≠ some z → q.hose h = p.hose h) ∧
    (∃ before : Port, q.fp = (closing.foldl (fun x u => x.queueOrder u) before).dropWaiting q.bars) ∧
    (∀ u ∈ q.fp.own, ∀ k ∈ closing, u.kind = k.kind → u.head.dst = k.head.dst → u = k) ∧
    (∀ u ∈ q.fp.forwarded, ∀ k ∈ closing, u.kind = k.kind → u.head.dst ≠ k.head.dst) ∧
    (∀ u, u ∈ q.up.own ∨ u ∈ q.up.forwarded ∨ u ∈ q.fp.own ∨ u ∈ q.fp.forwarded → q.bars u = false) ∧
    (∀ k d, (p.tank k).cfg.zone = z → (p.tank k).delivery = some d →
      (q.tank k).delivery = some { d with closed := some (d.closed.getD .trip) }) ∧
    (∀ k, (p.tank k).cfg.zone ≠ z → (q.tank k).delivery = (p.tank k).delivery) ∧
    (Notice.trip z).isIn q.pendingNotices = true ∧ q.machines = p.machines ∧ q.devices = p.devices

/-- R100: a source taken for a zone that is already TRIPPED adds its cause and raises the trip count, saturating at 255, and
nothing else changes: no state, no end request, no telegram, no notice. -/
def Obligations.ASourceInATrippedZoneOnlyCounts : Prop :=
  ∀ (c : Cause) (z : ZoneNo) (p : Part), (p.zone z).state = .tripped →
    tripSource c z p = { p with zones := setNth p.zones z { p.zone z with
      causes := (p.zone z).causes ||| c.bit, tripCount := min 255 ((p.zone z).tripCount + 1) } }

/-- R97: TRIP_ZONE raises COMMAND for the zone it names, or for the four zones in turn, in either bay mode and every zone
state, and is answered DONE after the source has been taken; a zone above 4 is answered BAD_INDEX. -/
def Obligations.TripZoneRaisesTheCommandSource : Prop :=
  ∀ (src : Node) (b : Byte) (s : State),
    (b = 0 → exec (.tripZone src (some b)) s = .next (s.answered src .done [] fun p =>
      tripSource .command 3 (tripSource .command 2 (tripSource .command 1 (tripSource .command 0 p))))) ∧
    (∀ z : ZoneNo, b.toNat = z.val + 1 → exec (.tripZone src (some b)) s =
      .next (s.answered src .done [] (tripSource .command z))) ∧
    (∀ z : ZoneNo, b.toNat = z.val + 1 → (s.zone z).state = .tripped → ∃ t : State,
      exec (.tripZone src (some b)) s = .next t ∧ t.zone z = { s.zone z with
        causes := (s.zone z).causes ||| 0x80, tripCount := min 255 ((s.zone z).tripCount + 1) }) ∧
    (4 < b.toNat → exec (.tripZone src (some b)) s = .next (s.answered src .badIndex [] id))

/-- R103: TRIP_RESET has no effect in NORMAL and RECOVERY, is answered CAUSE_PRESENT while a blocking condition holds, and
otherwise takes the TRIPPED zone into RECOVERY; a zone outside 1 to 4 is answered BAD_INDEX. R104, R108, R109: entering
RECOVERY starts the 30 s timer and clears the marks, leaves the causes, the first trip, the count and the notices, brings
SHUTDOWN down where no zone is left TRIPPED, and queues LAMP off to every bound reader of the zone and orders nothing else.
That those lamps go by hose number is the model's choice (log 37). -/
def Obligations.TripResetAsksForRecovery : Prop :=
  (∀ (src : Node) (b : Byte) (s : State),
     (b = 0 ∨ 4 < b.toNat → exec (.tripReset src (some b)) s = .next (s.answered src .badIndex [] id)) ∧
     (∀ z : ZoneNo, b.toNat = z.val + 1 →
       ((s.zone z).state ≠ .tripped → exec (.tripReset src (some b)) s = .next (s.answered src .done [] id)) ∧
       ((s.zone z).state = .tripped → s.ResetBlocked z →
         exec (.tripReset src (some b)) s = .next (s.answered src .causePresent [] id)) ∧
       ((s.zone z).state = .tripped → ¬s.ResetBlocked z →
         exec (.tripReset src (some b)) s = .next (s.answered src .done [] (enterRecovery z))))) ∧
  (∀ (z : ZoneNo) (p : Part),
     let q := enterRecovery z p
     q.zone z = { p.zone z with state := .recovery, timer := .running 30, marks := 0 } ∧
     (∀ y, y ≠ z → q.zone y = p.zone y) ∧ q.bayAlarm = true ∧
     (q.shutdown = true ↔ ∃ y, y ≠ z ∧ (p.zone y).state = .tripped) ∧
     (let readers := (hoseNos.filter fun h => p.hoseZone h == some z).filterMap fun h => p.boundNode (.reader h)
      q.fp = readers.foldl (fun x n => x.queueOrder
        { head := { dst := nodeOf n, cls := 1, src := 0, rsv := 0 }, kind := 0x22, payload := [0] }) p.fp) ∧
     (∀ u ∈ q.fp.own, u ∈ p.fp.own ∨ u.kind = 0x22 ∧ u.payload = [0]) ∧
     q = { p with zones := q.zones, shutdown := q.shutdown, bayAlarm := q.bayAlarm, fp := q.fp })

/-- R163, R166: raising a notice that is pending changes nothing; raising another makes it pending and, where it is not
masked, queues an ATTENTION to all nodes with the pending set and the top rank. -/
def Obligations.RaisingANoticeMakesItPendingOnce : Prop :=
  ∀ (n : Notice) (p : Part),
    (n.isIn p.pendingNotices = true → raise n p = p) ∧
    (n.isIn p.pendingNotices = false →
      let q := raise n p
      q.pendingNotices = p.pendingNotices ||| n.bit ∧
      (n.isIn p.noticeMask = true → q.up = p.up) ∧
      (n.isIn p.noticeMask = false → q.up = p.up.queueAttention
        { head := { dst := 63, cls := 3, src := p.up.node, rsv := 0 }, kind := 0x42,
          payload := bytes16 q.pendingNotices ++ [BitVec.ofNat 8 (topRank q.pendingNotices p.noticeMask)] }) ∧
      q.fp = p.fp ∧ q.zones = p.zones ∧ q.records = p.records ∧ q.noticeMask = p.noticeMask)

/-- R166: TOP_NOTICE returns the lowest rank that is pending and not masked, or 0, and changes nothing. -/
def Obligations.TopNoticeReturnsTheLowestUnmaskedRank : Prop :=
  ∀ (src : Node) (s : State), ∃ r : Nat, r ≤ 16 ∧
    exec (.topNotice src) s = .next (s.answered src .done [BitVec.ofNat 8 r] id) ∧
    (r = 0 → ∀ i, i < 16 → s.pendingNotices.getLsbD i = true → s.noticeMask.getLsbD i = true) ∧
    (r ≠ 0 → s.pendingNotices.getLsbD (r - 1) = true ∧ s.noticeMask.getLsbD (r - 1) = false ∧
      ∀ i, i < r - 1 → s.pendingNotices.getLsbD i = true → s.noticeMask.getLsbD i = true)

/-- R164, R165: NOTICE_READ returns the pending set before and after, and keeps only the trip notices of zones that are
TRIPPED, with the lines brought up to date; NOTICE_MASK replaces the masks, returns the old ones and moves no pending
flag. -/
def Obligations.NoticesAreReadAndMasked : Prop :=
  ∀ (src : Node) (w : Word) (s : State),
    (∃ after : Word, exec (.noticeRead src) s = .next (s.answered src .done (bytes16 s.pendingNotices ++ bytes16 after)
        fun p => syncLines { p with pendingNotices := after }) ∧
      (∀ z : ZoneNo, (Notice.trip z).isIn after =
        ((Notice.trip z).isIn s.pendingNotices && decide ((s.zone z).state = .tripped))) ∧
      (∀ i, 4 ≤ i → after.getLsbD i = false)) ∧
    exec (.noticeMask src (some w)) s = .next (s.answered src .done (bytes16 s.noticeMask)
      fun p => { p with noticeMask := w })

/-! ## Tanks and deliveries by command (R70, R71, R79, R85, R89) -/

/-- R79, R80: STOCK_SET's checks in their order, and the book, the ADJUST record, the low flag and the windows after an
accepted one. -/
def Obligations.StockSetPutsTheBookAndRecordsIt : Prop :=
  ∀ (src : Node) (b : Byte) (t : TankNo) (ml : Long) (s : State), b.toNat = t.val + 1 →
    let x := s.tank t
    (x.cfg.capacity * 1000 < ml.toNat → exec (.stockSet src (some (b, ml))) s = .next (s.answered src .badValue [] id)) ∧
    (ml.toNat ≤ x.cfg.capacity * 1000 → x.state = .receiving →
      exec (.stockSet src (some (b, ml))) s = .next (s.answered src .inUse [] id)) ∧
    (ml.toNat ≤ x.cfg.capacity * 1000 → x.state = .inService → s.bayMode = .run →
      exec (.stockSet src (some (b, ml))) s = .next (s.answered src .refusedMode [] id)) ∧
    (ml.toNat ≤ x.cfg.capacity * 1000 → x.state = .outOfService ∨ x.state = .inService ∧ s.bayMode = .layUp →
      (64 ≤ s.records.length + s.reserved →
        exec (.stockSet src (some (b, ml))) s = .next (s.answered src .queueFull [] id)) ∧
      (s.records.length + s.reserved < 64 → ∃ (u : State) (rec : Record),
        exec (.stockSet src (some (b, ml))) s = .next u ∧
        u.tank t = { x with
          setPoint := ml.toNat, totals := {}, book := ml.toNat,
          low := decide (ml.toNat ≤ x.cfg.lowCutoff * 1000), rest := .none,
          loss := match x.loss with
            | .opened _ _ _ => .waiting
            | w => w } ∧
        u.records = s.records ++ [rec] ∧ u.reserved = s.reserved ∧ rec.serial = s.nextSerial ∧ rec.cause = 0 ∧
        rec.tank = t.val + 1 ∧ rec.product = (match x.cfg.product with
          | some i => i.val + 1
          | none => 0) ∧
        rec.body = .adjust x.book ml.toNat ∧ rec.start = s.clock ∧ rec.ended = s.clock ∧
        rec.clockUnset = s.clockUnset ∧ (∀ k, k ≠ t → u.tank k = s.tank k) ∧ u.zones = s.zones ∧
        u.machines = s.machines ∧ u.devices = s.devices))

/-- R85: DELIVERY_START answers its checks in their order, BAD_VALUE, IN_USE, REFUSED_MODE and QUEUE_FULL, with no effect;
with every check met it reserves a place, opens the delivery with the gauge's net and queues SET 15 to the inlet. R89, R80:
DELIVERY_END queues SET 0 to an inlet still OPEN, books end gauge less start gauge plus outflow, makes the low-stock test on
the new book, places the DELIVERY record, and returns the tank to service; a tank that is not RECEIVING is answered
REFUSED_MODE. -/
def Obligations.DeliveriesOpenAndEndByCommand : Prop :=
  (∀ (src : Node) (b : Byte) (t : TankNo) (litres : Word) (s : State), b.toNat = t.val + 1 →
     let x := s.tank t
     let refused : Status → Prop := fun st =>
       exec (.deliveryStart src (some (b, litres))) s = .next (s.answered src st [] id)
     (litres = 0 ∨ x.cfg.capacity < litres.toNat → refused .badValue) ∧
     (litres ≠ 0 → litres.toNat ≤ x.cfg.capacity →
       (s.boundNode (.gauge t) = none ∨ s.boundNode (.inlet t) = none → refused .badValue) ∧
       (∀ n, (s.boundNode (.gauge t)).isSome = true → s.boundNode (.inlet t) = some n →
         (x.state = .receiving → refused .inUse) ∧
         (x.state = .outOfService → refused .refusedMode) ∧
         (x.state = .inService →
           (s.roleGood (.gauge t) = false ∨ x.gaugeHeld = true ∨ x.gaugeNet = none ∨
               (∀ level, x.lastLevel = some level → x.cfg.highHigh ≤ level) ∨ (s.zone x.cfg.zone).state ≠ .normal →
             refused .refusedMode) ∧
           (∀ net level, s.roleGood (.gauge t) = true → x.gaugeHeld = false → x.gaugeNet = some net →
             x.lastLevel = some level → level < x.cfg.highHigh → (s.zone x.cfg.zone).state = .normal →
             (64 ≤ s.records.length + s.reserved → refused .queueFull) ∧
             (s.records.length + s.reserved < 64 →
               exec (.deliveryStart src (some (b, litres))) s = .next (s.answered src .done [] fun p =>
                 { p with
                   reserved := p.reserved + 1
                   tanks := setNth p.tanks t { p.tank t with
                     state := .receiving
                     delivery := some { declared := litres.toNat, startGauge := net, start := ⟨p.clock, p.clockUnset⟩,
                                        outflow := 0, closed := none }
                     loss := match (p.tank t).loss with
                       | .opened _ _ _ => .waiting
                       | w => w
                     rest := .none }
                   fp := p.fp.queueOrder { head := { dst := nodeOf n, cls := 1, src := 0, rsv := 0 }, kind := 0x21,
                                           payload := [15] } }))))))) ∧
  (∀ (src : Node) (b : Byte) (t : TankNo) (s : State), b.toNat = t.val + 1 →
     ((s.tank t).state ≠ .receiving → exec (.deliveryEnd src (some b)) s = .next (s.answered src .refusedMode [] id)) ∧
     (∀ (d : Delivery) (net : Nat), (s.tank t).state = .receiving → (s.tank t).delivery = some d →
       (s.tank t).gaugeNet = some net → ∃ (u : State) (rec : Record),
       let received : Int := (net : Int) - d.startGauge + d.outflow
       let free : Int := (s.tank t).book + received - ((s.tank t).cfg.lowCutoff * 1000 : Nat)
       exec (.deliveryEnd src (some b)) s = .next u ∧
       (u.tank t).state = .inService ∧ (u.tank t).delivery = none ∧ (u.tank t).book = (s.tank t).book + received ∧
       (∀ k, k ≠ t → u.tank k = s.tank k) ∧
       (u.tank t).low = decide (free ≤ 0) ∧
       (free ≤ 0 → ((s.tank t).low = false → (Notice.tankLow).isIn u.pendingNotices = true) ∧
         ∀ h ph txn, (s.hose h).cfg.tank = some t → (s.hose h).mode = .fill ph txn → (s.hose h).mode.isClosing = false →
           ∃ txn', (u.hose h).mode = .fill (.closing .tankLow ⟨s.clock, s.clockUnset⟩) txn') ∧
       (∀ h, 0 < free ∨ (s.hose h).cfg.tank ≠ some t ∨ (s.hose h).mode.dispensing = false → u.hose h = s.hose h) ∧
       (∀ n, s.boundNode (.inlet t) = some n →
         (d.closed = none → s.fp.own.length ≤ 31 →
           { head := { dst := nodeOf n, cls := 1, src := 0, rsv := 0 }, kind := 0x21, payload := [0] } ∈ u.fp.own) ∧
         (d.closed ≠ none → ∀ x ∈ u.fp.own, x.kind = 0x21 → x.head.dst = nodeOf n → x ∈ s.fp.own)) ∧
       u.records = s.records ++ [rec] ∧ u.reserved = s.reserved - 1 ∧ rec.serial = s.nextSerial ∧
       rec.tank = t.val + 1 ∧ rec.start = d.start.secs ∧ rec.ended = s.clock ∧
       rec.cause = (match d.closed with
         | none => 20
         | some .trip => 9
         | some .restart => 11
         | some .deliveryEnd => 20
         | some .highHigh => 21
         | some .gauge => 22) ∧
       rec.body = .delivery d.declared d.startGauge net received ∧
       (((d.declared * (s.tank t).cfg.tolerance : Nat) : Int) < |received - d.declared * 1000| →
         Notice.deliveryVariance.isIn u.pendingNotices = true)))

/-- R70, R71: TANK_SERVICE in and out by the tank's state, the five checks and the open-hose count: a product of a
class, at least 2 strapping points of which the first level is 0, the levels increase and the volumes do not decrease, a
capacity above 0 and not below the last volume, a high-high level above 0 and not above the last level, and a bound
gauge; else BAD_VALUE. R105: where the tank's zone is in RECOVERY, a tank that goes into or out of service has the
zone's recovery test made again: with the timer expired and every tank then in service marked, the zone enters NORMAL,
and else it stays (that the timer stays expired in NORMAL is the model's reading, log 19). R3 to R5: HOSE_SERVICE out by
the hose's state, and in by its checks. -/
def Obligations.TankAndHoseServiceMoveInAndOut : Prop :=
  (∀ (src : Node) (b : Byte) (t : TankNo) (s : State), b.toNat = t.val + 1 →
     let x := s.tank t
     (x.state ≠ .outOfService → exec (.tankServiceIn src b) s = .next (s.answered src .done [] id)) ∧
     (x.state = .outOfService →
       let table := x.cfg.straps.toList.take x.cfg.strapCount
       let fit := (∃ i, x.cfg.product = some i ∧ (s.product i).cls ≠ .none) ∧
         2 ≤ table.length ∧ (∀ first ∈ table.head?, first.level = 0) ∧
         table.Pairwise (fun lo hi => lo.level < hi.level ∧ lo.volume ≤ hi.volume) ∧
         0 < x.cfg.capacity ∧ (∀ last ∈ table.getLast?, last.volume ≤ x.cfg.capacity ∧ x.cfg.highHigh ≤ last.level) ∧
         0 < x.cfg.highHigh ∧ (s.boundNode (.gauge t)).isSome = true
       (¬fit → exec (.tankServiceIn src b) s = .next (s.answered src .badValue [] id)) ∧
       (fit → ∃ u : State, exec (.tankServiceIn src b) s = .next u ∧
         u.tank t = { x with state := .inService, low := decide (x.book ≤ (x.cfg.lowCutoff * 1000 : Nat)) } ∧
         (∀ k, k ≠ t → u.tank k = s.tank k) ∧ u.records = s.records ∧ u.machines = s.machines ∧
         (let z := x.cfg.zone
          let ready := (s.zone z).state = .recovery ∧ (s.zone z).timer = .expired ∧
            ∀ k, (s.tank k).cfg.zone = z → k = t ∨ (s.tank k).state ≠ .outOfService →
              (s.zone z).marks.getLsbD k.val = true
          (ready → u.zone z = { s.zone z with state := .normal, causes := 0, marks := 0 } ∧
            ∀ y, y ≠ z → u.zone y = s.zone y) ∧
          (¬ready → u.zones = s.zones)))) ∧
     (x.state = .outOfService → exec (.tankServiceOut src (some (b, 0))) s = .next (s.answered src .done [] id)) ∧
     (x.state = .receiving ∨ x.state = .inService ∧ 0 < x.openHoses →
       exec (.tankServiceOut src (some (b, 0))) s = .next (s.answered src .inUse [] id)) ∧
     (x.state = .inService → x.openHoses = 0 → (s.zone x.cfg.zone).state ≠ .recovery →
       exec (.tankServiceOut src (some (b, 0))) s = .next (s.answered src .done []
         (modTank t fun y => { y with state := .outOfService, loss := .none, rest := .none }))) ∧
     (x.state = .inService → x.openHoses = 0 → (s.zone x.cfg.zone).state = .recovery →
       let out : Part → Part := modTank t fun y => { y with state := .outOfService, loss := .none, rest := .none }
       let ready := (s.zone x.cfg.zone).timer = .expired ∧
         ∀ k, k ≠ t → (s.tank k).cfg.zone = x.cfg.zone → (s.tank k).state ≠ .outOfService →
           (s.zone x.cfg.zone).marks.getLsbD k.val = true
       (ready → exec (.tankServiceOut src (some (b, 0))) s = .next (s.answered src .done [] fun p =>
         syncLines (modZone x.cfg.zone (fun z => { z with state := .normal, causes := 0, marks := 0 }) (out p)))) ∧
       (¬ready → exec (.tankServiceOut src (some (b, 0))) s = .next (s.answered src .done [] out)))) ∧
  (∀ (src : Node) (b : Byte) (h : HoseNo) (s : State), b.toNat = h.val + 1 →
     let x := s.hose h
     (x.mode = .idle → exec (.hoseServiceOut src (some (b, 0))) s = .next (s.answered src .done [] fun p =>
       sendLamp h 0 (sendValve h 0 (modHose h (fun y => { y with mode := .out }) p)))) ∧
     (∀ cause ended txn, x.mode = .fill (.closing cause ended) txn →
       exec (.hoseServiceOut src (some (b, 0))) s = .next (s.answered src .done []
         (modHose h fun y => { y with pendingOut := true }))) ∧
     (∀ ph txn, x.mode = .fill ph txn → x.mode.isClosing = false →
       exec (.hoseServiceOut src (some (b, 0))) s = .next (s.answered src .done [] fun p =>
         modHose h (fun y => { y with pendingOut := true }) (enterClosing h .hoseOut txn p))) ∧
     (x.mode = .out → exec (.hoseServiceOut src (some (b, 0))) s = .next (s.answered src .done [] id)) ∧
     (∀ ses, x.mode = .proving ses →
       exec (.hoseServiceOut src (some (b, 0))) s = .next (s.answered src .refusedMode [] id) ∧
       exec (.hoseServiceIn src b) s = .next (s.answered src .refusedMode [] id)) ∧
     (x.mode ≠ .out → (∀ ses, x.mode ≠ .proving ses) →
       exec (.hoseServiceIn src b) s = .next (s.answered src .done [] id)) ∧
     (x.mode = .out →
       let fit := x.cfg.tank.isSome = true ∧ (s.boundNode (.meter h)).isSome = true ∧
         (s.boundNode (.reader h)).isSome = true ∧ (s.boundNode (.valve h)).isSome = true ∧ 1 ≤ x.cfg.pulseWeight ∧
         curveOk x.cfg.curve = true
       (fit → exec (.hoseServiceIn src b) s = .next (s.answered src .done [] fun p =>
         sendLamp h 0 (modHose h (fun y => { y with mode := .idle, uncoupled := 0, uncoupledRaised := false,
                                                    pendingOut := false }) p))) ∧
       (¬fit → exec (.hoseServiceIn src b) s = .next (s.answered src .badValue [] id))))

/-! ## Machines, profiles, records and the responder (R49, R58, R64, R138, R142, R161, R167 to R174) -/

/-- R49, R64, R167: MACHINE_STATE and SERVICE_DONE on a slot that holds a machine, and BAD_INDEX on an empty or absent one;
that a bad slot is answered before a bad state or figure is the model's choice (log 30). -/
def Obligations.MachinesAreBarredOpenedAndServiced : Prop :=
  ∀ (src : Node) (w : Word) (hours : Long) (s : State),
    (∀ m : SlotNo, w.toNat = m.val → (s.machine m).tag ≠ 0 →
      exec (.machineStateBarred src w) s = .next (s.answered src .done []
        (modMachine m fun x => { x with state := .barred })) ∧
      exec (.machineStateOpen src (some (w, 0))) s = .next (s.answered src .done []
        (modMachine m fun x => { x with state := .opened, doubt := 0, abnormal := false })) ∧
      (hours ≠ 0xFFFFFFFF → exec (.serviceDone src (some (w, hours))) s = .next (s.answered src .done []
        (modMachine m fun x => { x with hoursAtService := some hours.toNat, lubeSinceService := 0, hold := false }))) ∧
      (∀ b : Byte, 1 < b.toNat →
        exec (.machineStateOpen src (some (w, b))) s = .next (s.answered src .badValue [] id)) ∧
      exec (.serviceDone src (some (w, 0xFFFFFFFF))) s = .next (s.answered src .badValue [] id)) ∧
    (1024 ≤ w.toNat ∨ (∃ m : SlotNo, w.toNat = m.val ∧ (s.machine m).tag = 0) →
      exec (.machineStateBarred src w) s = .next (s.answered src .badIndex [] id) ∧
      (∀ b, exec (.machineStateOpen src (some (w, b))) s = .next (s.answered src .badIndex [] id)) ∧
      exec (.serviceDone src (some (w, hours))) s = .next (s.answered src .badIndex [] id))

/-- R161, R160: TAKE removes the head record only under its own serial, and every reply carries the head's serial, the
queued count and the reservation count after the command. -/
def Obligations.TakeRemovesTheHeadUnderItsSerial : Prop :=
  ∀ (src : Node) (w : Word) (s : State),
    let report : List Record → List Byte := fun rs =>
      bytes16 (match rs with
        | r :: _ => BitVec.ofNat 16 r.serial
        | [] => 0) ++ [BitVec.ofNat 8 rs.length, BitVec.ofNat 8 s.reserved]
    (s.records = [] → exec (.take src (some w)) s = .next (s.answered src .empty (report []) id)) ∧
    (∀ r rest, s.records = r :: rest → BitVec.ofNat 16 r.serial ≠ w →
      exec (.take src (some w)) s = .next (s.answered src .badValue (report s.records) id)) ∧
    (∀ r rest, s.records = r :: rest → BitVec.ofNat 16 r.serial = w → s.cursor.sel ≠ .recordHead →
      exec (.take src (some w)) s = .next (s.answered src .done (report rest) fun p => { p with records := rest })) ∧
    (∀ r rest, s.records = r :: rest → BitVec.ofNat 16 r.serial = w → s.cursor.sel = .recordHead →
      exec (.take src (some w)) s = .next (s.answered src .done (report rest) fun p =>
        { p with records := rest, cursor := { p.cursor with offset := 0 } }))

/-- R58: what the PROFILE line, PROFILE and PROFILE_SOURCE do under each profile source; a switch copies the profile as it
stands and changes nothing else. That a PROFILE above 1 is answered BAD_VALUE also while the source is LINE is the model's
choice (log 30). -/
def Obligations.ProfileSwitchesFollowTheSource : Prop :=
  ∀ (src : Node) (b : Byte) (high : Bool) (s : State),
    let letter : Bool → Letter := fun x => if x then .b else .a
    let put : Letter → Part → Part := fun l p =>
      { p with letter := l, current := match l with
        | .a => p.profileA
        | .b => p.profileB }
    (high ≠ s.profileHigh → s.source = .line → exec (.profileLineChange high) s =
      .next (s.on fun p => put (letter high) { p with profileHigh := high })) ∧
    (high ≠ s.profileHigh → s.source = .command → exec (.profileLineChange high) s =
      .next { s with profileHigh := high }) ∧
    (b.toNat ≤ 1 → s.source = .line →
      exec (.profile src (some b)) s = .next (s.answered src .refusedMode [] id)) ∧
    (b.toNat ≤ 1 → s.source = .command →
      exec (.profile src (some b)) s = .next (s.answered src .done [] (put (letter (b == 1))))) ∧
    exec (.profileSource src (some 0)) s = .next (s.answered src .done [] fun p =>
      put (letter s.profileHigh) { p with source := .line }) ∧
    exec (.profileSource src (some 1)) s = .next (s.answered src .done [] fun p => { p with source := .command }) ∧
    (1 < b.toNat → exec (.profile src (some b)) s = .next (s.answered src .badValue [] id) ∧
      exec (.profileSource src (some b)) s = .next (s.answered src .badValue [] id))

/-- R172, R186: BAY_MODE sets the mode, stopping a line test on the way from LAY_UP to RUN, and its reply carries the part's
state after the change; FFh only reads. R173, R167: CLOCK_SET sets the clock and clears the clock-unset flag; a COMMAND of
no listed code is answered UNKNOWN. R138, R174: LINE_RATE takes effect at once on a field port that neither receives nor
sends, waits for the telegram in progress otherwise, has no effect for the rate in force (nor, by the model's reading, on a
rate that waits, log 15), and takes codes 0 to 3 alone.
R142, R174: COUNTER_SELECT sets a port's selection and zeroes its count, COUNTER_READ returns the count, its own COMMAND
included, and zeroes it. -/
def Obligations.ModeClockRateAndPortCountersAreSet : Prop :=
  (∀ (src : Node) (s : State),
     let report : BayMode → List Byte := fun m =>
       [if m = .layUp then 1 else 0, if s.letter = .b then 1 else 0, if s.source = .command then 1 else 0,
        if s.profileHigh then 1 else 0, s.up.node.setWidth 8, if s.clockUnset then 1 else 0] ++ bytes32 s.clock
     exec (.bayMode src (some 1)) s = .next (s.answered src .done (report .layUp) fun p => { p with bayMode := .layUp }) ∧
     (∀ b : Byte, 1 < b.toNat → b ≠ 0xFF → exec (.bayMode src (some b)) s = .next (s.answered src .badValue [] id)) ∧
     exec (.bayMode src (some 0xFF)) s = .next (s.answered src .done (report s.bayMode) id) ∧
     (s.bayMode = .run ∨ s.test = none → exec (.bayMode src (some 0)) s =
       .next (s.answered src .done (report .run) fun p => { p with bayMode := .run })) ∧
     (∀ t, s.bayMode = .layUp → s.test = some t → exec (.bayMode src (some 0)) s =
       .next (s.answered src .done (report .run) fun p =>
         { raise .lineTestDone (stopTest p) with bayMode := .run }))) ∧
  (∀ (src : Node) (w : Long) (s : State),
     exec (.clockSet src (some w)) s = .next (s.answered src .done [] fun p => { p with clock := w, clockUnset := false }) ∧
     exec (.commandUnknown src) s = .next (s.answered src .unknown [] id)) ∧
  (∀ (src : Node) (b : Byte) (s : State),
     (3 < b.toNat → exec (.lineRate src (some b)) s = .next (s.answered src .badValue [] id)) ∧
     (b.toNat ≤ 3 → b.toNat = s.fp.rate.toNat →
       exec (.lineRate src (some b)) s = .next (s.answered src .done [] id)) ∧
     (b.toNat ≤ 3 → b.toNat ≠ s.fp.rate.toNat → s.fp.rx.isReceiving = false → s.fp.flight = none →
       exec (.lineRate src (some b)) s = .next (s.answered src .done [] fun p =>
         { p with fp := { p.fp with rate := b.setWidth 2, nextRate := none, rx := .idleWait } })) ∧
     (b.toNat ≤ 3 → b.toNat ≠ s.fp.rate.toNat → s.fp.rx.isReceiving = true ∨ s.fp.flight ≠ none →
       exec (.lineRate src (some b)) s = .next (s.answered src .done [] fun p =>
         { p with fp := { p.fp with nextRate := some (b.setWidth 2) } }))) ∧
  (∀ (src : Node) (e : PortEvent) (q : PortId) (s : State),
     let port : Byte := match q with
       | .up => 0
       | .fp => 1
     exec (.counterSelect src (some (port, BitVec.ofNat 8 e.code))) s = .next (s.answered src .done []
       (modPort q fun x => { x with select := e, count := 0 })) ∧
     exec (.counterRead src (some port)) s = .next (s.answered src .done
       [BitVec.ofNat 8 (if q = .up ∧ s.up.select = .consumed then min 255 (s.up.count + 1) else (s.port q).count),
        BitVec.ofNat 8 (s.port q).select.code] (modPort q fun x => { x with count := 0 })))

/-! ## The table window (R168 to R171) -/

/-- R168, R177: every entry has the number of words its table gives, whatever it holds. R168: a WINDOW that names an
entry of a table puts the cursor on the entry's first word, keeps the present lower words (those of the fields that can
be written, by the model's choice, log 23), and answers the number of words; an entry outside its table is answered
BAD_INDEX and a table above 10 BAD_VALUE, with the cursor as it was. STEP_MODE sets the mode alone, and refuses a mode
above 2. -/
def Obligations.TheWindowSelectsAnEntryOfItsTablesWords : Prop :=
  (∀ (sel : Selection) (p : Part), (cells sel p).length = sel.words) ∧
  (∀ (src : Node) (table : Byte) (entry : Word) (s : State),
     let selects : Selection → Nat → Prop := fun sel words =>
       exec (.window src (some (table, entry))) s = .next (s.answered src .done [BitVec.ofNat 8 words] fun p =>
         { p with cursor := { p.cursor with sel := sel, offset := 0, kept := keptWords sel p } })
     let refused : Status → Prop := fun st =>
       exec (.window src (some (table, entry))) s = .next (s.answered src st [] id)
     (∀ m : SlotNo, table = 0 → entry.toNat = m.val → selects (.machine m) 29) ∧
     (∀ h : HoseNo, table = 1 → entry.toNat = h.val + 1 → selects (.hose h) 71) ∧
     (∀ t : TankNo, table = 2 → entry.toNat = t.val + 1 → selects (.tank t) 43) ∧
     (∀ t : TankNo, table = 3 → entry.toNat = t.val + 1 → selects (.strap t) 97) ∧
     (∀ i : ProductNo, table = 4 → entry.toNat = i.val + 1 → selects (.product i) 4) ∧
     (∀ n : DevNo, table = 5 → entry.toNat = n.val + 1 → selects (.device n) 5) ∧
     (∀ r : RuleNo, table = 6 → entry.toNat = r.val → selects (.rule r) 5) ∧
     (table = 6 → entry = 32 → selects .filter 4) ∧
     (table = 7 → entry = 0 → selects .profileA 6) ∧
     (table = 8 → entry = 0 → selects .profileB 6) ∧
     (table = 9 → entry = 0 → selects .recordHead 24) ∧
     (∀ z : ZoneNo, table = 10 → entry.toNat = z.val + 1 → selects (.zone z) 9) ∧
     (10 < table.toNat → refused .badValue) ∧
     (table = 0 ∧ 1024 ≤ entry.toNat ∨ (table = 1 ∨ table = 4) ∧ (entry = 0 ∨ 8 < entry.toNat) ∨
       (table = 2 ∨ table = 3) ∧ (entry = 0 ∨ 6 < entry.toNat) ∨ table = 5 ∧ (entry = 0 ∨ 62 < entry.toNat) ∨
       table = 6 ∧ 32 < entry.toNat ∨ (table = 7 ∨ table = 8 ∨ table = 9) ∧ entry ≠ 0 ∨
       table = 10 ∧ (entry = 0 ∨ 4 < entry.toNat) → refused .badIndex) ∧
     (exec (.stepMode src (some 0)) s = .next (s.answered src .done [] fun p =>
       { p with cursor := { p.cursor with mode := .hold } })) ∧
     (exec (.stepMode src (some 1)) s = .next (s.answered src .done [] fun p =>
       { p with cursor := { p.cursor with mode := .step } })) ∧
     (exec (.stepMode src (some 2)) s = .next (s.answered src .done [] fun p =>
       { p with cursor := { p.cursor with mode := .stepOnWrite } })) ∧
     (2 < table.toNat → exec (.stepMode src (some table)) s = .next (s.answered src .badValue [] id)))

/-- R169, R160: READ returns up to n words from the offset, stops at the entry's last word, sets the end flag where that
word is among them, and in STEP mode moves the offset by what it returned, to no further than the last word. An n of 0
or above 5 is answered BAD_VALUE, and a READ of RECORD_HEAD with no record queued EMPTY, neither with an effect; that n
is looked at first is the model's choice (log 38), that both replies carry the status byte alone its reading (log 28),
and that bits 1 to 7 of the flags byte are sent as 0 its choice (log 41). R177, R159: what every word of every entry
reads, by the table layouts, a field that is none or absent as FFFFh, or FFFFFFFFh for two words, the open-transaction
words of a hose with none as 0, and the head record by the record layout. R75: book and set-point are shown as the
nearest signed 32-bit figure. The model's choices and readings in this: bits to which R177 gives no field read 0 (log
23); a total or a received figure outside the signed 32-bit range, and a point's flow above 65,535, are not said (logs
7, 8); the coding of one-byte parts that are none, of a tank's words 36 to 41 with no delivery, and of the flags in HOSE
word 68 (log 27); and that a DEVICE entry shows no sensor's last report and no period timer (log 42). -/
def Obligations.ReadReturnsWordsUpToTheEntrysEnd : Prop :=
  (∀ (src : Node) (n : Byte) (s : State),
     let c := s.cursor
     let k := min n.toNat (c.sel.words - c.offset)
     (1 ≤ n.toNat → n.toNat ≤ 5 → s.CursorInside → (c.sel = .recordHead → s.records ≠ []) →
       exec (.read src (some n)) s = .next (s.answered src .done
         ((if c.offset + k = c.sel.words then 1 else 0) ::
           (List.range k).flatMap fun i => bytes16 (readWord c.sel (c.offset + i) (consumeUp s.toPart)))
         fun p => if c.mode = .step then
           { p with cursor := { c with offset := min (c.offset + k) (c.sel.words - 1) } } else p)) ∧
     (n = 0 ∨ 5 < n.toNat → exec (.read src (some n)) s = .next (s.answered src .badValue [] id)) ∧
     (1 ≤ n.toNat → n.toNat ≤ 5 → c.sel = .recordHead → s.records = [] →
       exec (.read src (some n)) s = .next (s.answered src .empty [] id))) ∧
  (let reads : Selection → Part → List Word := fun sel p => (List.range sel.words).map fun k => readWord sel k p
   let one : Nat → List Word := fun n => [BitVec.ofNat 16 n]
   let two : Nat → List Word := fun n => [BitVec.ofNat 16 n, BitVec.ofNat 16 (n / 65536)]
   let bit : Bool → Nat → Nat := fun b k => if b then 2 ^ k else 0
   let no : Option Nat → Nat := fun x => x.getD 0
   let word : Option Nat → Nat := fun x => x.getD 65535
   let long : Option Nat → Nat := fun x => x.getD 4294967295
   let temp : Option Int → Nat := fun x => match x with
     | some v => (v % 65536).toNat
     | none => 65535
   let signed : Int → Nat := fun v => (v % 4294967296).toNat
   let nearest : Int → Nat := fun v => signed (max (-2147483648) (min v 2147483647))
   let node : Binding → Part → Nat := fun b p => no ((p.boundNode b).map (·.val + 1))
   let report : ValveReport → Nat := fun r => match r with
     | .code n => n
     | .fault => 254
     | .none => 255
   let flags : Flags → Nat := fun f => bit f.tempSubstituted 1 + bit f.hoursDoubt 2 + bit f.meterDoubt 3 +
     bit f.tapered 4 + bit f.recoveryCap 5 + bit f.tankLimited 6 + bit f.profileB 7
   let causeCode : CloseCause → Nat := fun c => match c with
     | .trip => 9
     | .restart => 11
     | .deliveryEnd => 20
     | .highHigh => 21
     | .gauge => 22
   ∃ (total : Int → Nat) (flow : Nat → Nat),
   (∀ v, -2147483648 ≤ v → v ≤ 2147483647 → total v = signed v) ∧ (∀ n, n ≤ 65535 → flow n = n) ∧
   (∀ (m : SlotNo) (p : Part),
     let x := p.machine m
     reads (.machine m) p =
       two x.tag.toNat ++
       one (bit (x.state == .barred) 0 + bit x.hold 1 + 256 * no (x.openHose.map (·.val + 1))) ++
       one (x.doubt + bit x.abnormal 15) ++ ((List.finRange 8).map fun i => BitVec.ofNat 16 (nth x.allowances i)) ++
       two x.burnRate ++ one x.learnCount ++ two (long x.lastHours) ++ two (long x.hoursAtFull) ++ two x.addedSinceFull ++
       two (long x.hoursAtService) ++ one x.serviceInterval ++ one x.lubeSinceService ++ one x.lubeLimit ++
       two x.lifetimeFuel ++ one x.fillCount) ∧
   (∀ (h : HoseNo) (p : Part),
     let x := p.hose h
     let c := x.cfg
     let course : List Word := match x.mode with
       | .idle => one 0
       | .fill .ready _ => one (256 * 1)
       | .fill .flowing _ => one (256 * 2)
       | .fill .paused _ => one (256 * 3)
       | .fill (.closing _ _) _ => one (256 * 4)
       | .out => one (1 + 256 * 5)
       | .proving _ => one (2 + 256 * 6)
     let figures : Tally → Nat → List Word := fun y cap =>
       two y.gross ++ two y.net ++ one (word (y.meter.lastRate.map fun r => min r 65534)) ++ one (temp y.lastTemp) ++
       one (y.jumps + 256 * flags y.flags) ++ two cap
     let nozzle : Nat := match x.nozzle with
       | .holstered => 0
       | .lifted => 1
       | .coupled => 2
       | .coupledShut => 3
     reads (.hose h) p =
       course ++ one (no (c.tank.map (·.val + 1))) ++ one (word ((p.hoseZone h).map (·.val + 1))) ++
       one (node (.meter h) p + 256 * node (.reader h) p) ++ one (node (.valve h) p) ++
       two c.pulseWeight ++ one c.pulseCeiling ++ one c.openCode ++ one (bit (c.handling == .isolate) 0) ++
       one c.pauseTimeout ++ one c.dripLimit ++ one c.pointCount ++
       ((List.finRange 6).flatMap fun i => one (flow (nth c.points i).flow) ++ two (nth c.points i).factor) ++
       one c.stepCount ++ ((List.finRange 4).flatMap fun i => one (nth c.steps i).litres ++ one (nth c.steps i).code) ++
       one (nozzle + 256 * report x.valveReport) ++
       one (bit x.pendingOut 0 + bit x.uncoupledRaised 1 + bit x.baseline.isSome 2) ++
       two x.uncoupled ++ two x.stray ++ one (word x.baseline) ++ one x.jumpTotal ++
       ((List.finRange 14).flatMap fun i => one (nth x.refusals i)) ++
       (match x.mode with
         | .fill _ txn => figures txn.tally txn.cap
         | .proving { run := some r, can := can, .. } => figures r.tally can
         | _ => List.replicate 9 0)) ∧
   (∀ (t : TankNo) (p : Part),
     let x := p.tank t
     let c := x.cfg
     let state : Nat := match x.state with
       | .inService => 0
       | .receiving => 1
       | .outOfService => 2
     let loss : Nat := match x.loss with
       | .none => 0
       | .waiting => 1
       | .opened _ _ _ => 2
       | .spent => 3
     let rest : Nat := match x.rest with
       | .none => 0
       | .running _ _ _ => 1
     reads (.tank t) p =
       one (state + bit x.low 8 + bit x.gaugeHeld 9 + bit x.aboveTable 10) ++
       one (no (c.product.map (·.val + 1))) ++ one (c.zone.val + 1) ++ two c.capacity ++ one c.highHigh ++
       two c.lowCutoff ++ one c.lossFloor ++ one c.restThreshold ++ one c.restCode ++ one c.tolerance ++
       one (node (.gauge t) p + 256 * node (.starter t) p) ++ one (node (.inlet t) p) ++
       two (nearest x.setPoint) ++ two (total x.totals.received) ++ two (total x.totals.adjustment) ++
       two (total x.totals.dispensed) ++ two (total x.totals.stray) ++ two (nearest x.book) ++ one x.folds ++
       two (long x.gaugeNet) ++ one (word x.lastLevel) ++ one (word x.lastWater) ++ one (temp x.lastTemp) ++
       one (loss + 256 * rest) ++ one (report x.inletReport) ++ one x.openHoses ++
       one ((p.pump t).count + bit (p.pump t).confirmed 8) ++
       (match x.delivery with
         | some d => one d.declared ++ two d.startGauge ++ two d.outflow ++ (match d.closed with
           | none => one 1
           | some cause => one (2 + 256 * causeCode cause))
         | none => one 0 ++ two 4294967295 ++ two 4294967295 ++ one 0) ++
       one (temp x.gaugeTemp)) ∧
   (∀ (t : TankNo) (p : Part), reads (.strap t) p = one (p.tank t).cfg.strapCount ++ (List.finRange 32).flatMap fun i =>
     one (nth (p.tank t).cfg.straps i).level ++ two (nth (p.tank t).cfg.straps i).volume) ∧
   (∀ (i : ProductNo) (p : Part),
     let x := p.product i
     let used := ∃ t, (p.tank t).cfg.product = some i ∧ (p.tank t).state ≠ .outOfService
     let shown : Nat → List Word := fun last => one (match x.cls with
       | .none => 0
       | .fuel => 1
       | .lube => 2
       | .coolant => 3) ++ one x.beta ++ one (temp (some x.fallback)) ++ one last
     (used → reads (.product i) p = shown 1) ∧ (¬used → reads (.product i) p = shown 0)) ∧
   (∀ (n : DevNo) (p : Part),
     let d := p.device n
     let pair : List Word := match d.binding with
       | .unbound => one 0
       | .meter h => one (1 + 256 * (h.val + 1))
       | .reader h => one (2 + 256 * (h.val + 1))
       | .valve h => one (3 + 256 * (h.val + 1))
       | .starter t => one (4 + 256 * (t.val + 1))
       | .inlet t => one (5 + 256 * (t.val + 1))
       | .gauge t => one (6 + 256 * (t.val + 1))
       | .sump z => one (7 + 256 * (z.val + 1))
       | .estop z => one (8 + 256 * no (z.map (·.val + 1)))
     let health : Nat := match d.health with
       | .good => 0
       | .doubtful => 1
       | .lost => 2
     reads (.device n) p = pair ++ one d.period ++ one (d.score + 256 * health) ++ one d.mismatches ++
       one (word (d.lastKind.map (·.toNat)))) ∧
   (∀ (r : RuleNo) (p : Part),
     let x := nth p.rules r
     let action : Nat := match x.action with
       | .pass => 0
       | .drop => 16
       | .thin n => 32 + 256 * n
     reads (.rule r) p = one (bit x.inUse 0 + bit (x.dir == .upToField) 1 + action) ++
       one (x.kindValue.toNat + 256 * x.kindMask.toNat) ++ one (x.nodeValue.toNat + 256 * x.nodeMask.toNat) ++
       one x.thinCount ++ one x.hits) ∧
   (∀ p : Part,
     let f := p.filter
     let condition : Nat := match f.lastCondition with
       | none => 0
       | some .tripped => 1
       | some .hoseBusy => 2
       | some .tankOpen => 3
       | some .tankReceiving => 4
     reads .filter p =
       one (bit f.dropUpward 0 + bit f.dropDownward 1 + bit f.acceptUpward 2 + bit f.acceptDownward 3) ++
       one f.guardCount ++ one f.holdCount ++ one ((f.lastNode.map (·.toNat)).getD 255 + 256 * condition)) ∧
   (∀ p : Part,
     let shown : Profile → List Word := fun x => one x.marginPct ++ one x.marginFloor ++ one x.blindPct ++
       one x.recoveryCap ++ one x.ceiling ++ one (bit x.fuel 0 + bit x.lube 1 + bit x.coolant 2)
     reads .profileA p = shown p.profileA ∧ reads .profileB p = shown p.profileB) ∧
   (∀ (r : Record) (rest : List Record) (p : Part), p.records = r :: rest →
     let own : Nat × List Word → Prop := fun body => reads .recordHead p =
       one r.serial ++ one (body.1 + 256 * r.cause) ++ one (bit r.clockUnset 0 + flags r.flags) ++
       one (r.hose + 256 * r.tank) ++ one (r.product + 256 * r.jumps) ++ one r.slot ++ two r.start.toNat ++
       two r.ended.toNat ++ two r.tag.toNat ++ two r.hours ++ body.2
     (∀ gross net cap t, r.body = .fill gross net cap t →
       own (1, two gross ++ two net ++ two cap ++ one (temp (some t)) ++ [0, 0, 0])) ∧
     (r.body = .refusal → own (2, List.replicate 10 0)) ∧
     (∀ declared startGauge endGauge received, r.body = .delivery declared startGauge endGauge received →
       own (3, two declared ++ two startGauge ++ two endGauge ++ two (total received) ++ [0, 0])) ∧
     (∀ gross net run t, r.body = .prove gross net run t →
       own (4, two gross ++ two net ++ one run ++ [0] ++ one (temp (some t)) ++ [0, 0, 0])) ∧
     (∀ oldBook newBook, r.body = .adjust oldBook newBook →
       own (5, two (nearest oldBook) ++ two (nearest newBook) ++ List.replicate 6 0))) ∧
   (∀ (z : ZoneNo) (p : Part),
     let x := p.zone z
     let state : Nat := match x.state with
       | .normal => 0
       | .tripped => 1
       | .recovery => 2
     let first : Nat := match x.firstCause with
       | .sumpWet => 1
       | .estop => 2
       | .unmeteredLoss => 3
       | .restLoss => 4
       | .uncoupledFlow => 5
       | .overrun => 6
       | .sensorLost => 7
       | .command => 8
       | .restart => 9
     reads (.zone z) p = one state ++ one (first + bit x.firstTrip.unset 15) ++ two x.firstTrip.secs.toNat ++
       one x.causes.toNat ++ one x.tripCount ++ one (bit x.sensorTrips 0) ++ one (match x.timer with
         | .stopped => 65535
         | .running left => left
         | .expired => 0) ++ one x.marks.toNat))

/-- R170: the whole words of a WRITE are applied in order from the offset, each checked on its own; a refused word
leaves its fields as they were, the words after it are still applied, and one beyond the entry's end is discarded. The
reply gives the status and the position of the first refused word and the end flag, and the offset moves by the number
of words in STEP and in STEP_ON_WRITE, but in HOLD, and for RECORD_HEAD (R160), it stays. R170, R171: what each writable
word of each table does, and which are read-only: a number in its range is put into its field, one outside it is refused
with BAD_VALUE, and a field of two words is applied whole at its upper word; a HOSE's and a TANK's configuration while
OUT, a PRODUCT while not in use, and IN_USE otherwise. R47, R170, in every step mode: a tag is written whole: the slot's
own tag again is DONE without effect; any other is refused with IN_USE while the slot has an open hose; else one that no
slot holds is taken, a tag of 0 empties the slot, and one that another slot holds is refused with IN_USE. The model's
choices and readings in this: bits to which R177 gives no field are ignored, and lower words are kept for the fields
that can be written alone (log 23); action code 3 is refused, and the thin n goes with THIN only (log 24); a throttle
code of 0 and a strapping volume above 1,000,000 L are refused with BAD_VALUE (log 25); bits 1 to 7 of the reply's flags
byte are sent as 0 (log 41); the read-only words of a HOSE or TANK entry are refused with BAD_VALUE in every state (log
26); the reply to a WRITE with no whole word carries the status alone (log 28); and a hose's tank in a TRIPPED zone
takes the barred orders out of the ports (log 36). -/
def Obligations.WordsAndTagsAreWrittenToTheirFields : Prop :=
  (∀ (src : Node) (ws : List (Byte × Byte)) (odd : List Byte) (s : State), odd.length ≤ 1 →
     let data := ws.flatMap (fun w => [w.1, w.2]) ++ odd
     let c := s.cursor
     let r := writeWords c.sel (ws.map fun w => join16 w.1 w.2) c.offset 1 (consumeUp s.toPart)
     (ws = [] → exec (.write src data) s = .next (s.answered src .badValue [] id)) ∧
     (ws ≠ [] → exec (.write src data) s = .next (s.answered src ((r.2.map (·.1)).getD .done)
       [if c.sel.words ≤ c.offset + ws.length then 1 else 0, BitVec.ofNat 8 ((r.2.map (·.2)).getD 0)] fun p =>
         let q := (writeWords c.sel (ws.map fun w => join16 w.1 w.2) c.offset 1 p).1
         if c.mode = .hold ∨ c.sel = .recordHead then q
         else { q with cursor := { q.cursor with offset := min (q.cursor.offset + ws.length) (q.cursor.sel.words - 1) } }))) ∧
  (∀ (sel : Selection) (w : Word) (rest : List Word) (k pos : Nat) (p : Part),
     writeWords sel [] k pos p = (p, none) ∧
     (∀ q, writeWord sel k w p = .ok q → writeWords sel (w :: rest) k pos p = writeWords sel rest (k + 1) (pos + 1) q) ∧
     (∀ st, writeWord sel k w p = .error st →
       writeWords sel (w :: rest) k pos p = ((writeWords sel rest (k + 1) (pos + 1) p).1, some (st, pos))) ∧
     (sel.words ≤ k → writeWord sel k w p = .ok p)) ∧
  (let one : Selection → (Part → Prop) → Nat → Nat → Nat → (Nat → Part → Part) → Prop := fun sel when_ k lo hi f =>
     ∀ (w : Word) (p : Part), when_ p →
       writeWord sel k w p = if lo ≤ w.toNat ∧ w.toNat ≤ hi then .ok (f w.toNat p) else .error .badValue
   let two : Selection → (Part → Prop) → Nat → Nat → Nat → (Nat → Part → Part) → Prop := fun sel when_ k lo hi f =>
     ∀ (w : Word) (p : Part), when_ p →
       writeWord sel k w p = .ok { p with cursor := p.cursor.keep k w } ∧
       (let v := (w ++ p.cursor.keptAt k).toNat
        writeWord sel (k + 1) w p = if lo ≤ v ∧ v ≤ hi then .ok (f v p) else .error .badValue)
   let readOnly : Selection → (Part → Prop) → List Nat → Prop := fun sel when_ ks =>
     ∀ k ∈ ks, ∀ (w : Word) (p : Part), when_ p → writeWord sel k w p = .error .badValue
   let always : Part → Prop := fun _ => True
   let hours : Nat → Option Nat := fun v => if v = 4294967295 then none else some v
   (∀ m : SlotNo,
     let put : (Nat → MachineRec → MachineRec) → Nat → Part → Part := fun f n => modMachine m (f n)
     readOnly (.machine m) always [2] ∧
     (∀ (w : Word) (p : Part), writeWord (.machine m) 3 w p = if w.getLsbD 15 then .error .badValue
       else .ok (modMachine m (fun x => { x with doubt := w.toNat % 8, abnormal := false }) p)) ∧
     (∀ i : ProductNo, one (.machine m) always (4 + i.val) 0 65535
       (put fun n x => { x with allowances := setNth x.allowances i n })) ∧
     two (.machine m) always 12 0 2000000 (put fun n x => { x with burnRate := n }) ∧
     one (.machine m) always 14 0 255 (put fun n x => { x with learnCount := n }) ∧
     two (.machine m) always 15 0 4294967295 (put fun n x => { x with lastHours := hours n }) ∧
     two (.machine m) always 17 0 4294967295 (put fun n x => { x with hoursAtFull := hours n }) ∧
     two (.machine m) always 19 0 4294967295 (put fun n x => { x with addedSinceFull := n }) ∧
     two (.machine m) always 21 0 4294967295 (put fun n x => { x with hoursAtService := hours n }) ∧
     one (.machine m) always 23 0 65535 (put fun n x => { x with serviceInterval := n }) ∧
     one (.machine m) always 24 0 65535 (put fun n x => { x with lubeSinceService := n }) ∧
     one (.machine m) always 25 0 65535 (put fun n x => { x with lubeLimit := n }) ∧
     two (.machine m) always 26 0 4294967295 (put fun n x => { x with lifetimeFuel := n }) ∧
     one (.machine m) always 28 0 65535 (put fun n x => { x with fillCount := n })) ∧
   (∀ h : HoseNo,
     let out : Part → Prop := fun p => (p.hose h).mode = .out
     let put : (Nat → HoseConfig → HoseConfig) → Nat → Part → Part := fun f n =>
       modHose h fun x => { x with cfg := f n x.cfg }
     readOnly (.hose h) always ([0, 2, 3, 4, 40, 41, 42, 43, 46] ++ (List.range 9).map (· + 62)) ∧
     one (.hose h) out 1 0 6 (fun n p =>
       let q := modHose h (fun x => { x with cfg := { x.cfg with tank := fromOne 6 n }, straySet := {} }) p
       if q.hoseTripped h then dropBarred q else q) ∧
     two (.hose h) out 5 0 100000 (put fun n c => { c with pulseWeight := n }) ∧
     one (.hose h) out 7 1 65535 (put fun n c => { c with pulseCeiling := n }) ∧
     one (.hose h) out 8 1 65535 (put fun n c => { c with openCode := min n 15 }) ∧
     one (.hose h) out 9 0 1 (put fun n c => { c with handling := if n = 1 then .isolate else .holdClosed }) ∧
     one (.hose h) out 10 10 600 (put fun n c => { c with pauseTimeout := n }) ∧
     one (.hose h) out 11 0 50 (put fun n c => { c with dripLimit := n }) ∧
     one (.hose h) out 12 0 6 (put fun n c => { c with pointCount := n }) ∧
     (∀ i : Fin 6,
       one (.hose h) out (13 + 3 * i.val) 0 65535
         (put fun n c => { c with points := setNth c.points i { nth c.points i with flow := n } }) ∧
       two (.hose h) out (14 + 3 * i.val) 90000 110000
         (put fun n c => { c with points := setNth c.points i { nth c.points i with factor := n } })) ∧
     one (.hose h) out 31 0 4 (put fun n c => { c with stepCount := n }) ∧
     (∀ i : Fin 4,
       one (.hose h) out (32 + 2 * i.val) 0 65535
         (put fun n c => { c with steps := setNth c.steps i { nth c.steps i with litres := n } }) ∧
       one (.hose h) out (33 + 2 * i.val) 1 65535
         (put fun n c => { c with steps := setNth c.steps i { nth c.steps i with code := min n 15 } })) ∧
     two (.hose h) always 44 0 0 (fun _ => modHose h fun x => { x with stray := 0 }) ∧
     one (.hose h) always 47 0 0 (fun _ => modHose h fun x => { x with jumpTotal := 0 }) ∧
     (∀ i : Fin 14, one (.hose h) always (48 + i.val) 0 0
       (fun _ => modHose h fun x => { x with refusals := setNth x.refusals i 0 }))) ∧
   (∀ t : TankNo,
     let out : Part → Prop := fun p => (p.tank t).state = .outOfService
     let put : (Nat → TankConfig → TankConfig) → Nat → Part → Part := fun f n =>
       modTank t fun x => { x with cfg := f n x.cfg }
     readOnly (.tank t) always ([0] ++ (List.range 31).map (· + 12)) ∧
     one (.tank t) out 1 0 8 (put fun n c => { c with product := fromOne 8 n }) ∧
     two (.tank t) out 3 0 1000000 (put fun n c => { c with capacity := n }) ∧
     one (.tank t) out 5 0 65535 (put fun n c => { c with highHigh := n }) ∧
     two (.tank t) out 6 0 1000000 (put fun n c => { c with lowCutoff := n }) ∧
     one (.tank t) out 8 0 65535 (put fun n c => { c with lossFloor := n }) ∧
     one (.tank t) out 9 0 65535 (put fun n c => { c with restThreshold := n }) ∧
     one (.tank t) out 10 0 7 (put fun n c => { c with restCode := n }) ∧
     one (.tank t) out 11 0 1000 (put fun n c => { c with tolerance := n }) ∧
     one (.strap t) out 0 0 32 (put fun n c => { c with strapCount := n }) ∧
     (∀ i : Fin 32,
       one (.strap t) out (1 + 3 * i.val) 0 65535
         (put fun n c => { c with straps := setNth c.straps i { nth c.straps i with level := n } }) ∧
       two (.strap t) out (2 + 3 * i.val) 0 1000000
         (put fun n c => { c with straps := setNth c.straps i { nth c.straps i with volume := n } }))) ∧
   (∀ i : ProductNo,
     let idle : Part → Prop := fun p => ∀ t, (p.tank t).cfg.product = some i → (p.tank t).state = .outOfService
     let put : (Nat → Product → Product) → Nat → Part → Part := fun f n p =>
       { p with products := setNth p.products i (f n (p.product i)) }
     one (.product i) idle 0 0 3 (put fun n x => { x with
       cls := if n = 0 then .none else if n = 1 then .fuel else if n = 2 then .lube else .coolant }) ∧
     one (.product i) idle 1 0 2000 (put fun n x => { x with beta := n }) ∧
     (∀ (w : Word) (p : Part), idle p → writeWord (.product i) 2 w p =
       if -500 ≤ w.toInt ∧ w.toInt ≤ 800 then .ok (put (fun _ x => { x with fallback := w.toInt }) 0 p)
       else .error .badValue) ∧
     readOnly (.product i) idle [3] ∧
     (∀ k < 3, ∀ (w : Word) (p : Part), ¬idle p → writeWord (.product i) k w p = .error .inUse)) ∧
   (∀ n : DevNo,
     one (.device n) always 1 0 65535 (fun v => modDevice n fun d => { d with period := max 1 (min v 600) }) ∧
     one (.device n) always 3 0 0 (fun _ => modDevice n fun d => { d with mismatches := 0 }) ∧
     readOnly (.device n) always [2, 4]) ∧
   (∀ r : RuleNo,
     let put : (PassRule → PassRule) → Part → Part := fun f p => { p with rules := setNth p.rules r (f (nth p.rules r)) }
     (∀ (w : Word) (p : Part), let code := w.toNat / 16 % 4
       writeWord (.rule r) 0 w p = if code = 3 then .error .badValue else .ok (put (fun x => { x with
         inUse := w.getLsbD 0, dir := if w.getLsbD 1 then .upToField else .fieldToUp,
         action := if code = 0 then .pass else if code = 1 then .drop else .thin (w.toNat / 256 % 8),
         thinCount := 0 }) p)) ∧
     (∀ (lo hi : Byte) (p : Part), writeWord (.rule r) 1 (join16 lo hi) p =
       .ok (put (fun x => { x with kindValue := lo, kindMask := hi, thinCount := 0 }) p)) ∧
     (∀ (lo hi : Byte) (p : Part), writeWord (.rule r) 2 (join16 lo hi) p =
       if lo.toNat ≤ 63 ∧ hi.toNat ≤ 63 then .ok (put (fun x => { x with
         nodeValue := lo.setWidth 6, nodeMask := hi.setWidth 6, thinCount := 0 }) p) else .error .badValue) ∧
     readOnly (.rule r) always [3] ∧ one (.rule r) always 4 0 0 (fun _ => put fun x => { x with hits := 0 })) ∧
   (∀ (w : Word) (p : Part), writeWord .filter 0 w p = .ok { p with filter := { p.filter with
     dropUpward := w.getLsbD 0, dropDownward := w.getLsbD 1,
     acceptUpward := w.getLsbD 2, acceptDownward := w.getLsbD 3 } }) ∧
   one .filter always 1 0 0 (fun _ p => { p with filter := { p.filter with guardCount := 0 } }) ∧
   one .filter always 2 0 0 (fun _ p => { p with filter := { p.filter with holdCount := 0 } }) ∧
   readOnly .filter always [3] ∧
   (∀ l : Letter,
     let sel : Selection := if l = .a then .profileA else .profileB
     let put : (Profile → Profile) → Part → Part := fun f p =>
       if l = .a then { p with profileA := f p.profileA } else { p with profileB := f p.profileB }
     one sel always 0 0 100 (fun n => put fun x => { x with marginPct := n }) ∧
     one sel always 1 0 65535 (fun n => put fun x => { x with marginFloor := n }) ∧
     one sel always 2 0 100 (fun n => put fun x => { x with blindPct := n }) ∧
     one sel always 3 0 65535 (fun n => put fun x => { x with recoveryCap := n }) ∧
     one sel always 4 0 65535 (fun n => put fun x => { x with ceiling := n }) ∧
     (∀ (w : Word) (p : Part), writeWord sel 5 w p =
       .ok (put (fun x => { x with fuel := w.getLsbD 0, lube := w.getLsbD 1, coolant := w.getLsbD 2 }) p))) ∧
   readOnly .recordHead always (List.range 24) ∧
   (∀ z : ZoneNo, readOnly (.zone z) always [0, 1, 2, 3, 4, 7, 8] ∧
     one (.zone z) always 5 0 0 (fun _ => modZone z fun x => { x with tripCount := 0 }) ∧
     one (.zone z) always 6 0 1 (fun n => modZone z fun x => { x with sensorTrips := n == 1 }))) ∧
  (∀ (src : Node) (m : SlotNo) (tag : Long) (s : State), s.cursor.sel = .machine m → s.cursor.offset = 0 →
     s.cursor.kept.map (·.1) = [0, 12, 15, 17, 19, 21, 26] →
     let x := s.machine m
     let keep : Part → Part := fun p => { p with cursor := { p.cursor with
       kept := (0, tag.extractLsb' 0 16) :: p.cursor.kept.tail
       offset := match p.cursor.mode with
         | .hold => 0
         | .step | .stepOnWrite => 2 } }
     let data := bytes16 (tag.extractLsb' 0 16) ++ bytes16 (tag.extractLsb' 16 16)
     (tag = x.tag → exec (.write src data) s = .next (s.answered src .done [0, 0] keep)) ∧
     (tag ≠ x.tag → x.openHose ≠ none → exec (.write src data) s = .next (s.answered src .inUse [0, 2] keep)) ∧
     (tag ≠ x.tag → x.openHose = none →
       (tag ≠ 0 → (∀ j, (s.machine j).tag ≠ tag) → exec (.write src data) s = .next (s.answered src .done [0, 0] fun p =>
         modMachine m (fun x => { x with tag := tag }) (keep p))) ∧
       (tag = 0 → exec (.write src data) s = .next (s.answered src .done [0, 0] fun p =>
         modMachine m (fun _ => MachineRec.empty) (keep p))) ∧
       (tag ≠ 0 → (∃ j, (s.machine j).tag = tag) →
         exec (.write src data) s = .next (s.answered src .inUse [0, 2] keep))))

/-- R171, R170: while a hose is in service or PROVING each of its configuration words is refused with REFUSED_MODE, and
while a tank is not OUT_OF_SERVICE each of its own and of its strapping table; the read-only words among them are
refused with BAD_VALUE (log 26). R68, R101, R105: a tank OUT_OF_SERVICE takes a new zone; into a TRIPPED one, its hoses'
runs and fills end, and SET 0, RUN 0 and LAMP trip go to its devices, the zone's record staying as it is; both zones'
recovery tests are made again; into a zone that is not TRIPPED nothing else follows: only the tank's zone field, what
those tests make of the two zones, and the two lines where one of them enters NORMAL (R108, R109). R114: the checks of a
binding write in their order. R115: an accepted one gives the node its pair, its score and its health, drops the part's
orders that wait for it, and tells the owners of both pairs; where the new pair lies in a TRIPPED zone, nothing goes on
waiting for the node that R101 bars (log 36). That the closing orders of one kind go by hose number is the model's
choice (log 37), and that a recovery timer stays expired in NORMAL its reading (log 19). -/
def Obligations.ConfigurationAndBindingsAreWrittenUnderTheirConditions : Prop :=
  ((∀ (h : HoseNo) (k : Nat) (w : Word) (p : Part), (p.hose h).mode ≠ .out →
     (k = 1 ∨ 5 ≤ k ∧ k < 40 → writeWord (.hose h) k w p = .error .refusedMode) ∧
     (k = 0 ∨ 2 ≤ k ∧ k < 5 → writeWord (.hose h) k w p = .error .badValue)) ∧
   (∀ (t : TankNo) (k : Nat) (w : Word) (p : Part), (p.tank t).state ≠ .outOfService →
     (1 ≤ k → k < 12 → writeWord (.tank t) k w p = .error .refusedMode) ∧
     (k = 0 ∨ 12 ≤ k ∧ k < 43 → writeWord (.tank t) k w p = .error .badValue) ∧
     (k < 97 → writeWord (.strap t) k w p = .error .refusedMode))) ∧
  (∀ (t : TankNo) (w : Word) (p : Part), (p.tank t).state = .outOfService →
     (w = 0 ∨ 4 < w.toNat → writeWord (.tank t) 2 w p = .error .badValue) ∧
     (∀ z : ZoneNo, w.toNat = z.val + 1 →
       let old := (p.tank t).cfg.zone
       (z = old → writeWord (.tank t) 2 w p = .ok p) ∧
       (z ≠ old → ∃ q : Part, writeWord (.tank t) 2 w p = .ok q ∧
         (q.tank t).cfg = { (p.tank t).cfg with zone := z } ∧ (q.tank t).state = .outOfService ∧
         (∀ k, k ≠ t → (q.tank k).cfg = (p.tank k).cfg ∧ (q.tank k).state = (p.tank k).state) ∧
         (let ready : ZoneNo → Prop := fun y => (p.zone y).state = .recovery ∧ (p.zone y).timer = .expired ∧
            ∀ k, (if k = t then z else (p.tank k).cfg.zone) = y →
              (p.tank k).state = .outOfService ∨ (p.zone y).marks.getLsbD k.val = true
          (∀ y, (y = old ∨ y = z) ∧ ready y →
            q.zone y = { p.zone y with state := .normal, causes := 0, marks := 0 }) ∧
          (∀ y, ¬((y = old ∨ y = z) ∧ ready y) → q.zone y = p.zone y)) ∧
         (∀ h, (p.hose h).cfg.tank ≠ some t → q.hose h = p.hose h) ∧
         q.machines = p.machines ∧ q.devices = p.devices ∧ (∀ k, (q.tank k).book = (p.tank k).book) ∧
         ((p.zone z).state ≠ .tripped →
           q = { p with tanks := setNth p.tanks t { p.tank t with cfg := { (p.tank t).cfg with zone := z } },
                        zones := q.zones, shutdown := q.shutdown, bayAlarm := q.bayAlarm } ∧
           (q.zones = p.zones → q.shutdown = p.shutdown ∧ q.bayAlarm = p.bayAlarm) ∧
           (q.zones ≠ p.zones → q.LinesFollow)) ∧
         ((p.zone z).state = .tripped →
           let orders : Byte → Byte → List Binding → List Telegram := fun kind value bs => bs.filterMap fun b =>
             (p.boundNode b).map fun n => { head := { dst := nodeOf n, cls := 1, src := 0, rsv := 0 }, kind := kind,
                                            payload := [value] }
           let hoses := hoseNos.filter fun h => (p.hose h).cfg.tank == some t
           let closing := orders 0x21 0 (hoses.map .valve) ++ orders 0x21 0 [.inlet t] ++
             orders 0x20 0 [.starter t] ++ orders 0x22 4 (hoses.map .reader)
           (∀ h, (p.hose h).cfg.tank = some t → (q.hose h).mode.dispensing = false ∧ (q.hose h).mode.run = none) ∧
           (∃ before : Port, q.fp = (closing.foldl (fun x u => x.queueOrder u) before).dropWaiting q.bars) ∧
           (∀ u, u ∈ q.up.own ∨ u ∈ q.up.forwarded ∨ u ∈ q.fp.own ∨ u ∈ q.fp.forwarded → q.bars u = false))))) ∧
  (∀ (n : DevNo) (w : Word) (p : Part),
     let old := (p.device n).binding
     let role := w.toNat % 256
     let object := w.toNat / 256
     let named : Binding → Prop := fun b => match b with
       | .unbound => role = 0 ∧ object = 0
       | .meter h => role = 1 ∧ object = h.val + 1
       | .reader h => role = 2 ∧ object = h.val + 1
       | .valve h => role = 3 ∧ object = h.val + 1
       | .starter t => role = 4 ∧ object = t.val + 1
       | .inlet t => role = 5 ∧ object = t.val + 1
       | .gauge t => role = 6 ∧ object = t.val + 1
       | .sump z => role = 7 ∧ object = z.val + 1
       | .estop none => role = 8 ∧ object = 0
       | .estop (some z) => role = 8 ∧ object = z.val + 1
     let works : Binding → Prop := fun b => match b with
       | .meter h | .reader h | .valve h => (p.hose h).mode ≠ .out
       | .starter t | .inlet t | .gauge t => (p.tank t).state = .receiving ∨ 0 < (p.tank t).openHoses
       | .sump _ | .estop _ | .unbound => False
     let tripped : Binding → Bool := fun b => match b with
       | .valve h => p.hoseTripped h
       | .starter t | .inlet t => (p.zone (p.tank t).cfg.zone).state == .tripped
       | _ => false
     let told : Binding → Part → Part := fun b => match b with
       | .meter h => modHose h fun x => { x with baseline := none }
       | .reader h => modHose h fun x => { x with nozzle := .holstered }
       | .valve h => modHose h fun x => { x with valveReport := .none }
       | .starter t => modPump t fun u => { u with confirmed := false }
       | .inlet t => modTank t fun x => { x with inletReport := .none }
       | .gauge t => modTank t fun x => { x with
           rest := .none, loss := match x.loss with
             | .opened _ _ _ => .waiting
             | l => l }
       | .sump _ | .estop _ | .unbound => id
     let answers : Except Status Part → Prop := fun a => writeWord (.device n) 0 w p = a
     (p.bayMode = .run → answers (.error .refusedMode)) ∧
     (p.bayMode = .layUp → (∀ b, ¬named b) → answers (.error .badValue)) ∧
     (∀ b, p.bayMode = .layUp → named b →
       (b = old → answers (.ok p)) ∧
       (b ≠ old →
         ((b ≠ .unbound ∧ ∃ m, (p.device m).binding = b) ∨ works old ∨ works b → answers (.error .inUse)) ∧
         (b = .unbound ∨ (∀ m, (p.device m).binding ≠ b) → ¬works old → ¬works b →
           let q := told b (told old (modDevice n (fun d => { d with
             binding := b, mismatches := 0, wet := false, pressed := false,
             score := if b = .unbound then 0 else 32, health := if b = .unbound then .good else .doubtful })
             { p with fp := { p.fp with own := p.fp.own.filter fun u =>
               !(u.head.dst == nodeOf n && (u.kind == 0x20 || u.kind == 0x21 || u.kind == 0x22)) } }))
           answers (.ok (if tripped b then dropBarred q else q))))))

/-! ## Proving, the line test and RESTART (R26, R90, R175, R176, R178 to R186) -/

/-- R179, R4: PROVE_START's checks in their order, that of the hose record among them, and the session after an accepted
one. R182: PROVE_RESULT's answers; an accepted one replies the run factor and the credit, results the run, puts the credit
into the adjustment total and the book, makes the low-stock test on the new book (R80), and disturbs the tank's windows
(R81, R83). -/
def Obligations.ProvingSessionsOpenAndTakeResults : Prop :=
  (∀ (src : Node) (b runs : Byte) (h : HoseNo) (can : Long) (s : State), b.toNat = h.val + 1 →
     (runs = 0 ∨ 5 < runs.toNat ∨ can.toNat < 1000 ∨ 2000000 < can.toNat →
       exec (.proveStart src (some (b, runs, can))) s = .next (s.answered src .badValue [] id)) ∧
     (1 ≤ runs.toNat → runs.toNat ≤ 5 → 1000 ≤ can.toNat → can.toNat ≤ 2000000 →
       ((s.hose h).mode ≠ .out →
         exec (.proveStart src (some (b, runs, can))) s = .next (s.answered src .refusedMode [] id)) ∧
       (let x := s.hose h
        let fit := x.cfg.tank.isSome = true ∧ (s.boundNode (.meter h)).isSome = true ∧
          (s.boundNode (.reader h)).isSome = true ∧ (s.boundNode (.valve h)).isSome = true ∧ 1 ≤ x.cfg.pulseWeight ∧
          curveOk x.cfg.curve = true
        (x.mode = .out → ¬fit →
          exec (.proveStart src (some (b, runs, can))) s = .next (s.answered src .badValue [] id)) ∧
        (fit ↔ s.hoseFit h = true)) ∧
       ((s.hose h).mode = .out → s.hoseFit h = true →
         (∀ z, s.hoseZone h = some z → (s.zone z).state = .normal →
           (64 < s.records.length + s.reserved + runs.toNat →
             exec (.proveStart src (some (b, runs, can))) s = .next (s.answered src .queueFull [] id)) ∧
           (s.records.length + s.reserved + runs.toNat ≤ 64 →
             exec (.proveStart src (some (b, runs, can))) s = .next (s.answered src .done [] fun p =>
               sendLamp h 0 (modHose h (fun y => { y with
                   mode := .proving { planned := runs.toNat, can := can.toNat, ended := [], run := none } })
                 { p with reserved := p.reserved + runs.toNat })))) ∧
         (∀ z, s.hoseZone h = some z → (s.zone z).state ≠ .normal →
           exec (.proveStart src (some (b, runs, can))) s = .next (s.answered src .refusedMode [] id))))) ∧
  (∀ (src : Node) (b run : Byte) (h : HoseNo) (can : Long) (s : State), b.toNat = h.val + 1 →
     ((∀ ses, (s.hose h).mode ≠ .proving ses) →
       exec (.proveResult src (some (b, run, can))) s = .next (s.answered src .refusedMode [] id)) ∧
     (∀ ses, (s.hose h).mode = .proving ses →
       (run = 0 ∨ ses.ended.length < run.toNat →
         exec (.proveResult src (some (b, run, can))) s = .next (s.answered src .badIndex [] id)) ∧
       (∀ r, 1 ≤ run.toNat → ses.ended[run.toNat - 1]? = some r →
         (r.result ≠ none → exec (.proveResult src (some (b, run, can))) s = .next (s.answered src .inUse [] id)) ∧
         (r.result = none → r.gross = 0 ∨ can = 0 →
           exec (.proveResult src (some (b, run, can))) s = .next (s.answered src .badValue [] id)) ∧
         (∀ t, r.result = none → 0 < r.gross → can ≠ 0 → (s.hose h).cfg.tank = some t →
           let factor := r.factorUsed * can.toNat / r.gross
           let credit := can.toNat * r.vcf / 1000000
           (¬(90000 ≤ factor ∧ factor ≤ 110000) →
             exec (.proveResult src (some (b, run, can))) s = .next (s.answered src .badValue [] id)) ∧
           (90000 ≤ factor ∧ factor ≤ 110000 → ∃ f : Part → Part,
             let x := s.tank t
             let u := s.answered src .done (bytes32 (BitVec.ofNat 32 factor) ++ bytes32 (BitVec.ofNat 32 credit)) f
             let free : Int := x.book + credit - (x.cfg.lowCutoff * 1000 : Nat)
             let folds := decide (1000000000 < |x.totals.adjustment + credit|)
             exec (.proveResult src (some (b, run, can))) s = .next u ∧
             (u.hose h).mode = .proving { ses with
               ended := ses.ended.set (run.toNat - 1)
                 { r with result := some { can := can.toNat, factor := factor, credit := credit } } } ∧
             u.tank t = { x with
               book := x.book + credit, low := decide (free ≤ 0), rest := .none
               setPoint := if folds then x.book else x.setPoint
               totals := if folds then { adjustment := credit }
                 else { x.totals with adjustment := x.totals.adjustment + credit }
               folds := if folds then min 255 (x.folds + 1) else x.folds
               loss := match x.loss with
                 | .opened _ _ _ => .waiting
                 | w => w } ∧
             (free ≤ 0 → (x.low = false → (Notice.tankLow).isIn u.pendingNotices = true) ∧
               ∀ j ph txn, (s.hose j).cfg.tank = some t → (s.hose j).mode = .fill ph txn →
                 (s.hose j).mode.isClosing = false →
                 ∃ txn', (u.hose j).mode = .fill (.closing .tankLow ⟨s.clock, s.clockUnset⟩) txn') ∧
             (∀ j, j ≠ h → 0 < free ∨ (s.hose j).cfg.tank ≠ some t ∨ (s.hose j).mode.dispensing = false →
               u.hose j = s.hose j) ∧
             (∀ k, k ≠ t → u.tank k = s.tank k) ∧
             u.records = s.records ∧ u.zones = s.zones ∧ u.machines = s.machines)))))

/-- R183, R181: PROVE_END accept works the mean point of the resulted runs, of which it needs three whose factors lie
within 50; it puts the point in place of the nearest curve point within 10 %, or else in its place in flow order where
the curve has fewer than six points, and answers its position and its flow and factor; a curve of six points with none
near, too few runs or too wide a spread is answered BAD_VALUE, and a run in progress IN_USE. Abandon ends a run in
progress with ABANDONED and leaves the curve. Both release the unused reservations, return the hose to OUT and raise
PROVE_DONE. That the position counts from 1 is the model's reading (log 31), and that a mean flow above 65,535 is shown
as a free value its choice (log 8). -/
def Obligations.ProveEndAcceptsOrAbandons : Prop :=
  ∀ (src : Node) (b : Byte) (h : HoseNo) (s : State), b.toNat = h.val + 1 →
    ((∀ ses, (s.hose h).mode ≠ .proving ses) →
      exec (.proveEndAccept src (some (b, 0))) s = .next (s.answered src .refusedMode [] id) ∧
      exec (.proveEndAbandon src b) s = .next (s.answered src .refusedMode [] id)) ∧
    (∀ ses, (s.hose h).mode = .proving ses →
      (ses.run ≠ none → exec (.proveEndAccept src (some (b, 0))) s = .next (s.answered src .inUse [] id)) ∧
      (ses.run = none → (ses.ended.filter fun r => r.result.isSome).length < 3 →
        exec (.proveEndAccept src (some (b, 0))) s = .next (s.answered src .badValue [] id)) ∧
      (∃ (u : State) (placed : List Record), exec (.proveEndAbandon src b) s = .next u ∧
        (u.hose h).mode = .out ∧ (u.hose h).cfg = (s.hose h).cfg ∧
        Notice.proveDone.isIn u.pendingNotices = true ∧ u.records = s.records ++ placed ∧
        placed.length = (if ses.run.isSome then 1 else 0) ∧ (∀ rec ∈ placed, rec.cause = 14 ∧ rec.hose = h.val + 1) ∧
        (ses.ended.length + placed.length ≤ ses.planned →
          u.reserved = s.reserved - (ses.planned - ses.ended.length)) ∧
        (∀ j, j ≠ h → u.hose j = s.hose j) ∧ u.machines = s.machines ∧ u.zones = s.zones) ∧
      (∀ runs : List (EndedRun × RunResult), ses.run = none →
        runs = ses.ended.filterMap (fun r => r.result.map fun x => (r, x)) → 3 ≤ runs.length →
        let flow := (runs.map fun r => r.1.meanRate).sum / runs.length
        let factor := (runs.map fun r => r.2.factor).sum / runs.length
        let curve := (s.hose h).cfg.curve
        let gap : CurvePoint → Nat := fun x => (x.flow - flow) + (flow - x.flow)
        let even := ∀ x ∈ runs, ∀ y ∈ runs, x.2.factor ≤ y.2.factor + 50
        let far := ∀ q ∈ curve, flow * 10 < gap q * 100
        let accepted : List CurvePoint → Nat → Prop := fun points position => ∃ f : Part → Part,
          let u := s.answered src .done ([BitVec.ofNat 8 position] ++
            bytes16 (if flow ≤ 65535 then BitVec.ofNat 16 flow else Config.freeFlow flow) ++
            bytes32 (BitVec.ofNat 32 factor)) f
          exec (.proveEndAccept src (some (b, 0))) s = .next u ∧ (u.hose h).cfg.curve = points ∧ (u.hose h).mode = .out ∧
          Notice.proveDone.isIn u.pendingNotices = true ∧ u.reserved = s.reserved - (ses.planned - ses.ended.length) ∧
          u.records = s.records ∧ (∀ j, j ≠ h → u.hose j = s.hose j) ∧ u.tanks = s.tanks
        (¬even ∨ far ∧ 6 ≤ curve.length →
          exec (.proveEndAccept src (some (b, 0))) s = .next (s.answered src .badValue [] id)) ∧
        (∀ k q, even → curve[k]? = some q → gap q * 100 ≤ flow * 10 →
          (∀ j x, curve[j]? = some x → j < k → gap q < gap x) → (∀ j x, curve[j]? = some x → k < j → gap q ≤ gap x) →
          accepted (curve.set k ⟨flow, factor⟩) (k + 1)) ∧
        (∀ k, even → far → curve.length < 6 → k ≤ curve.length → (∀ j x, curve[j]? = some x → j < k → x.flow ≤ flow) →
          (∀ x, curve[k]? = some x → flow < x.flow) →
          accepted (curve.take k ++ [⟨flow, factor⟩] ++ curve.drop k) (k + 1))))

/-- R185, R186: the four modes of LINE_TEST, whose every reply carries the running flag and the counts; what each ECHO
carries by its pattern, FIXED, COUNTING or PSEUDO; the gap timer's expiry queues the next ECHO of a continuous test,
counting one still awaited missing; the last ECHO's wait ends the test with that ECHO missing. That REFUSED_MODE and
IN_USE come before BAD_VALUE, and that read and stop go by the mode byte alone, is the model's choice (log 20). -/
def Obligations.TheLineTestStartsSendsReadsAndStops : Prop :=
  (∀ (src : Node) (gap pattern byte length target : Byte) (s : State),
     let counts : List Byte := bytes16 (BitVec.ofNat 16 s.counts.sent) ++ bytes16 (BitVec.ofNat 16 s.counts.intact) ++
       bytes16 (BitVec.ofNat 16 s.counts.mismatched) ++ bytes16 (BitVec.ofNat 16 s.counts.missing)
     let args := some (gap, pattern, byte, length, target)
     (exec (.lineTestRead src) s = .next (s.answered src .done ((if s.test.isSome then 1 else 0) :: counts) id)) ∧
     (s.test = none → exec (.lineTestStop src (some 0)) s = .next (s.answered src .done (0 :: counts) id)) ∧
     (∀ t, s.test = some t → ∃ u : State, exec (.lineTestStop src (some 0)) s = .next u ∧ u.test = none ∧
       u.counts = { s.counts with missing := if t.awaited.isSome then min 65535 (s.counts.missing + 1)
         else s.counts.missing } ∧
       u.fp = { s.fp with own := s.fp.own.filter fun x => x.kind != 0x23 } ∧
       Notice.lineTestDone.isIn u.pendingNotices = true) ∧
     (s.bayMode = .run →
       exec (.lineTestSingle src args) s = .next (s.answered src .refusedMode ((if s.test.isSome then 1 else 0) :: counts) id) ∧
       exec (.lineTestContinuous src args) s =
         .next (s.answered src .refusedMode ((if s.test.isSome then 1 else 0) :: counts) id)) ∧
     (s.bayMode = .layUp → s.test ≠ none →
       exec (.lineTestSingle src args) s = .next (s.answered src .inUse (1 :: counts) id) ∧
       exec (.lineTestContinuous src args) s = .next (s.answered src .inUse (1 :: counts) id)) ∧
     (s.bayMode = .layUp → s.test = none → 3 < gap.toNat ∨ 2 < pattern.toNat ∨ 12 < length.toNat ∨ target = 0 ∨
         62 < target.toNat →
       exec (.lineTestSingle src args) s = .next (s.answered src .badValue (0 :: counts) id) ∧
       exec (.lineTestContinuous src args) s = .next (s.answered src .badValue (0 :: counts) id)) ∧
     (∀ n : DevNo, s.bayMode = .layUp → s.test = none → gap.toNat ≤ 3 → pattern.toNat ≤ 2 → length.toNat ≤ 12 →
       target.toNat = n.val + 1 →
       let started : Bool → Part → Part := fun continuous p => queueEcho
         { continuous := continuous, gap := gap.toNat, byte := byte, length := length.toNat, target := n, counter := 0,
           pattern := if pattern = 0 then .fixed else if pattern = 1 then .counting else .pseudo,
           register := 0xACE1, awaited := none, gapRunning := false, waitRunning := false } { p with counts := {} }
       exec (.lineTestSingle src args) s = .next (s.answered src .done [1, 0, 0, 0, 0, 0, 0, 0, 0] (started false)) ∧
       exec (.lineTestContinuous src args) s = .next (s.answered src .done [1, 0, 0, 0, 0, 0, 0, 0, 0] (started true)))) ∧
  (∀ (t : LineTest) (p : Part), ∃ (payload : List Byte) (t' : LineTest),
     queueEcho t p = { p with
       test := some t',
       fp := p.fp.queueOrder { head := { dst := nodeOf t.target, cls := 1, src := 0, rsv := 0 }, kind := 0x23,
                               payload := payload } } ∧
     payload.length = t.length ∧
     t' = { t with counter := t'.counter, register := t'.register } ∧
     (t.pattern = .fixed → payload = List.replicate t.length t.byte ∧ t' = t) ∧
     (t.pattern = .counting → payload = (List.range t.length).map (fun i => t.counter + BitVec.ofNat 8 i) ∧
       t'.counter = t.counter + BitVec.ofNat 8 t.length ∧ t'.register = t.register) ∧
     (t.pattern = .pseudo →
       let step : Word → Word := fun r => BitVec.ofNat 16 (r.toNat / 2 +
         if (r.getLsbD 0 ^^ r.getLsbD 2 ^^ r.getLsbD 3 ^^ r.getLsbD 5) = true then 0x8000 else 0)
       payload = (List.range t.length).map (fun i => (step^[8 * (i + 1)] t.register).setWidth 8) ∧
       t'.register = step^[8 * t.length] t.register ∧ t'.counter = t.counter)) ∧
  (∀ (t : LineTest) (s : State), s.test = some t →
     (t.gapRunning = true → t.continuous = true → s.counts.sent < 10000 →
       exec .gapTimerExpiry s = .next (s.on fun p => queueEcho { t with gapRunning := false, awaited := none }
         { p with counts := if t.awaited.isSome then { p.counts with missing := min 65535 (p.counts.missing + 1) }
           else p.counts })) ∧
     (t.waitRunning = true → t.awaited.isSome = true →
       exec .echoWaitExpiry s = .next (s.on fun p => raise .lineTestDone { p with
         test := none, counts := { p.counts with missing := min 65535 (p.counts.missing + 1) } })))

/-- R26, R90, R175, R176, R184: RESTART ends every fill, delivery, session and line test, puts the bay into LAY_UP,
zeroes the counts, and keeps the tables, books, bindings, profiles, clock and masks. Each fill leaves its FILL record
and makes its close update (R21, R60). SET 0 to the valves and then to the inlets and RUN 0 to the starters are queued
in that order, and each is then the only telegram of its kind to its node that waits at the field port. R111: the zone
records stay, unless the return of a RECEIVING tank to service finds its zone's recovery test passing (R105). That the
open-hose counts are put at 0 is the model's reading (log 34), and that the kept lower words are those of the fields
that can be written its choice (log 23). The premise is the invariant of the record queue. -/
def Obligations.RestartEndsEveryOperation : Prop :=
  ∀ (src : Node) (s : State), s.RecordsFit → ∃ u : State, exec (.restart src) s = .next u ∧
    u.bayMode = .layUp ∧ u.test = none ∧ u.reserved = 0 ∧
    (∀ h, (u.hose h).mode = .idle ∨ (u.hose h).mode = .out) ∧
    (∀ h, (s.hose h).mode = .idle ∨ (s.hose h).mode = .out → (u.hose h).mode = (s.hose h).mode) ∧
    (∀ h, (u.hose h).cfg = (s.hose h).cfg ∧ (u.hose h).nozzle = (s.hose h).nozzle ∧ (u.hose h).pendingOut = false) ∧
    (∀ k, u.pump k = { count := 0, confirmed := false }) ∧
    (∀ k, (u.tank k).openHoses = 0 ∧ (u.tank k).loss = .none ∧ (u.tank k).rest = .none ∧ (u.tank k).delivery = none ∧
      (u.tank k).cfg = (s.tank k).cfg ∧
      (u.tank k).state = (if (s.tank k).state = .receiving then .inService else (s.tank k).state)) ∧
    (∀ k, (s.tank k).state ≠ .receiving → (u.tank k).book = (s.tank k).book) ∧
    (∃ placed, u.records = s.records ++ placed ∧ placed.length ≤ s.reserved ∧
      ∀ h ph txn, (s.hose h).mode = .fill ph txn →
        let cause := match ph with
          | .closing c _ => c
          | _ => .restart
        (∃ rec ∈ placed, rec.hose = h.val + 1 ∧ rec.tag = txn.tag ∧ rec.cause = cause.code ∧
          rec.body = .fill txn.tally.gross txn.tally.net txn.cap (txn.tally.lastTemp.getD 0)) ∧
        ((∀ j ph' txn', j ≠ h → (s.hose j).mode = .fill ph' txn' → txn'.slot ≠ txn.slot) → u.machine txn.slot =
          { ((s.machine txn.slot).close txn.cls txn.tally.net cause txn.hours).1 with openHose := none })) ∧
    (∀ m, (∀ h ph txn, (s.hose h).mode = .fill ph txn → txn.slot ≠ m) → u.machine m = s.machine m) ∧
    (∀ z, (∀ k, (s.tank k).cfg.zone = z → (s.tank k).state ≠ .receiving) ∨ (s.zone z).state ≠ .recovery ∨
        (s.zone z).timer ≠ .expired ∨
        (∃ k, (s.tank k).cfg.zone = z ∧ (s.tank k).state ≠ .outOfService ∧ (s.zone z).marks.getLsbD k.val = false) →
      u.zone z = s.zone z) ∧
    (let orders : Byte → List Binding → List Telegram := fun kind bs => bs.filterMap fun b =>
       (s.boundNode b).map fun n => { head := { dst := nodeOf n, cls := 1, src := 0, rsv := 0 }, kind := kind,
                                      payload := [0] }
     let closing := orders 0x21 (hoseNos.map .valve) ++ orders 0x21 (tankNos.map .inlet) ++
       orders 0x20 (tankNos.map .starter)
     (∃ before : Port, u.fp = { closing.foldl (fun x t => x.queueOrder t) before with count := 0 }) ∧
     (∀ x ∈ u.fp.own, ∀ k ∈ closing, x.kind = k.kind → x.head.dst = k.head.dst → x = k) ∧
     (∀ x ∈ u.fp.forwarded, ∀ k ∈ closing, x.kind = k.kind → x.head.dst ≠ k.head.dst)) ∧
    u.cursor.kept = keptWords (.machine 0) u.toPart ∧
    u.cursor.sel = .machine 0 ∧ u.cursor.offset = 0 ∧ u.cursor.mode = .step ∧ u.up.count = 0 ∧ u.fp.count = 0 ∧
    u.devices = s.devices ∧ u.products = s.products ∧ u.rules = s.rules ∧ u.filter = s.filter ∧
    u.profileA = s.profileA ∧ u.profileB = s.profileB ∧ u.current = s.current ∧ u.letter = s.letter ∧
    u.source = s.source ∧ u.clock = s.clock ∧ u.clockUnset = s.clockUnset ∧ u.noticeMask = s.noticeMask
end

