-- ==== Sys2Proof/Laws/State.lean ====
section
/-! SUPPORT. One lemma for each field of the part and each update of one object, so that no proof unfolds a record
update; and reading a table after writing one of its entries. -/

namespace Sys2Proof.Machine

open Sys2Proof

/-! ## Tables -/

@[simp] theorem nth_setNth_same {α : Type} {n : Nat} (v : Vector α n) (i : Fin n) (a : α) :
    nth (setNth v i a) i = a := by simp [nth, setNth]

theorem nth_setNth_other {α : Type} {n : Nat} (v : Vector α n) {i j : Fin n} (a : α) (h : i ≠ j) :
    nth (setNth v i a) j = nth v j := by
  have : i.val ≠ j.val := fun e => h (Fin.ext e)
  simp [nth, setNth, Vector.getElem_set_ne, this]

theorem nth_setNth {α : Type} {n : Nat} (v : Vector α n) (i j : Fin n) (a : α) :
    nth (setNth v i a) j = if i = j then a else nth v j := by
  by_cases h : i = j
  · subst h; simp
  · simp [h, nth_setNth_other v a h]

/-- Two tables with the same entries are the same. -/
theorem vector_ext_nth {α : Type} {n : Nat} {v w : Vector α n} (h : ∀ i, nth v i = nth w i) : v = w := by
  apply Vector.ext
  intro i hi
  exact h ⟨i, hi⟩

@[simp] theorem setNth_nth {α : Type} {n : Nat} (v : Vector α n) (i : Fin n) : setNth v i (nth v i) = v :=
  vector_ext_nth fun j => by
    rw [nth_setNth]
    split
    · subst_vars; rfl
    · rfl

@[simp] theorem setNth_setNth {α : Type} {n : Nat} (v : Vector α n) (i : Fin n) (a b : α) :
    setNth (setNth v i a) i b = setNth v i b :=
  vector_ext_nth fun j => by simp only [nth_setNth]; split <;> rfl

@[simp] theorem nth_fill {α : Type} (n : Nat) (a : α) (i : Fin n) : nth (fill n a) i = a := by
  simp [nth, fill]

/-! ## modHose -/

@[simp] theorem modHose_up (h : HoseNo) (f : Hose → Hose) (p : Part) : (modHose h f p).up = p.up := rfl
@[simp] theorem modHose_fp (h : HoseNo) (f : Hose → Hose) (p : Part) : (modHose h f p).fp = p.fp := rfl
@[simp] theorem modHose_rules (h : HoseNo) (f : Hose → Hose) (p : Part) : (modHose h f p).rules = p.rules := rfl
@[simp] theorem modHose_filter (h : HoseNo) (f : Hose → Hose) (p : Part) : (modHose h f p).filter = p.filter := rfl
@[simp] theorem modHose_devices (h : HoseNo) (f : Hose → Hose) (p : Part) : (modHose h f p).devices = p.devices := rfl
@[simp] theorem modHose_pumps (h : HoseNo) (f : Hose → Hose) (p : Part) : (modHose h f p).pumps = p.pumps := rfl
@[simp] theorem modHose_tanks (h : HoseNo) (f : Hose → Hose) (p : Part) : (modHose h f p).tanks = p.tanks := rfl
@[simp] theorem modHose_products (h : HoseNo) (f : Hose → Hose) (p : Part) : (modHose h f p).products = p.products := rfl
@[simp] theorem modHose_machines (h : HoseNo) (f : Hose → Hose) (p : Part) : (modHose h f p).machines = p.machines := rfl
@[simp] theorem modHose_profileA (h : HoseNo) (f : Hose → Hose) (p : Part) : (modHose h f p).profileA = p.profileA := rfl
@[simp] theorem modHose_profileB (h : HoseNo) (f : Hose → Hose) (p : Part) : (modHose h f p).profileB = p.profileB := rfl
@[simp] theorem modHose_current (h : HoseNo) (f : Hose → Hose) (p : Part) : (modHose h f p).current = p.current := rfl
@[simp] theorem modHose_letter (h : HoseNo) (f : Hose → Hose) (p : Part) : (modHose h f p).letter = p.letter := rfl
@[simp] theorem modHose_zones (h : HoseNo) (f : Hose → Hose) (p : Part) : (modHose h f p).zones = p.zones := rfl
@[simp] theorem modHose_shutdown (h : HoseNo) (f : Hose → Hose) (p : Part) : (modHose h f p).shutdown = p.shutdown := rfl
@[simp] theorem modHose_bayAlarm (h : HoseNo) (f : Hose → Hose) (p : Part) : (modHose h f p).bayAlarm = p.bayAlarm := rfl
@[simp] theorem modHose_records (h : HoseNo) (f : Hose → Hose) (p : Part) : (modHose h f p).records = p.records := rfl
@[simp] theorem modHose_reserved (h : HoseNo) (f : Hose → Hose) (p : Part) : (modHose h f p).reserved = p.reserved := rfl
@[simp] theorem modHose_nextSerial (h : HoseNo) (f : Hose → Hose) (p : Part) : (modHose h f p).nextSerial = p.nextSerial := rfl
@[simp] theorem modHose_pendingNotices (h : HoseNo) (f : Hose → Hose) (p : Part) : (modHose h f p).pendingNotices = p.pendingNotices := rfl
@[simp] theorem modHose_noticeMask (h : HoseNo) (f : Hose → Hose) (p : Part) : (modHose h f p).noticeMask = p.noticeMask := rfl
@[simp] theorem modHose_bayMode (h : HoseNo) (f : Hose → Hose) (p : Part) : (modHose h f p).bayMode = p.bayMode := rfl
@[simp] theorem modHose_source (h : HoseNo) (f : Hose → Hose) (p : Part) : (modHose h f p).source = p.source := rfl
@[simp] theorem modHose_profileHigh (h : HoseNo) (f : Hose → Hose) (p : Part) : (modHose h f p).profileHigh = p.profileHigh := rfl
@[simp] theorem modHose_clock (h : HoseNo) (f : Hose → Hose) (p : Part) : (modHose h f p).clock = p.clock := rfl
@[simp] theorem modHose_clockUnset (h : HoseNo) (f : Hose → Hose) (p : Part) : (modHose h f p).clockUnset = p.clockUnset := rfl
@[simp] theorem modHose_cursor (h : HoseNo) (f : Hose → Hose) (p : Part) : (modHose h f p).cursor = p.cursor := rfl
@[simp] theorem modHose_test (h : HoseNo) (f : Hose → Hose) (p : Part) : (modHose h f p).test = p.test := rfl
@[simp] theorem modHose_counts (h : HoseNo) (f : Hose → Hose) (p : Part) : (modHose h f p).counts = p.counts := rfl
@[simp] theorem modHose_freeUses (h : HoseNo) (f : Hose → Hose) (p : Part) : (modHose h f p).freeUses = p.freeUses := rfl

@[simp] theorem modHose_hose_same (h : HoseNo) (f : Hose → Hose) (p : Part) :
    (modHose h f p).hose h = f (p.hose h) := by simp [modHose, Part.hose]

theorem modHose_hose (h i : HoseNo) (f : Hose → Hose) (p : Part) :
    (modHose h f p).hose i = if h = i then f (p.hose i) else p.hose i := by
  simp only [modHose, Part.hose, nth_setNth]
  split
  · subst_vars; rfl
  · rfl

@[simp] theorem modHose_tank_keep (h : HoseNo) (f : Hose → Hose) (p : Part) (i : TankNo) :
    (modHose h f p).tank i = p.tank i := rfl
@[simp] theorem modHose_pump_keep (h : HoseNo) (f : Hose → Hose) (p : Part) (i : TankNo) :
    (modHose h f p).pump i = p.pump i := rfl
@[simp] theorem modHose_zone_keep (h : HoseNo) (f : Hose → Hose) (p : Part) (i : ZoneNo) :
    (modHose h f p).zone i = p.zone i := rfl
@[simp] theorem modHose_device_keep (h : HoseNo) (f : Hose → Hose) (p : Part) (i : DevNo) :
    (modHose h f p).device i = p.device i := rfl
@[simp] theorem modHose_machine_keep (h : HoseNo) (f : Hose → Hose) (p : Part) (i : SlotNo) :
    (modHose h f p).machine i = p.machine i := rfl
@[simp] theorem modHose_product_keep (h : HoseNo) (f : Hose → Hose) (p : Part) (i : ProductNo) :
    (modHose h f p).product i = p.product i := rfl

/-! ## modTank -/

@[simp] theorem modTank_up (t : TankNo) (f : Tank → Tank) (p : Part) : (modTank t f p).up = p.up := rfl
@[simp] theorem modTank_fp (t : TankNo) (f : Tank → Tank) (p : Part) : (modTank t f p).fp = p.fp := rfl
@[simp] theorem modTank_rules (t : TankNo) (f : Tank → Tank) (p : Part) : (modTank t f p).rules = p.rules := rfl
@[simp] theorem modTank_filter (t : TankNo) (f : Tank → Tank) (p : Part) : (modTank t f p).filter = p.filter := rfl
@[simp] theorem modTank_devices (t : TankNo) (f : Tank → Tank) (p : Part) : (modTank t f p).devices = p.devices := rfl
@[simp] theorem modTank_hoses (t : TankNo) (f : Tank → Tank) (p : Part) : (modTank t f p).hoses = p.hoses := rfl
@[simp] theorem modTank_pumps (t : TankNo) (f : Tank → Tank) (p : Part) : (modTank t f p).pumps = p.pumps := rfl
@[simp] theorem modTank_products (t : TankNo) (f : Tank → Tank) (p : Part) : (modTank t f p).products = p.products := rfl
@[simp] theorem modTank_machines (t : TankNo) (f : Tank → Tank) (p : Part) : (modTank t f p).machines = p.machines := rfl
@[simp] theorem modTank_profileA (t : TankNo) (f : Tank → Tank) (p : Part) : (modTank t f p).profileA = p.profileA := rfl
@[simp] theorem modTank_profileB (t : TankNo) (f : Tank → Tank) (p : Part) : (modTank t f p).profileB = p.profileB := rfl
@[simp] theorem modTank_current (t : TankNo) (f : Tank → Tank) (p : Part) : (modTank t f p).current = p.current := rfl
@[simp] theorem modTank_letter (t : TankNo) (f : Tank → Tank) (p : Part) : (modTank t f p).letter = p.letter := rfl
@[simp] theorem modTank_zones (t : TankNo) (f : Tank → Tank) (p : Part) : (modTank t f p).zones = p.zones := rfl
@[simp] theorem modTank_shutdown (t : TankNo) (f : Tank → Tank) (p : Part) : (modTank t f p).shutdown = p.shutdown := rfl
@[simp] theorem modTank_bayAlarm (t : TankNo) (f : Tank → Tank) (p : Part) : (modTank t f p).bayAlarm = p.bayAlarm := rfl
@[simp] theorem modTank_records (t : TankNo) (f : Tank → Tank) (p : Part) : (modTank t f p).records = p.records := rfl
@[simp] theorem modTank_reserved (t : TankNo) (f : Tank → Tank) (p : Part) : (modTank t f p).reserved = p.reserved := rfl
@[simp] theorem modTank_nextSerial (t : TankNo) (f : Tank → Tank) (p : Part) : (modTank t f p).nextSerial = p.nextSerial := rfl
@[simp] theorem modTank_pendingNotices (t : TankNo) (f : Tank → Tank) (p : Part) : (modTank t f p).pendingNotices = p.pendingNotices := rfl
@[simp] theorem modTank_noticeMask (t : TankNo) (f : Tank → Tank) (p : Part) : (modTank t f p).noticeMask = p.noticeMask := rfl
@[simp] theorem modTank_bayMode (t : TankNo) (f : Tank → Tank) (p : Part) : (modTank t f p).bayMode = p.bayMode := rfl
@[simp] theorem modTank_source (t : TankNo) (f : Tank → Tank) (p : Part) : (modTank t f p).source = p.source := rfl
@[simp] theorem modTank_profileHigh (t : TankNo) (f : Tank → Tank) (p : Part) : (modTank t f p).profileHigh = p.profileHigh := rfl
@[simp] theorem modTank_clock (t : TankNo) (f : Tank → Tank) (p : Part) : (modTank t f p).clock = p.clock := rfl
@[simp] theorem modTank_clockUnset (t : TankNo) (f : Tank → Tank) (p : Part) : (modTank t f p).clockUnset = p.clockUnset := rfl
@[simp] theorem modTank_cursor (t : TankNo) (f : Tank → Tank) (p : Part) : (modTank t f p).cursor = p.cursor := rfl
@[simp] theorem modTank_test (t : TankNo) (f : Tank → Tank) (p : Part) : (modTank t f p).test = p.test := rfl
@[simp] theorem modTank_counts (t : TankNo) (f : Tank → Tank) (p : Part) : (modTank t f p).counts = p.counts := rfl
@[simp] theorem modTank_freeUses (t : TankNo) (f : Tank → Tank) (p : Part) : (modTank t f p).freeUses = p.freeUses := rfl

@[simp] theorem modTank_tank_same (t : TankNo) (f : Tank → Tank) (p : Part) :
    (modTank t f p).tank t = f (p.tank t) := by simp [modTank, Part.tank]

theorem modTank_tank (t i : TankNo) (f : Tank → Tank) (p : Part) :
    (modTank t f p).tank i = if t = i then f (p.tank i) else p.tank i := by
  simp only [modTank, Part.tank, nth_setNth]
  split
  · subst_vars; rfl
  · rfl

@[simp] theorem modTank_hose_keep (t : TankNo) (f : Tank → Tank) (p : Part) (i : HoseNo) :
    (modTank t f p).hose i = p.hose i := rfl
@[simp] theorem modTank_pump_keep (t : TankNo) (f : Tank → Tank) (p : Part) (i : TankNo) :
    (modTank t f p).pump i = p.pump i := rfl
@[simp] theorem modTank_zone_keep (t : TankNo) (f : Tank → Tank) (p : Part) (i : ZoneNo) :
    (modTank t f p).zone i = p.zone i := rfl
@[simp] theorem modTank_device_keep (t : TankNo) (f : Tank → Tank) (p : Part) (i : DevNo) :
    (modTank t f p).device i = p.device i := rfl
@[simp] theorem modTank_machine_keep (t : TankNo) (f : Tank → Tank) (p : Part) (i : SlotNo) :
    (modTank t f p).machine i = p.machine i := rfl
@[simp] theorem modTank_product_keep (t : TankNo) (f : Tank → Tank) (p : Part) (i : ProductNo) :
    (modTank t f p).product i = p.product i := rfl

/-! ## modPump -/

@[simp] theorem modPump_up (t : TankNo) (f : Pump → Pump) (p : Part) : (modPump t f p).up = p.up := rfl
@[simp] theorem modPump_fp (t : TankNo) (f : Pump → Pump) (p : Part) : (modPump t f p).fp = p.fp := rfl
@[simp] theorem modPump_rules (t : TankNo) (f : Pump → Pump) (p : Part) : (modPump t f p).rules = p.rules := rfl
@[simp] theorem modPump_filter (t : TankNo) (f : Pump → Pump) (p : Part) : (modPump t f p).filter = p.filter := rfl
@[simp] theorem modPump_devices (t : TankNo) (f : Pump → Pump) (p : Part) : (modPump t f p).devices = p.devices := rfl
@[simp] theorem modPump_hoses (t : TankNo) (f : Pump → Pump) (p : Part) : (modPump t f p).hoses = p.hoses := rfl
@[simp] theorem modPump_tanks (t : TankNo) (f : Pump → Pump) (p : Part) : (modPump t f p).tanks = p.tanks := rfl
@[simp] theorem modPump_products (t : TankNo) (f : Pump → Pump) (p : Part) : (modPump t f p).products = p.products := rfl
@[simp] theorem modPump_machines (t : TankNo) (f : Pump → Pump) (p : Part) : (modPump t f p).machines = p.machines := rfl
@[simp] theorem modPump_profileA (t : TankNo) (f : Pump → Pump) (p : Part) : (modPump t f p).profileA = p.profileA := rfl
@[simp] theorem modPump_profileB (t : TankNo) (f : Pump → Pump) (p : Part) : (modPump t f p).profileB = p.profileB := rfl
@[simp] theorem modPump_current (t : TankNo) (f : Pump → Pump) (p : Part) : (modPump t f p).current = p.current := rfl
@[simp] theorem modPump_letter (t : TankNo) (f : Pump → Pump) (p : Part) : (modPump t f p).letter = p.letter := rfl
@[simp] theorem modPump_zones (t : TankNo) (f : Pump → Pump) (p : Part) : (modPump t f p).zones = p.zones := rfl
@[simp] theorem modPump_shutdown (t : TankNo) (f : Pump → Pump) (p : Part) : (modPump t f p).shutdown = p.shutdown := rfl
@[simp] theorem modPump_bayAlarm (t : TankNo) (f : Pump → Pump) (p : Part) : (modPump t f p).bayAlarm = p.bayAlarm := rfl
@[simp] theorem modPump_records (t : TankNo) (f : Pump → Pump) (p : Part) : (modPump t f p).records = p.records := rfl
@[simp] theorem modPump_reserved (t : TankNo) (f : Pump → Pump) (p : Part) : (modPump t f p).reserved = p.reserved := rfl
@[simp] theorem modPump_nextSerial (t : TankNo) (f : Pump → Pump) (p : Part) : (modPump t f p).nextSerial = p.nextSerial := rfl
@[simp] theorem modPump_pendingNotices (t : TankNo) (f : Pump → Pump) (p : Part) : (modPump t f p).pendingNotices = p.pendingNotices := rfl
@[simp] theorem modPump_noticeMask (t : TankNo) (f : Pump → Pump) (p : Part) : (modPump t f p).noticeMask = p.noticeMask := rfl
@[simp] theorem modPump_bayMode (t : TankNo) (f : Pump → Pump) (p : Part) : (modPump t f p).bayMode = p.bayMode := rfl
@[simp] theorem modPump_source (t : TankNo) (f : Pump → Pump) (p : Part) : (modPump t f p).source = p.source := rfl
@[simp] theorem modPump_profileHigh (t : TankNo) (f : Pump → Pump) (p : Part) : (modPump t f p).profileHigh = p.profileHigh := rfl
@[simp] theorem modPump_clock (t : TankNo) (f : Pump → Pump) (p : Part) : (modPump t f p).clock = p.clock := rfl
@[simp] theorem modPump_clockUnset (t : TankNo) (f : Pump → Pump) (p : Part) : (modPump t f p).clockUnset = p.clockUnset := rfl
@[simp] theorem modPump_cursor (t : TankNo) (f : Pump → Pump) (p : Part) : (modPump t f p).cursor = p.cursor := rfl
@[simp] theorem modPump_test (t : TankNo) (f : Pump → Pump) (p : Part) : (modPump t f p).test = p.test := rfl
@[simp] theorem modPump_counts (t : TankNo) (f : Pump → Pump) (p : Part) : (modPump t f p).counts = p.counts := rfl
@[simp] theorem modPump_freeUses (t : TankNo) (f : Pump → Pump) (p : Part) : (modPump t f p).freeUses = p.freeUses := rfl

@[simp] theorem modPump_pump_same (t : TankNo) (f : Pump → Pump) (p : Part) :
    (modPump t f p).pump t = f (p.pump t) := by simp [modPump, Part.pump]

theorem modPump_pump (t i : TankNo) (f : Pump → Pump) (p : Part) :
    (modPump t f p).pump i = if t = i then f (p.pump i) else p.pump i := by
  simp only [modPump, Part.pump, nth_setNth]
  split
  · subst_vars; rfl
  · rfl

@[simp] theorem modPump_hose_keep (t : TankNo) (f : Pump → Pump) (p : Part) (i : HoseNo) :
    (modPump t f p).hose i = p.hose i := rfl
@[simp] theorem modPump_tank_keep (t : TankNo) (f : Pump → Pump) (p : Part) (i : TankNo) :
    (modPump t f p).tank i = p.tank i := rfl
@[simp] theorem modPump_zone_keep (t : TankNo) (f : Pump → Pump) (p : Part) (i : ZoneNo) :
    (modPump t f p).zone i = p.zone i := rfl
@[simp] theorem modPump_device_keep (t : TankNo) (f : Pump → Pump) (p : Part) (i : DevNo) :
    (modPump t f p).device i = p.device i := rfl
@[simp] theorem modPump_machine_keep (t : TankNo) (f : Pump → Pump) (p : Part) (i : SlotNo) :
    (modPump t f p).machine i = p.machine i := rfl
@[simp] theorem modPump_product_keep (t : TankNo) (f : Pump → Pump) (p : Part) (i : ProductNo) :
    (modPump t f p).product i = p.product i := rfl

/-! ## modZone -/

@[simp] theorem modZone_up (z : ZoneNo) (f : Zone → Zone) (p : Part) : (modZone z f p).up = p.up := rfl
@[simp] theorem modZone_fp (z : ZoneNo) (f : Zone → Zone) (p : Part) : (modZone z f p).fp = p.fp := rfl
@[simp] theorem modZone_rules (z : ZoneNo) (f : Zone → Zone) (p : Part) : (modZone z f p).rules = p.rules := rfl
@[simp] theorem modZone_filter (z : ZoneNo) (f : Zone → Zone) (p : Part) : (modZone z f p).filter = p.filter := rfl
@[simp] theorem modZone_devices (z : ZoneNo) (f : Zone → Zone) (p : Part) : (modZone z f p).devices = p.devices := rfl
@[simp] theorem modZone_hoses (z : ZoneNo) (f : Zone → Zone) (p : Part) : (modZone z f p).hoses = p.hoses := rfl
@[simp] theorem modZone_pumps (z : ZoneNo) (f : Zone → Zone) (p : Part) : (modZone z f p).pumps = p.pumps := rfl
@[simp] theorem modZone_tanks (z : ZoneNo) (f : Zone → Zone) (p : Part) : (modZone z f p).tanks = p.tanks := rfl
@[simp] theorem modZone_products (z : ZoneNo) (f : Zone → Zone) (p : Part) : (modZone z f p).products = p.products := rfl
@[simp] theorem modZone_machines (z : ZoneNo) (f : Zone → Zone) (p : Part) : (modZone z f p).machines = p.machines := rfl
@[simp] theorem modZone_profileA (z : ZoneNo) (f : Zone → Zone) (p : Part) : (modZone z f p).profileA = p.profileA := rfl
@[simp] theorem modZone_profileB (z : ZoneNo) (f : Zone → Zone) (p : Part) : (modZone z f p).profileB = p.profileB := rfl
@[simp] theorem modZone_current (z : ZoneNo) (f : Zone → Zone) (p : Part) : (modZone z f p).current = p.current := rfl
@[simp] theorem modZone_letter (z : ZoneNo) (f : Zone → Zone) (p : Part) : (modZone z f p).letter = p.letter := rfl
@[simp] theorem modZone_shutdown (z : ZoneNo) (f : Zone → Zone) (p : Part) : (modZone z f p).shutdown = p.shutdown := rfl
@[simp] theorem modZone_bayAlarm (z : ZoneNo) (f : Zone → Zone) (p : Part) : (modZone z f p).bayAlarm = p.bayAlarm := rfl
@[simp] theorem modZone_records (z : ZoneNo) (f : Zone → Zone) (p : Part) : (modZone z f p).records = p.records := rfl
@[simp] theorem modZone_reserved (z : ZoneNo) (f : Zone → Zone) (p : Part) : (modZone z f p).reserved = p.reserved := rfl
@[simp] theorem modZone_nextSerial (z : ZoneNo) (f : Zone → Zone) (p : Part) : (modZone z f p).nextSerial = p.nextSerial := rfl
@[simp] theorem modZone_pendingNotices (z : ZoneNo) (f : Zone → Zone) (p : Part) : (modZone z f p).pendingNotices = p.pendingNotices := rfl
@[simp] theorem modZone_noticeMask (z : ZoneNo) (f : Zone → Zone) (p : Part) : (modZone z f p).noticeMask = p.noticeMask := rfl
@[simp] theorem modZone_bayMode (z : ZoneNo) (f : Zone → Zone) (p : Part) : (modZone z f p).bayMode = p.bayMode := rfl
@[simp] theorem modZone_source (z : ZoneNo) (f : Zone → Zone) (p : Part) : (modZone z f p).source = p.source := rfl
@[simp] theorem modZone_profileHigh (z : ZoneNo) (f : Zone → Zone) (p : Part) : (modZone z f p).profileHigh = p.profileHigh := rfl
@[simp] theorem modZone_clock (z : ZoneNo) (f : Zone → Zone) (p : Part) : (modZone z f p).clock = p.clock := rfl
@[simp] theorem modZone_clockUnset (z : ZoneNo) (f : Zone → Zone) (p : Part) : (modZone z f p).clockUnset = p.clockUnset := rfl
@[simp] theorem modZone_cursor (z : ZoneNo) (f : Zone → Zone) (p : Part) : (modZone z f p).cursor = p.cursor := rfl
@[simp] theorem modZone_test (z : ZoneNo) (f : Zone → Zone) (p : Part) : (modZone z f p).test = p.test := rfl
@[simp] theorem modZone_counts (z : ZoneNo) (f : Zone → Zone) (p : Part) : (modZone z f p).counts = p.counts := rfl
@[simp] theorem modZone_freeUses (z : ZoneNo) (f : Zone → Zone) (p : Part) : (modZone z f p).freeUses = p.freeUses := rfl

@[simp] theorem modZone_zone_same (z : ZoneNo) (f : Zone → Zone) (p : Part) :
    (modZone z f p).zone z = f (p.zone z) := by simp [modZone, Part.zone]

theorem modZone_zone (z i : ZoneNo) (f : Zone → Zone) (p : Part) :
    (modZone z f p).zone i = if z = i then f (p.zone i) else p.zone i := by
  simp only [modZone, Part.zone, nth_setNth]
  split
  · subst_vars; rfl
  · rfl

@[simp] theorem modZone_hose_keep (z : ZoneNo) (f : Zone → Zone) (p : Part) (i : HoseNo) :
    (modZone z f p).hose i = p.hose i := rfl
@[simp] theorem modZone_tank_keep (z : ZoneNo) (f : Zone → Zone) (p : Part) (i : TankNo) :
    (modZone z f p).tank i = p.tank i := rfl
@[simp] theorem modZone_pump_keep (z : ZoneNo) (f : Zone → Zone) (p : Part) (i : TankNo) :
    (modZone z f p).pump i = p.pump i := rfl
@[simp] theorem modZone_device_keep (z : ZoneNo) (f : Zone → Zone) (p : Part) (i : DevNo) :
    (modZone z f p).device i = p.device i := rfl
@[simp] theorem modZone_machine_keep (z : ZoneNo) (f : Zone → Zone) (p : Part) (i : SlotNo) :
    (modZone z f p).machine i = p.machine i := rfl
@[simp] theorem modZone_product_keep (z : ZoneNo) (f : Zone → Zone) (p : Part) (i : ProductNo) :
    (modZone z f p).product i = p.product i := rfl

/-! ## modDevice -/

@[simp] theorem modDevice_up (n : DevNo) (f : Device → Device) (p : Part) : (modDevice n f p).up = p.up := rfl
@[simp] theorem modDevice_fp (n : DevNo) (f : Device → Device) (p : Part) : (modDevice n f p).fp = p.fp := rfl
@[simp] theorem modDevice_rules (n : DevNo) (f : Device → Device) (p : Part) : (modDevice n f p).rules = p.rules := rfl
@[simp] theorem modDevice_filter (n : DevNo) (f : Device → Device) (p : Part) : (modDevice n f p).filter = p.filter := rfl
@[simp] theorem modDevice_hoses (n : DevNo) (f : Device → Device) (p : Part) : (modDevice n f p).hoses = p.hoses := rfl
@[simp] theorem modDevice_pumps (n : DevNo) (f : Device → Device) (p : Part) : (modDevice n f p).pumps = p.pumps := rfl
@[simp] theorem modDevice_tanks (n : DevNo) (f : Device → Device) (p : Part) : (modDevice n f p).tanks = p.tanks := rfl
@[simp] theorem modDevice_products (n : DevNo) (f : Device → Device) (p : Part) : (modDevice n f p).products = p.products := rfl
@[simp] theorem modDevice_machines (n : DevNo) (f : Device → Device) (p : Part) : (modDevice n f p).machines = p.machines := rfl
@[simp] theorem modDevice_profileA (n : DevNo) (f : Device → Device) (p : Part) : (modDevice n f p).profileA = p.profileA := rfl
@[simp] theorem modDevice_profileB (n : DevNo) (f : Device → Device) (p : Part) : (modDevice n f p).profileB = p.profileB := rfl
@[simp] theorem modDevice_current (n : DevNo) (f : Device → Device) (p : Part) : (modDevice n f p).current = p.current := rfl
@[simp] theorem modDevice_letter (n : DevNo) (f : Device → Device) (p : Part) : (modDevice n f p).letter = p.letter := rfl
@[simp] theorem modDevice_zones (n : DevNo) (f : Device → Device) (p : Part) : (modDevice n f p).zones = p.zones := rfl
@[simp] theorem modDevice_shutdown (n : DevNo) (f : Device → Device) (p : Part) : (modDevice n f p).shutdown = p.shutdown := rfl
@[simp] theorem modDevice_bayAlarm (n : DevNo) (f : Device → Device) (p : Part) : (modDevice n f p).bayAlarm = p.bayAlarm := rfl
@[simp] theorem modDevice_records (n : DevNo) (f : Device → Device) (p : Part) : (modDevice n f p).records = p.records := rfl
@[simp] theorem modDevice_reserved (n : DevNo) (f : Device → Device) (p : Part) : (modDevice n f p).reserved = p.reserved := rfl
@[simp] theorem modDevice_nextSerial (n : DevNo) (f : Device → Device) (p : Part) : (modDevice n f p).nextSerial = p.nextSerial := rfl
@[simp] theorem modDevice_pendingNotices (n : DevNo) (f : Device → Device) (p : Part) : (modDevice n f p).pendingNotices = p.pendingNotices := rfl
@[simp] theorem modDevice_noticeMask (n : DevNo) (f : Device → Device) (p : Part) : (modDevice n f p).noticeMask = p.noticeMask := rfl
@[simp] theorem modDevice_bayMode (n : DevNo) (f : Device → Device) (p : Part) : (modDevice n f p).bayMode = p.bayMode := rfl
@[simp] theorem modDevice_source (n : DevNo) (f : Device → Device) (p : Part) : (modDevice n f p).source = p.source := rfl
@[simp] theorem modDevice_profileHigh (n : DevNo) (f : Device → Device) (p : Part) : (modDevice n f p).profileHigh = p.profileHigh := rfl
@[simp] theorem modDevice_clock (n : DevNo) (f : Device → Device) (p : Part) : (modDevice n f p).clock = p.clock := rfl
@[simp] theorem modDevice_clockUnset (n : DevNo) (f : Device → Device) (p : Part) : (modDevice n f p).clockUnset = p.clockUnset := rfl
@[simp] theorem modDevice_cursor (n : DevNo) (f : Device → Device) (p : Part) : (modDevice n f p).cursor = p.cursor := rfl
@[simp] theorem modDevice_test (n : DevNo) (f : Device → Device) (p : Part) : (modDevice n f p).test = p.test := rfl
@[simp] theorem modDevice_counts (n : DevNo) (f : Device → Device) (p : Part) : (modDevice n f p).counts = p.counts := rfl
@[simp] theorem modDevice_freeUses (n : DevNo) (f : Device → Device) (p : Part) : (modDevice n f p).freeUses = p.freeUses := rfl

@[simp] theorem modDevice_device_same (n : DevNo) (f : Device → Device) (p : Part) :
    (modDevice n f p).device n = f (p.device n) := by simp [modDevice, Part.device]

theorem modDevice_device (n i : DevNo) (f : Device → Device) (p : Part) :
    (modDevice n f p).device i = if n = i then f (p.device i) else p.device i := by
  simp only [modDevice, Part.device, nth_setNth]
  split
  · subst_vars; rfl
  · rfl

@[simp] theorem modDevice_hose_keep (n : DevNo) (f : Device → Device) (p : Part) (i : HoseNo) :
    (modDevice n f p).hose i = p.hose i := rfl
@[simp] theorem modDevice_tank_keep (n : DevNo) (f : Device → Device) (p : Part) (i : TankNo) :
    (modDevice n f p).tank i = p.tank i := rfl
@[simp] theorem modDevice_pump_keep (n : DevNo) (f : Device → Device) (p : Part) (i : TankNo) :
    (modDevice n f p).pump i = p.pump i := rfl
@[simp] theorem modDevice_zone_keep (n : DevNo) (f : Device → Device) (p : Part) (i : ZoneNo) :
    (modDevice n f p).zone i = p.zone i := rfl
@[simp] theorem modDevice_machine_keep (n : DevNo) (f : Device → Device) (p : Part) (i : SlotNo) :
    (modDevice n f p).machine i = p.machine i := rfl
@[simp] theorem modDevice_product_keep (n : DevNo) (f : Device → Device) (p : Part) (i : ProductNo) :
    (modDevice n f p).product i = p.product i := rfl

/-! ## modMachine -/

@[simp] theorem modMachine_up (m : SlotNo) (f : MachineRec → MachineRec) (p : Part) : (modMachine m f p).up = p.up := rfl
@[simp] theorem modMachine_fp (m : SlotNo) (f : MachineRec → MachineRec) (p : Part) : (modMachine m f p).fp = p.fp := rfl
@[simp] theorem modMachine_rules (m : SlotNo) (f : MachineRec → MachineRec) (p : Part) : (modMachine m f p).rules = p.rules := rfl
@[simp] theorem modMachine_filter (m : SlotNo) (f : MachineRec → MachineRec) (p : Part) : (modMachine m f p).filter = p.filter := rfl
@[simp] theorem modMachine_devices (m : SlotNo) (f : MachineRec → MachineRec) (p : Part) : (modMachine m f p).devices = p.devices := rfl
@[simp] theorem modMachine_hoses (m : SlotNo) (f : MachineRec → MachineRec) (p : Part) : (modMachine m f p).hoses = p.hoses := rfl
@[simp] theorem modMachine_pumps (m : SlotNo) (f : MachineRec → MachineRec) (p : Part) : (modMachine m f p).pumps = p.pumps := rfl
@[simp] theorem modMachine_tanks (m : SlotNo) (f : MachineRec → MachineRec) (p : Part) : (modMachine m f p).tanks = p.tanks := rfl
@[simp] theorem modMachine_products (m : SlotNo) (f : MachineRec → MachineRec) (p : Part) : (modMachine m f p).products = p.products := rfl
@[simp] theorem modMachine_profileA (m : SlotNo) (f : MachineRec → MachineRec) (p : Part) : (modMachine m f p).profileA = p.profileA := rfl
@[simp] theorem modMachine_profileB (m : SlotNo) (f : MachineRec → MachineRec) (p : Part) : (modMachine m f p).profileB = p.profileB := rfl
@[simp] theorem modMachine_current (m : SlotNo) (f : MachineRec → MachineRec) (p : Part) : (modMachine m f p).current = p.current := rfl
@[simp] theorem modMachine_letter (m : SlotNo) (f : MachineRec → MachineRec) (p : Part) : (modMachine m f p).letter = p.letter := rfl
@[simp] theorem modMachine_zones (m : SlotNo) (f : MachineRec → MachineRec) (p : Part) : (modMachine m f p).zones = p.zones := rfl
@[simp] theorem modMachine_shutdown (m : SlotNo) (f : MachineRec → MachineRec) (p : Part) : (modMachine m f p).shutdown = p.shutdown := rfl
@[simp] theorem modMachine_bayAlarm (m : SlotNo) (f : MachineRec → MachineRec) (p : Part) : (modMachine m f p).bayAlarm = p.bayAlarm := rfl
@[simp] theorem modMachine_records (m : SlotNo) (f : MachineRec → MachineRec) (p : Part) : (modMachine m f p).records = p.records := rfl
@[simp] theorem modMachine_reserved (m : SlotNo) (f : MachineRec → MachineRec) (p : Part) : (modMachine m f p).reserved = p.reserved := rfl
@[simp] theorem modMachine_nextSerial (m : SlotNo) (f : MachineRec → MachineRec) (p : Part) : (modMachine m f p).nextSerial = p.nextSerial := rfl
@[simp] theorem modMachine_pendingNotices (m : SlotNo) (f : MachineRec → MachineRec) (p : Part) : (modMachine m f p).pendingNotices = p.pendingNotices := rfl
@[simp] theorem modMachine_noticeMask (m : SlotNo) (f : MachineRec → MachineRec) (p : Part) : (modMachine m f p).noticeMask = p.noticeMask := rfl
@[simp] theorem modMachine_bayMode (m : SlotNo) (f : MachineRec → MachineRec) (p : Part) : (modMachine m f p).bayMode = p.bayMode := rfl
@[simp] theorem modMachine_source (m : SlotNo) (f : MachineRec → MachineRec) (p : Part) : (modMachine m f p).source = p.source := rfl
@[simp] theorem modMachine_profileHigh (m : SlotNo) (f : MachineRec → MachineRec) (p : Part) : (modMachine m f p).profileHigh = p.profileHigh := rfl
@[simp] theorem modMachine_clock (m : SlotNo) (f : MachineRec → MachineRec) (p : Part) : (modMachine m f p).clock = p.clock := rfl
@[simp] theorem modMachine_clockUnset (m : SlotNo) (f : MachineRec → MachineRec) (p : Part) : (modMachine m f p).clockUnset = p.clockUnset := rfl
@[simp] theorem modMachine_cursor (m : SlotNo) (f : MachineRec → MachineRec) (p : Part) : (modMachine m f p).cursor = p.cursor := rfl
@[simp] theorem modMachine_test (m : SlotNo) (f : MachineRec → MachineRec) (p : Part) : (modMachine m f p).test = p.test := rfl
@[simp] theorem modMachine_counts (m : SlotNo) (f : MachineRec → MachineRec) (p : Part) : (modMachine m f p).counts = p.counts := rfl
@[simp] theorem modMachine_freeUses (m : SlotNo) (f : MachineRec → MachineRec) (p : Part) : (modMachine m f p).freeUses = p.freeUses := rfl

@[simp] theorem modMachine_machine_same (m : SlotNo) (f : MachineRec → MachineRec) (p : Part) :
    (modMachine m f p).machine m = f (p.machine m) := by simp [modMachine, Part.machine]

theorem modMachine_machine (m i : SlotNo) (f : MachineRec → MachineRec) (p : Part) :
    (modMachine m f p).machine i = if m = i then f (p.machine i) else p.machine i := by
  simp only [modMachine, Part.machine, nth_setNth]
  split
  · subst_vars; rfl
  · rfl

@[simp] theorem modMachine_hose_keep (m : SlotNo) (f : MachineRec → MachineRec) (p : Part) (i : HoseNo) :
    (modMachine m f p).hose i = p.hose i := rfl
@[simp] theorem modMachine_tank_keep (m : SlotNo) (f : MachineRec → MachineRec) (p : Part) (i : TankNo) :
    (modMachine m f p).tank i = p.tank i := rfl
@[simp] theorem modMachine_pump_keep (m : SlotNo) (f : MachineRec → MachineRec) (p : Part) (i : TankNo) :
    (modMachine m f p).pump i = p.pump i := rfl
@[simp] theorem modMachine_zone_keep (m : SlotNo) (f : MachineRec → MachineRec) (p : Part) (i : ZoneNo) :
    (modMachine m f p).zone i = p.zone i := rfl
@[simp] theorem modMachine_device_keep (m : SlotNo) (f : MachineRec → MachineRec) (p : Part) (i : DevNo) :
    (modMachine m f p).device i = p.device i := rfl
@[simp] theorem modMachine_product_keep (m : SlotNo) (f : MachineRec → MachineRec) (p : Part) (i : ProductNo) :
    (modMachine m f p).product i = p.product i := rfl

/-! ## modPort -/

@[simp] theorem modPort_rules (q : PortId) (f : Port → Port) (p : Part) : (modPort q f p).rules = p.rules := by
  cases q <;> rfl
@[simp] theorem modPort_filter (q : PortId) (f : Port → Port) (p : Part) : (modPort q f p).filter = p.filter := by
  cases q <;> rfl
@[simp] theorem modPort_devices (q : PortId) (f : Port → Port) (p : Part) : (modPort q f p).devices = p.devices := by
  cases q <;> rfl
@[simp] theorem modPort_hoses (q : PortId) (f : Port → Port) (p : Part) : (modPort q f p).hoses = p.hoses := by
  cases q <;> rfl
@[simp] theorem modPort_pumps (q : PortId) (f : Port → Port) (p : Part) : (modPort q f p).pumps = p.pumps := by
  cases q <;> rfl
@[simp] theorem modPort_tanks (q : PortId) (f : Port → Port) (p : Part) : (modPort q f p).tanks = p.tanks := by
  cases q <;> rfl
@[simp] theorem modPort_products (q : PortId) (f : Port → Port) (p : Part) : (modPort q f p).products = p.products := by
  cases q <;> rfl
@[simp] theorem modPort_machines (q : PortId) (f : Port → Port) (p : Part) : (modPort q f p).machines = p.machines := by
  cases q <;> rfl
@[simp] theorem modPort_profileA (q : PortId) (f : Port → Port) (p : Part) : (modPort q f p).profileA = p.profileA := by
  cases q <;> rfl
@[simp] theorem modPort_profileB (q : PortId) (f : Port → Port) (p : Part) : (modPort q f p).profileB = p.profileB := by
  cases q <;> rfl
@[simp] theorem modPort_current (q : PortId) (f : Port → Port) (p : Part) : (modPort q f p).current = p.current := by
  cases q <;> rfl
@[simp] theorem modPort_letter (q : PortId) (f : Port → Port) (p : Part) : (modPort q f p).letter = p.letter := by
  cases q <;> rfl
@[simp] theorem modPort_zones (q : PortId) (f : Port → Port) (p : Part) : (modPort q f p).zones = p.zones := by
  cases q <;> rfl
@[simp] theorem modPort_shutdown (q : PortId) (f : Port → Port) (p : Part) : (modPort q f p).shutdown = p.shutdown := by
  cases q <;> rfl
@[simp] theorem modPort_bayAlarm (q : PortId) (f : Port → Port) (p : Part) : (modPort q f p).bayAlarm = p.bayAlarm := by
  cases q <;> rfl
@[simp] theorem modPort_records (q : PortId) (f : Port → Port) (p : Part) : (modPort q f p).records = p.records := by
  cases q <;> rfl
@[simp] theorem modPort_reserved (q : PortId) (f : Port → Port) (p : Part) : (modPort q f p).reserved = p.reserved := by
  cases q <;> rfl
@[simp] theorem modPort_nextSerial (q : PortId) (f : Port → Port) (p : Part) : (modPort q f p).nextSerial = p.nextSerial := by
  cases q <;> rfl
@[simp] theorem modPort_pendingNotices (q : PortId) (f : Port → Port) (p : Part) : (modPort q f p).pendingNotices = p.pendingNotices := by
  cases q <;> rfl
@[simp] theorem modPort_noticeMask (q : PortId) (f : Port → Port) (p : Part) : (modPort q f p).noticeMask = p.noticeMask := by
  cases q <;> rfl
@[simp] theorem modPort_bayMode (q : PortId) (f : Port → Port) (p : Part) : (modPort q f p).bayMode = p.bayMode := by
  cases q <;> rfl
@[simp] theorem modPort_source (q : PortId) (f : Port → Port) (p : Part) : (modPort q f p).source = p.source := by
  cases q <;> rfl
@[simp] theorem modPort_profileHigh (q : PortId) (f : Port → Port) (p : Part) : (modPort q f p).profileHigh = p.profileHigh := by
  cases q <;> rfl
@[simp] theorem modPort_clock (q : PortId) (f : Port → Port) (p : Part) : (modPort q f p).clock = p.clock := by
  cases q <;> rfl
@[simp] theorem modPort_clockUnset (q : PortId) (f : Port → Port) (p : Part) : (modPort q f p).clockUnset = p.clockUnset := by
  cases q <;> rfl
@[simp] theorem modPort_cursor (q : PortId) (f : Port → Port) (p : Part) : (modPort q f p).cursor = p.cursor := by
  cases q <;> rfl
@[simp] theorem modPort_test (q : PortId) (f : Port → Port) (p : Part) : (modPort q f p).test = p.test := by
  cases q <;> rfl
@[simp] theorem modPort_counts (q : PortId) (f : Port → Port) (p : Part) : (modPort q f p).counts = p.counts := by
  cases q <;> rfl
@[simp] theorem modPort_freeUses (q : PortId) (f : Port → Port) (p : Part) : (modPort q f p).freeUses = p.freeUses := by
  cases q <;> rfl

@[simp] theorem modPort_up_up (f : Port → Port) (p : Part) : (modPort .up f p).up = f p.up := rfl
@[simp] theorem modPort_up_fp (f : Port → Port) (p : Part) : (modPort .up f p).fp = p.fp := rfl
@[simp] theorem modPort_fp_fp (f : Port → Port) (p : Part) : (modPort .fp f p).fp = f p.fp := rfl
@[simp] theorem modPort_fp_up (f : Port → Port) (p : Part) : (modPort .fp f p).up = p.up := rfl

/-! ## The state -/

@[simp] theorem State.on_toPart (f : Part → Part) (s : State) : (s.on f).toPart = f s.toPart := rfl
@[simp] theorem State.on_pending (f : Part → Part) (s : State) : (s.on f).pending = s.pending := rfl

end Sys2Proof.Machine
end

