-- ==== Sys2Proof/Laws/Frames.lean ====
section
/-! SUPPORT. What each shared operation leaves alone. A view is the part with some blocks put back to fixed values: an
operation that keeps a view changes nothing outside those blocks, and `congrArg` gives each field it keeps. -/

namespace Sys2Proof.Machine

open Sys2Proof

/-! ## Views, each erasing more than the one before -/

/-- The part without its ports. -/
def Part.sansPorts (p : Part) : Part := { p with up := Port.atReset 0 0, fp := Port.atReset 0 0 }

/-- Nor the pending notices and the two lines. -/
def Part.sansNotices (p : Part) : Part := { p.sansPorts with pendingNotices := 0, shutdown := false, bayAlarm := false }

/-- Nor the record queue and the window cursor. -/
def Part.sansRecords (p : Part) : Part :=
  { p.sansNotices with records := [], reserved := 0, nextSerial := 0, cursor := Cursor.atReset }

/-- Nor the hoses, pumps and tanks. -/
def Part.sansFills (p : Part) : Part :=
  { p.sansRecords with hoses := fill 8 Hose.atReset, pumps := fill 6 ⟨0, false⟩, tanks := fill 6 Tank.atReset }

/-- Nor the zones. -/
def Part.sansTrips (p : Part) : Part := { p.sansFills with zones := fill 4 Zone.atReset }

/-- Nor the machines and the count of free values. -/
def Part.sansAccounts (p : Part) : Part :=
  { p.sansTrips with machines := fill 1024 MachineRec.empty, freeUses := 0 }

/-- Nor the devices and the line test. -/
def Part.sansField (p : Part) : Part :=
  { p.sansAccounts with devices := fill 62 Device.atReset, test := none, counts := {} }

theorem sansNotices_of {p q : Part} (h : p.sansPorts = q.sansPorts) : p.sansNotices = q.sansNotices := by
  simp only [Part.sansNotices, h]
theorem sansRecords_of {p q : Part} (h : p.sansNotices = q.sansNotices) : p.sansRecords = q.sansRecords := by
  simp only [Part.sansRecords, h]
theorem sansFills_of {p q : Part} (h : p.sansRecords = q.sansRecords) : p.sansFills = q.sansFills := by
  simp only [Part.sansFills, h]
theorem sansTrips_of {p q : Part} (h : p.sansFills = q.sansFills) : p.sansTrips = q.sansTrips := by
  simp only [Part.sansTrips, h]
theorem sansAccounts_of {p q : Part} (h : p.sansTrips = q.sansTrips) : p.sansAccounts = q.sansAccounts := by
  simp only [Part.sansAccounts, h]
theorem sansField_of {p q : Part} (h : p.sansAccounts = q.sansAccounts) : p.sansField = q.sansField := by
  simp only [Part.sansField, h]

/-- What each member of a run of operations keeps, the run keeps. -/
theorem each_keep {ι α : Type} (view : Part → α) (f : ι → Part → Part) (h : ∀ i p, view (f i p) = view p)
    (is : List ι) (p : Part) : view (each is f p) = view p := by
  induction is generalizing p with
  | nil => rfl
  | cons i is ih => exact (ih (f i p)).trans (h i p)

/-! ## Ports and orders -/

@[simp] theorem modPort_sansPorts (q : PortId) (f : Port → Port) (p : Part) :
    (modPort q f p).sansPorts = p.sansPorts := by cases q <;> rfl

@[simp] theorem countEvent_sansPorts (q : PortId) (e : PortEvent) (p : Part) :
    (countEvent q e p).sansPorts = p.sansPorts := modPort_sansPorts ..

@[simp] theorem order_sansPorts (k : Byte) (b : Binding) (v : Byte) (p : Part) :
    (order k b v p).sansPorts = p.sansPorts := by
  unfold order; split <;> simp

@[simp] theorem sendValve_sansPorts (h : HoseNo) (c : Nat) (p : Part) :
    (sendValve h c p).sansPorts = p.sansPorts := order_sansPorts ..
@[simp] theorem sendInlet_sansPorts (t : TankNo) (c : Nat) (p : Part) :
    (sendInlet t c p).sansPorts = p.sansPorts := order_sansPorts ..
@[simp] theorem sendRun_sansPorts (t : TankNo) (c : Nat) (p : Part) :
    (sendRun t c p).sansPorts = p.sansPorts := order_sansPorts ..
@[simp] theorem forceLamp_sansPorts (h : HoseNo) (v : Byte) (p : Part) :
    (forceLamp h v p).sansPorts = p.sansPorts := order_sansPorts ..
@[simp] theorem sendLamp_sansPorts (h : HoseNo) (v : Byte) (p : Part) :
    (sendLamp h v p).sansPorts = p.sansPorts := by
  unfold sendLamp; split <;> simp

@[simp] theorem reply_sansPorts (src : Node) (st : Status) (d : List Byte) (p : Part) :
    (reply src st d p).sansPorts = p.sansPorts := modPort_sansPorts ..
@[simp] theorem consumeUp_sansPorts (p : Part) : (consumeUp p).sansPorts = p.sansPorts := modPort_sansPorts ..

@[simp] theorem shutOrders_sansPorts (hs : List HoseNo) (ts : List TankNo) (p : Part) :
    (shutOrders hs ts p).sansPorts = p.sansPorts := by
  simp only [shutOrders]
  rw [each_keep Part.sansPorts _ (by simp), each_keep Part.sansPorts _ (by simp), each_keep Part.sansPorts _ (by simp),
    each_keep Part.sansPorts _ (by simp)]

@[simp] theorem dropBarred_sansPorts (p : Part) : (dropBarred p).sansPorts = p.sansPorts := rfl

/-! ## Notices and records -/

@[simp] theorem syncLines_sansNotices (p : Part) : (syncLines p).sansNotices = p.sansNotices := rfl

@[simp] theorem raise_sansNotices (n : Notice) (p : Part) : (raise n p).sansNotices = p.sansNotices := by
  unfold raise
  split
  · rfl
  · dsimp only
    split
    · rfl
    · rw [sansNotices_of (modPort_sansPorts ..)]; rfl

@[simp] theorem headChanged_sansRecords (p : Part) : (headChanged p).sansRecords = p.sansRecords := by
  unfold headChanged; split <;> rfl

@[simp] theorem placeRecord_sansRecords (r : Record) (p : Part) : (placeRecord r p).sansRecords = p.sansRecords := by
  unfold placeRecord
  dsimp only
  split <;> split <;> first
    | rfl
    | (rw [sansRecords_of (raise_sansNotices ..)]; first | rfl | (rw [headChanged_sansRecords]; rfl))
    | (rw [headChanged_sansRecords]; rfl)

@[simp] theorem placeReserved_sansRecords (r : Record) (p : Part) :
    (placeReserved r p).sansRecords = p.sansRecords := by
  simp only [placeReserved, placeRecord_sansRecords]; rfl

/-! ## Fills and runs -/

@[simp] theorem modHose_sansFills (h : HoseNo) (f : Hose → Hose) (p : Part) :
    (modHose h f p).sansFills = p.sansFills := rfl
@[simp] theorem setMode_sansFills (h : HoseNo) (m : HoseMode) (p : Part) :
    (setMode h m p).sansFills = p.sansFills := rfl
@[simp] theorem modTally_sansFills (h : HoseNo) (f : Tally → Tally) (p : Part) :
    (modTally h f p).sansFills = p.sansFills := rfl
@[simp] theorem modTank_sansFills (t : TankNo) (f : Tank → Tank) (p : Part) :
    (modTank t f p).sansFills = p.sansFills := rfl
@[simp] theorem modPump_sansFills (t : TankNo) (f : Pump → Pump) (p : Part) :
    (modPump t f p).sansFills = p.sansFills := rfl
@[simp] theorem openOnTank_sansFills (t : TankNo) (p : Part) : (openOnTank t p).sansFills = p.sansFills := rfl
@[simp] theorem closeOnTank_sansFills (t : TankNo) (p : Part) : (closeOnTank t p).sansFills = p.sansFills := rfl

/-- An operation on the ports alone keeps the view without fills. -/
theorem fills_of_ports {p q : Part} (h : p.sansPorts = q.sansPorts) : p.sansFills = q.sansFills :=
  sansFills_of (sansRecords_of (sansNotices_of h))
theorem fills_of_notices {p q : Part} (h : p.sansNotices = q.sansNotices) : p.sansFills = q.sansFills :=
  sansFills_of (sansRecords_of h)

@[simp] theorem sendValve_sansFills (h : HoseNo) (c : Nat) (p : Part) :
    (sendValve h c p).sansFills = p.sansFills := fills_of_ports (by simp)
@[simp] theorem sendInlet_sansFills (t : TankNo) (c : Nat) (p : Part) :
    (sendInlet t c p).sansFills = p.sansFills := fills_of_ports (by simp)
@[simp] theorem sendRun_sansFills (t : TankNo) (c : Nat) (p : Part) :
    (sendRun t c p).sansFills = p.sansFills := fills_of_ports (by simp)
@[simp] theorem sendLamp_sansFills (h : HoseNo) (v : Byte) (p : Part) :
    (sendLamp h v p).sansFills = p.sansFills := fills_of_ports (by simp)
@[simp] theorem raise_sansFills (n : Notice) (p : Part) : (raise n p).sansFills = p.sansFills :=
  fills_of_notices (by simp)
@[simp] theorem placeReserved_sansFills (r : Record) (p : Part) : (placeReserved r p).sansFills = p.sansFills :=
  sansFills_of (by simp)

@[simp] theorem claimPump_sansFills (h : HoseNo) (t : TankNo) (p : Part) :
    (claimPump h t p).sansFills = p.sansFills := by
  unfold claimPump; dsimp only; split <;> (try split) <;> simp

@[simp] theorem releasePump_sansFills (t : TankNo) (p : Part) : (releasePump t p).sansFills = p.sansFills := by
  unfold releasePump; dsimp only; split <;> simp

@[simp] theorem enterClosing_sansFills (h : HoseNo) (c : EndCause) (t : Transaction) (p : Part) :
    (enterClosing h c t p).sansFills = p.sansFills := by simp [enterClosing]

@[simp] theorem enterOut_sansFills (h : HoseNo) (p : Part) : (enterOut h p).sansFills = p.sansFills := by
  simp [enterOut]

@[simp] theorem endRun_sansFills (h : HoseNo) (c : EndCause) (s : Session) (r : ProvingRun) (p : Part) :
    (endRun h c s r p).sansFills = p.sansFills := by
  unfold endRun; dsimp only; split <;> simp

@[simp] theorem endRequest_sansFills (h : HoseNo) (c : EndCause) (p : Part) :
    (endRequest h c p).sansFills = p.sansFills := by
  unfold endRequest
  split
  · rfl
  · rfl
  · split <;> simp
  · simp
  · split
    · split <;> simp
    · rfl

@[simp] theorem endFills_sansFills (t : TankNo) (c : EndCause) (p : Part) :
    (endFills t c p).sansFills = p.sansFills :=
  each_keep Part.sansFills _ (fun h p => by split <;> simp) _ _

@[simp] theorem stopPumping_sansFills (t : TankNo) (p : Part) : (stopPumping t p).sansFills = p.sansFills := by
  unfold stopPumping
  dsimp only
  rw [modPump_sansFills]
  split
  · exact each_keep Part.sansFills _ (fun h p => by simp) _ _
  · rfl

@[simp] theorem confirmPump_sansFills (t : TankNo) (p : Part) : (confirmPump t p).sansFills = p.sansFills := by
  unfold confirmPump
  rw [each_keep Part.sansFills _ (fun h p => by simp), modPump_sansFills]

/-! ## Trips -/

@[simp] theorem modZone_sansTrips (z : ZoneNo) (f : Zone → Zone) (p : Part) :
    (modZone z f p).sansTrips = p.sansTrips := rfl
@[simp] theorem tripDelivery_sansFills (t : TankNo) (p : Part) : (tripDelivery t p).sansFills = p.sansFills := rfl

@[simp] theorem tripSource_sansTrips (c : Cause) (z : ZoneNo) (p : Part) :
    (tripSource c z p).sansTrips = p.sansTrips := by
  unfold tripSource
  split
  · rfl
  · rw [sansTrips_of (raise_sansFills ..),
      each_keep Part.sansTrips _ (fun t p => sansTrips_of (tripDelivery_sansFills t p)),
      sansTrips_of (fills_of_ports (dropBarred_sansPorts _)), sansTrips_of (fills_of_ports (shutOrders_sansPorts ..)),
      each_keep Part.sansTrips _ (fun h p => sansTrips_of (endRequest_sansFills h _ p)),
      sansTrips_of (fills_of_notices (syncLines_sansNotices _))]
    rfl

@[simp] theorem tripAll_sansTrips (c : Cause) (p : Part) : (tripAll c p).sansTrips = p.sansTrips :=
  each_keep Part.sansTrips _ (by simp) _ _

@[simp] theorem tripFor_sansTrips (c : Cause) (z : Option ZoneNo) (p : Part) :
    (tripFor c z p).sansTrips = p.sansTrips := by cases z <;> simp [tripFor]

@[simp] theorem tripHose_sansTrips (c : Cause) (h : HoseNo) (p : Part) :
    (tripHose c h p).sansTrips = p.sansTrips := by unfold tripHose; split <;> simp

@[simp] theorem recoveryTest_sansTrips (z : ZoneNo) (p : Part) : (recoveryTest z p).sansTrips = p.sansTrips := by
  unfold recoveryTest; split <;> rfl

@[simp] theorem enterRecovery_sansTrips (z : ZoneNo) (p : Part) : (enterRecovery z p).sansTrips = p.sansTrips := by
  unfold enterRecovery
  rw [each_keep Part.sansTrips _ (fun h p => sansTrips_of (fills_of_ports (forceLamp_sansPorts h _ p)))]
  rfl

@[simp] theorem gaugeMark_sansTrips (t : TankNo) (p : Part) : (gaugeMark t p).sansTrips = p.sansTrips := by
  unfold gaugeMark; dsimp only; split <;> simp

@[simp] theorem setTankState_sansTrips (t : TankNo) (s : TankState) (p : Part) :
    (setTankState t s p).sansTrips = p.sansTrips := by
  simp only [setTankState, recoveryTest_sansTrips]; rfl

/-! ## Stock -/

@[simp] theorem lowStockTest_sansFills (t : TankNo) (p : Part) : (lowStockTest t p).sansFills = p.sansFills := by
  unfold lowStockTest
  dsimp only
  split
  · split <;> simp
  · rfl

@[simp] theorem disturbWindows_sansFills (t : TankNo) (p : Part) : (disturbWindows t p).sansFills = p.sansFills := rfl

@[simp] theorem handOff_sansFills (t : TankNo) (a : Account) (ml : Nat) (p : Part) :
    (handOff t a ml p).sansFills = p.sansFills := by unfold handOff; split <;> simp

@[simp] theorem closeInlet_sansFills (t : TankNo) (c : CloseCause) (p : Part) :
    (closeInlet t c p).sansFills = p.sansFills := by unfold closeInlet; split <;> simp

@[simp] theorem takeReading_sansFills (t : TankNo) (r : LevelReading) (p : Part) :
    (takeReading t r p).sansFills = p.sansFills := rfl

@[simp] theorem lossStep_sansTrips (t : TankNo) (b : Bool) (p : Part) : (lossStep t b p).sansTrips = p.sansTrips := by
  unfold lossStep
  dsimp only
  split
  · split
    · rfl
    · split
      · rw [tripSource_sansTrips]; rfl
      · rfl
    · rfl
  · rfl

@[simp] theorem restStep_sansFills (t : TankNo) (p : Part) : (restStep t p).sansFills = p.sansFills := by
  unfold restStep; split <;> (try split) <;> simp

@[simp] theorem highHighTest_sansFills (t : TankNo) (l : Nat) (p : Part) :
    (highHighTest t l p).sansFills = p.sansFills := by unfold highHighTest; split <;> simp

@[simp] theorem takeLevel_sansTrips (t : TankNo) (d : List Byte) (p : Part) :
    (takeLevel t d p).sansTrips = p.sansTrips := by
  unfold takeLevel
  split
  · rfl
  · split
    · exact sansTrips_of (by simp [faultedLevel])
    · dsimp only
      rw [sansTrips_of (highHighTest_sansFills ..), sansTrips_of (restStep_sansFills ..), lossStep_sansTrips]
      split
      · exact sansTrips_of (takeReading_sansFills ..)
      · rw [gaugeMark_sansTrips]; exact sansTrips_of (takeReading_sansFills ..)

@[simp] theorem restExpiry_sansTrips (t : TankNo) (p : Part) : (restExpiry t p).sansTrips = p.sansTrips := by
  unfold restExpiry
  dsimp only
  split
  · rfl
  · split
    · rfl
    · split
      · simp only [tripSource_sansTrips]; rfl
      · split
        · rw [sansTrips_of (raise_sansFills ..)]; rfl
        · rfl

@[simp] theorem endDelivery_sansTrips (t : TankNo) (c : CloseCause) (d : Delivery) (p : Part) :
    (endDelivery t c d p).sansTrips = p.sansTrips := by
  unfold endDelivery
  dsimp only
  rw [setTankState_sansTrips]
  apply sansTrips_of
  split <;> split <;> simp

/-! ## Accounts, samples and tags -/

/-- An operation on the fills and zones keeps the view without accounts. -/
theorem accounts_of_fills {p q : Part} (h : p.sansFills = q.sansFills) : p.sansAccounts = q.sansAccounts :=
  sansAccounts_of (sansTrips_of h)

@[simp] theorem modMachine_sansAccounts (m : SlotNo) (f : MachineRec → MachineRec) (p : Part) :
    (modMachine m f p).sansAccounts = p.sansAccounts := rfl

@[simp] theorem closeMachine_sansAccounts (t : Transaction) (c : EndCause) (p : Part) :
    (closeMachine t c p).sansAccounts = p.sansAccounts := by
  unfold closeMachine
  dsimp only
  rw [modMachine_sansAccounts]
  split
  · rw [accounts_of_fills (raise_sansFills ..), modMachine_sansAccounts]
  · rfl

@[simp] theorem leaveClosing_sansAccounts (h : HoseNo) (p : Part) : (leaveClosing h p).sansAccounts = p.sansAccounts := by
  unfold leaveClosing
  split
  · dsimp only
    split
    · rw [accounts_of_fills (enterOut_sansFills ..), accounts_of_fills (modHose_sansFills ..),
        accounts_of_fills (closeOnTank_sansFills ..), closeMachine_sansAccounts,
        accounts_of_fills (placeReserved_sansFills ..)]
    · rw [accounts_of_fills (setMode_sansFills ..), accounts_of_fills (closeOnTank_sansFills ..),
        closeMachine_sansAccounts, accounts_of_fills (placeReserved_sansFills ..)]
  · rfl

end Sys2Proof.Machine
end

