-- ==== Sys2Proof/Laws/Blocks.lean ====
section
/-! SUPPORT. What the larger operations leave alone: samples, TAG reports, the taking of a field telegram, and the Pass
filter's decision. -/

namespace Sys2Proof.Machine

open Sys2Proof

/-! ## Samples -/

@[simp] theorem markDoubt_sansFills (h : HoseNo) (p : Part) : (markDoubt h p).sansFills = p.sansFills := rfl

@[simp] theorem addUncoupled_sansTrips (h : HoseNo) (ml : Nat) (p : Part) :
    (addUncoupled h ml p).sansTrips = p.sansTrips := by
  unfold addUncoupled
  dsimp only
  split
  · split
    · rw [tripHose_sansTrips]; rfl
    · rfl
  · rfl

@[simp] theorem countSample_sansAccounts (h : HoseNo) (x : Sample) (c : MeterContext) (d : Nat) (p : Part) :
    (countSample h x c d p).sansAccounts = p.sansAccounts := by
  unfold countSample sampleFactor
  dsimp only
  split <;> split <;>
    (rw [sansAccounts_of (addUncoupled_sansTrips ..), accounts_of_fills (handOff_sansFills ..)]; rfl)

@[simp] theorem countJump_sansFills (h : HoseNo) (p : Part) : (countJump h p).sansFills = p.sansFills := by
  unfold countJump
  dsimp only
  split
  · split <;> simp
  · simp

@[simp] theorem flowStep_sansFills (h : HoseNo) (p : Part) : (flowStep h p).sansFills = p.sansFills := by
  unfold flowStep; split <;> simp

@[simp] theorem capStep_sansFills (h : HoseNo) (p : Part) : (capStep h p).sansFills = p.sansFills := by
  unfold capStep
  split
  · split <;> simp
  · split <;> simp
  · rfl

@[simp] theorem overrunStep_sansTrips (h : HoseNo) (p : Part) : (overrunStep h p).sansTrips = p.sansTrips := by
  unfold overrunStep
  split
  · split <;> simp
  · rfl

@[simp] theorem lowerThrottle_sansFills (h : HoseNo) (v : Int) (t : Tally) (p : Part) :
    (lowerThrottle h v t p).sansFills = p.sansFills := by
  unfold lowerThrottle; dsimp only; split <;> simp

@[simp] theorem taperStep_sansFills (h : HoseNo) (p : Part) : (taperStep h p).sansFills = p.sansFills := by
  unfold taperStep; split <;> simp

@[simp] theorem runFlowStep_sansFills (h : HoseNo) (p : Part) : (runFlowStep h p).sansFills = p.sansFills := by
  unfold runFlowStep
  split
  · split
    · split <;> simp
    · rfl
  · rfl

@[simp] theorem runCapStep_sansFills (h : HoseNo) (p : Part) : (runCapStep h p).sansFills = p.sansFills := by
  unfold runCapStep
  split
  · split
    · split <;> simp
    · rfl
  · rfl

@[simp] theorem runTaperStep_sansFills (h : HoseNo) (p : Part) : (runTaperStep h p).sansFills = p.sansFills := by
  unfold runTaperStep
  split
  · split <;> simp
  · rfl

@[simp] theorem afterSample_sansTrips (h : HoseNo) (moved : Bool) (p : Part) :
    (afterSample h moved p).sansTrips = p.sansTrips := by
  have steps (q : Part) (e : q.sansTrips = p.sansTrips) :
      (runCapStep h (overrunStep h (capStep h q))).sansTrips = p.sansTrips := by
    rw [sansTrips_of (runCapStep_sansFills ..), overrunStep_sansTrips, sansTrips_of (capStep_sansFills ..), e]
  cases moved
  · exact steps p rfl
  · exact (sansTrips_of (runTaperStep_sansFills ..)).trans ((sansTrips_of (taperStep_sansFills ..)).trans
      (steps (runFlowStep h (flowStep h p)) (sansTrips_of (by simp))))

@[simp] theorem takeMeter_sansAccounts (h : HoseNo) (d : List Byte) (doubtful : Bool) (p : Part) :
    (takeMeter h d doubtful p).sansAccounts = p.sansAccounts := by
  have start : ∀ x : Sample, (modHose h (fun y => { y with baseline := some x.count })
      (if x.fault || doubtful then markDoubt h p else p)).sansAccounts = p.sansAccounts := fun x => by
    split <;> rfl
  unfold takeMeter takeSample
  split
  · dsimp only
    split
    · split
      · rw [sansAccounts_of (afterSample_sansTrips ..), accounts_of_fills (countJump_sansFills ..), start]
      · rw [sansAccounts_of (afterSample_sansTrips ..), countSample_sansAccounts, start]
    · rw [sansAccounts_of (afterSample_sansTrips ..), start]
  · rfl

/-! ## TAG reports -/

@[simp] theorem refuseFill_sansFills (h : HoseNo) (c : RefusalCause) (tag : Long) (m : Option SlotNo)
    (hours : Option Nat) (fl : Flags) (p : Part) : (refuseFill h c tag m hours fl p).sansFills = p.sansFills := by
  unfold refuseFill
  dsimp only
  split
  · rw [sansFills_of (placeRecord_sansRecords ..), sendLamp_sansFills]
  · rw [modHose_sansFills, sendLamp_sansFills]

@[simp] theorem openFill_sansAccounts (h : HoseNo) (t : Transaction) (p : Part) :
    (openFill h t p).sansAccounts = p.sansAccounts := by
  unfold openFill
  rw [accounts_of_fills (claimPump_sansFills ..), accounts_of_fills (sendLamp_sansFills ..),
    accounts_of_fills (sendValve_sansFills ..)]
  rfl

@[simp] theorem capCheck_sansAccounts (h : HoseNo) (r : TagReading) (m : SlotNo) (t : TankNo) (i : ProductNo)
    (p : Part) : (capCheck h r m t i p).sansAccounts = p.sansAccounts := by
  have assessed : ∀ (x : MachineRec) (b : Bool),
      (if b then raise .hoursFault (modMachine m (fun _ => x) p) else modMachine m (fun _ => x) p).sansAccounts
        = p.sansAccounts := fun x b => by
    split
    · rw [accounts_of_fills (raise_sansFills ..)]; rfl
    · rfl
  unfold capCheck
  dsimp only
  split
  · rw [accounts_of_fills (refuseFill_sansFills ..), assessed]
  · rw [openFill_sansAccounts, assessed]

@[simp] theorem holdEvaluation_sansAccounts (m : SlotNo) (c : ProductClass) (hours : Option Nat) (p : Part) :
    (holdEvaluation m c hours p).sansAccounts = p.sansAccounts := by
  unfold holdEvaluation
  dsimp only
  split
  · split
    · rw [accounts_of_fills (raise_sansFills ..)]; rfl
    · rfl
  · rfl

@[simp] theorem authorize_sansAccounts (h : HoseNo) (r : TagReading) (p : Part) :
    (authorize h r p).sansAccounts = p.sansAccounts := by
  unfold authorize
  split
  · exact accounts_of_fills (by simp)
  · split
    · exact accounts_of_fills (by simp)
    · split
      · exact accounts_of_fills (by simp)
      · rfl
      · split
        · rfl
        · dsimp only
          split
          · rw [accounts_of_fills (refuseFill_sansFills ..), holdEvaluation_sansAccounts]
          · split
            · rw [accounts_of_fills (refuseFill_sansFills ..), holdEvaluation_sansAccounts]
            · rw [capCheck_sansAccounts, holdEvaluation_sansAccounts]

@[simp] theorem beginRun_sansFills (h : HoseNo) (s : Session) (p : Part) :
    (beginRun h s p).sansFills = p.sansFills := by
  unfold beginRun; split <;> simp

@[simp] theorem coupledEdge_sansAccounts (h : HoseNo) (r : TagReading) (p : Part) :
    (coupledEdge h r p).sansAccounts = p.sansAccounts := by
  unfold coupledEdge
  split
  · simp
  · simp
  · exact accounts_of_fills (by simp)
  · rfl

@[simp] theorem holsteredReport_sansFills (h : HoseNo) (p : Part) :
    (holsteredReport h p).sansFills = p.sansFills := by
  unfold holsteredReport; dsimp only; split <;> simp

@[simp] theorem tagRequest_sansFills (h : HoseNo) (n : Nozzle) (p : Part) :
    (tagRequest h n p).sansFills = p.sansFills := by unfold tagRequest; split <;> simp

@[simp] theorem takeTag_sansAccounts (h : HoseNo) (d : List Byte) (p : Part) :
    (takeTag h d p).sansAccounts = p.sansAccounts := by
  unfold takeTag
  split
  · rfl
  · dsimp only
    split
    · rw [coupledEdge_sansAccounts]
      split <;> exact accounts_of_fills (by simp)
    · split <;> exact accounts_of_fills (by simp)

/-! ## The Pass filter's decision -/

/-- The part without its ports, the pass rules and the filter entry. -/
def Part.sansFilter (p : Part) : Part :=
  { p.sansPorts with rules := fill 32 PassRule.atReset, filter := FilterEntry.atReset }

theorem sansFilter_of {p q : Part} (h : p.sansPorts = q.sansPorts) : p.sansFilter = q.sansFilter := by
  simp only [Part.sansFilter, h]

@[simp] theorem settleTelegram_sansPorts (dir : Direction) (t : Telegram) (b : Bool) (p : Part) :
    (settleTelegram dir t b p).sansPorts = p.sansPorts := by
  unfold settleTelegram; split <;> simp [passOn, dropTable]

/-- The filter's decision touches the ports, the rules and the filter entry alone. -/
@[simp] theorem offer_sansFilter (dir : Direction) (t : Telegram) (p : Part) :
    (offer dir t p).sansFilter = p.sansFilter := by
  unfold offer
  split
  · cases dir
    · rfl
    · unfold guardDrop
      rw [sansFilter_of (countEvent_sansPorts ..)]
      rfl
  · split
    · exact sansFilter_of (countEvent_sansPorts ..)
    · unfold tableDecision
      split
      · exact sansFilter_of (by simp)
      · split
        · rw [sansFilter_of (settleTelegram_sansPorts ..)]; rfl
        · exact sansFilter_of (by simp)

end Sys2Proof.Machine
end

