-- ==== Sys2Proof/Laws/Reads.lean ====
section
/-! SUPPORT. What can still be read after an operation that leaves it alone, for the shared operations: orders and
replies (which change the ports alone), notices, and records. -/

namespace Sys2Proof.Machine

open Sys2Proof

/-! ## A field that two equal views share -/

theorem rules_of_sansPorts {p q : Part} (h : p.sansPorts = q.sansPorts) : p.rules = q.rules :=
  show p.sansPorts.rules = q.sansPorts.rules from h ▸ rfl
theorem filter_of_sansPorts {p q : Part} (h : p.sansPorts = q.sansPorts) : p.filter = q.filter :=
  show p.sansPorts.filter = q.sansPorts.filter from h ▸ rfl
theorem devices_of_sansPorts {p q : Part} (h : p.sansPorts = q.sansPorts) : p.devices = q.devices :=
  show p.sansPorts.devices = q.sansPorts.devices from h ▸ rfl
theorem hoses_of_sansPorts {p q : Part} (h : p.sansPorts = q.sansPorts) : p.hoses = q.hoses :=
  show p.sansPorts.hoses = q.sansPorts.hoses from h ▸ rfl
theorem pumps_of_sansPorts {p q : Part} (h : p.sansPorts = q.sansPorts) : p.pumps = q.pumps :=
  show p.sansPorts.pumps = q.sansPorts.pumps from h ▸ rfl
theorem tanks_of_sansPorts {p q : Part} (h : p.sansPorts = q.sansPorts) : p.tanks = q.tanks :=
  show p.sansPorts.tanks = q.sansPorts.tanks from h ▸ rfl
theorem products_of_sansPorts {p q : Part} (h : p.sansPorts = q.sansPorts) : p.products = q.products :=
  show p.sansPorts.products = q.sansPorts.products from h ▸ rfl
theorem machines_of_sansPorts {p q : Part} (h : p.sansPorts = q.sansPorts) : p.machines = q.machines :=
  show p.sansPorts.machines = q.sansPorts.machines from h ▸ rfl
theorem profileA_of_sansPorts {p q : Part} (h : p.sansPorts = q.sansPorts) : p.profileA = q.profileA :=
  show p.sansPorts.profileA = q.sansPorts.profileA from h ▸ rfl
theorem profileB_of_sansPorts {p q : Part} (h : p.sansPorts = q.sansPorts) : p.profileB = q.profileB :=
  show p.sansPorts.profileB = q.sansPorts.profileB from h ▸ rfl
theorem current_of_sansPorts {p q : Part} (h : p.sansPorts = q.sansPorts) : p.current = q.current :=
  show p.sansPorts.current = q.sansPorts.current from h ▸ rfl
theorem letter_of_sansPorts {p q : Part} (h : p.sansPorts = q.sansPorts) : p.letter = q.letter :=
  show p.sansPorts.letter = q.sansPorts.letter from h ▸ rfl
theorem zones_of_sansPorts {p q : Part} (h : p.sansPorts = q.sansPorts) : p.zones = q.zones :=
  show p.sansPorts.zones = q.sansPorts.zones from h ▸ rfl
theorem shutdown_of_sansPorts {p q : Part} (h : p.sansPorts = q.sansPorts) : p.shutdown = q.shutdown :=
  show p.sansPorts.shutdown = q.sansPorts.shutdown from h ▸ rfl
theorem bayAlarm_of_sansPorts {p q : Part} (h : p.sansPorts = q.sansPorts) : p.bayAlarm = q.bayAlarm :=
  show p.sansPorts.bayAlarm = q.sansPorts.bayAlarm from h ▸ rfl
theorem records_of_sansPorts {p q : Part} (h : p.sansPorts = q.sansPorts) : p.records = q.records :=
  show p.sansPorts.records = q.sansPorts.records from h ▸ rfl
theorem reserved_of_sansPorts {p q : Part} (h : p.sansPorts = q.sansPorts) : p.reserved = q.reserved :=
  show p.sansPorts.reserved = q.sansPorts.reserved from h ▸ rfl
theorem nextSerial_of_sansPorts {p q : Part} (h : p.sansPorts = q.sansPorts) : p.nextSerial = q.nextSerial :=
  show p.sansPorts.nextSerial = q.sansPorts.nextSerial from h ▸ rfl
theorem pendingNotices_of_sansPorts {p q : Part} (h : p.sansPorts = q.sansPorts) : p.pendingNotices = q.pendingNotices :=
  show p.sansPorts.pendingNotices = q.sansPorts.pendingNotices from h ▸ rfl
theorem noticeMask_of_sansPorts {p q : Part} (h : p.sansPorts = q.sansPorts) : p.noticeMask = q.noticeMask :=
  show p.sansPorts.noticeMask = q.sansPorts.noticeMask from h ▸ rfl
theorem bayMode_of_sansPorts {p q : Part} (h : p.sansPorts = q.sansPorts) : p.bayMode = q.bayMode :=
  show p.sansPorts.bayMode = q.sansPorts.bayMode from h ▸ rfl
theorem source_of_sansPorts {p q : Part} (h : p.sansPorts = q.sansPorts) : p.source = q.source :=
  show p.sansPorts.source = q.sansPorts.source from h ▸ rfl
theorem profileHigh_of_sansPorts {p q : Part} (h : p.sansPorts = q.sansPorts) : p.profileHigh = q.profileHigh :=
  show p.sansPorts.profileHigh = q.sansPorts.profileHigh from h ▸ rfl
theorem clock_of_sansPorts {p q : Part} (h : p.sansPorts = q.sansPorts) : p.clock = q.clock :=
  show p.sansPorts.clock = q.sansPorts.clock from h ▸ rfl
theorem clockUnset_of_sansPorts {p q : Part} (h : p.sansPorts = q.sansPorts) : p.clockUnset = q.clockUnset :=
  show p.sansPorts.clockUnset = q.sansPorts.clockUnset from h ▸ rfl
theorem cursor_of_sansPorts {p q : Part} (h : p.sansPorts = q.sansPorts) : p.cursor = q.cursor :=
  show p.sansPorts.cursor = q.sansPorts.cursor from h ▸ rfl
theorem test_of_sansPorts {p q : Part} (h : p.sansPorts = q.sansPorts) : p.test = q.test :=
  show p.sansPorts.test = q.sansPorts.test from h ▸ rfl
theorem counts_of_sansPorts {p q : Part} (h : p.sansPorts = q.sansPorts) : p.counts = q.counts :=
  show p.sansPorts.counts = q.sansPorts.counts from h ▸ rfl
theorem freeUses_of_sansPorts {p q : Part} (h : p.sansPorts = q.sansPorts) : p.freeUses = q.freeUses :=
  show p.sansPorts.freeUses = q.sansPorts.freeUses from h ▸ rfl
theorem rules_of_sansNotices {p q : Part} (h : p.sansNotices = q.sansNotices) : p.rules = q.rules :=
  show p.sansNotices.rules = q.sansNotices.rules from h ▸ rfl
theorem filter_of_sansNotices {p q : Part} (h : p.sansNotices = q.sansNotices) : p.filter = q.filter :=
  show p.sansNotices.filter = q.sansNotices.filter from h ▸ rfl
theorem devices_of_sansNotices {p q : Part} (h : p.sansNotices = q.sansNotices) : p.devices = q.devices :=
  show p.sansNotices.devices = q.sansNotices.devices from h ▸ rfl
theorem hoses_of_sansNotices {p q : Part} (h : p.sansNotices = q.sansNotices) : p.hoses = q.hoses :=
  show p.sansNotices.hoses = q.sansNotices.hoses from h ▸ rfl
theorem pumps_of_sansNotices {p q : Part} (h : p.sansNotices = q.sansNotices) : p.pumps = q.pumps :=
  show p.sansNotices.pumps = q.sansNotices.pumps from h ▸ rfl
theorem tanks_of_sansNotices {p q : Part} (h : p.sansNotices = q.sansNotices) : p.tanks = q.tanks :=
  show p.sansNotices.tanks = q.sansNotices.tanks from h ▸ rfl
theorem products_of_sansNotices {p q : Part} (h : p.sansNotices = q.sansNotices) : p.products = q.products :=
  show p.sansNotices.products = q.sansNotices.products from h ▸ rfl
theorem machines_of_sansNotices {p q : Part} (h : p.sansNotices = q.sansNotices) : p.machines = q.machines :=
  show p.sansNotices.machines = q.sansNotices.machines from h ▸ rfl
theorem profileA_of_sansNotices {p q : Part} (h : p.sansNotices = q.sansNotices) : p.profileA = q.profileA :=
  show p.sansNotices.profileA = q.sansNotices.profileA from h ▸ rfl
theorem profileB_of_sansNotices {p q : Part} (h : p.sansNotices = q.sansNotices) : p.profileB = q.profileB :=
  show p.sansNotices.profileB = q.sansNotices.profileB from h ▸ rfl
theorem current_of_sansNotices {p q : Part} (h : p.sansNotices = q.sansNotices) : p.current = q.current :=
  show p.sansNotices.current = q.sansNotices.current from h ▸ rfl
theorem letter_of_sansNotices {p q : Part} (h : p.sansNotices = q.sansNotices) : p.letter = q.letter :=
  show p.sansNotices.letter = q.sansNotices.letter from h ▸ rfl
theorem zones_of_sansNotices {p q : Part} (h : p.sansNotices = q.sansNotices) : p.zones = q.zones :=
  show p.sansNotices.zones = q.sansNotices.zones from h ▸ rfl
theorem records_of_sansNotices {p q : Part} (h : p.sansNotices = q.sansNotices) : p.records = q.records :=
  show p.sansNotices.records = q.sansNotices.records from h ▸ rfl
theorem reserved_of_sansNotices {p q : Part} (h : p.sansNotices = q.sansNotices) : p.reserved = q.reserved :=
  show p.sansNotices.reserved = q.sansNotices.reserved from h ▸ rfl
theorem nextSerial_of_sansNotices {p q : Part} (h : p.sansNotices = q.sansNotices) : p.nextSerial = q.nextSerial :=
  show p.sansNotices.nextSerial = q.sansNotices.nextSerial from h ▸ rfl
theorem noticeMask_of_sansNotices {p q : Part} (h : p.sansNotices = q.sansNotices) : p.noticeMask = q.noticeMask :=
  show p.sansNotices.noticeMask = q.sansNotices.noticeMask from h ▸ rfl
theorem bayMode_of_sansNotices {p q : Part} (h : p.sansNotices = q.sansNotices) : p.bayMode = q.bayMode :=
  show p.sansNotices.bayMode = q.sansNotices.bayMode from h ▸ rfl
theorem source_of_sansNotices {p q : Part} (h : p.sansNotices = q.sansNotices) : p.source = q.source :=
  show p.sansNotices.source = q.sansNotices.source from h ▸ rfl
theorem profileHigh_of_sansNotices {p q : Part} (h : p.sansNotices = q.sansNotices) : p.profileHigh = q.profileHigh :=
  show p.sansNotices.profileHigh = q.sansNotices.profileHigh from h ▸ rfl
theorem clock_of_sansNotices {p q : Part} (h : p.sansNotices = q.sansNotices) : p.clock = q.clock :=
  show p.sansNotices.clock = q.sansNotices.clock from h ▸ rfl
theorem clockUnset_of_sansNotices {p q : Part} (h : p.sansNotices = q.sansNotices) : p.clockUnset = q.clockUnset :=
  show p.sansNotices.clockUnset = q.sansNotices.clockUnset from h ▸ rfl
theorem cursor_of_sansNotices {p q : Part} (h : p.sansNotices = q.sansNotices) : p.cursor = q.cursor :=
  show p.sansNotices.cursor = q.sansNotices.cursor from h ▸ rfl
theorem test_of_sansNotices {p q : Part} (h : p.sansNotices = q.sansNotices) : p.test = q.test :=
  show p.sansNotices.test = q.sansNotices.test from h ▸ rfl
theorem counts_of_sansNotices {p q : Part} (h : p.sansNotices = q.sansNotices) : p.counts = q.counts :=
  show p.sansNotices.counts = q.sansNotices.counts from h ▸ rfl
theorem freeUses_of_sansNotices {p q : Part} (h : p.sansNotices = q.sansNotices) : p.freeUses = q.freeUses :=
  show p.sansNotices.freeUses = q.sansNotices.freeUses from h ▸ rfl
theorem rules_of_sansRecords {p q : Part} (h : p.sansRecords = q.sansRecords) : p.rules = q.rules :=
  show p.sansRecords.rules = q.sansRecords.rules from h ▸ rfl
theorem filter_of_sansRecords {p q : Part} (h : p.sansRecords = q.sansRecords) : p.filter = q.filter :=
  show p.sansRecords.filter = q.sansRecords.filter from h ▸ rfl
theorem devices_of_sansRecords {p q : Part} (h : p.sansRecords = q.sansRecords) : p.devices = q.devices :=
  show p.sansRecords.devices = q.sansRecords.devices from h ▸ rfl
theorem hoses_of_sansRecords {p q : Part} (h : p.sansRecords = q.sansRecords) : p.hoses = q.hoses :=
  show p.sansRecords.hoses = q.sansRecords.hoses from h ▸ rfl
theorem pumps_of_sansRecords {p q : Part} (h : p.sansRecords = q.sansRecords) : p.pumps = q.pumps :=
  show p.sansRecords.pumps = q.sansRecords.pumps from h ▸ rfl
theorem tanks_of_sansRecords {p q : Part} (h : p.sansRecords = q.sansRecords) : p.tanks = q.tanks :=
  show p.sansRecords.tanks = q.sansRecords.tanks from h ▸ rfl
theorem products_of_sansRecords {p q : Part} (h : p.sansRecords = q.sansRecords) : p.products = q.products :=
  show p.sansRecords.products = q.sansRecords.products from h ▸ rfl
theorem machines_of_sansRecords {p q : Part} (h : p.sansRecords = q.sansRecords) : p.machines = q.machines :=
  show p.sansRecords.machines = q.sansRecords.machines from h ▸ rfl
theorem profileA_of_sansRecords {p q : Part} (h : p.sansRecords = q.sansRecords) : p.profileA = q.profileA :=
  show p.sansRecords.profileA = q.sansRecords.profileA from h ▸ rfl
theorem profileB_of_sansRecords {p q : Part} (h : p.sansRecords = q.sansRecords) : p.profileB = q.profileB :=
  show p.sansRecords.profileB = q.sansRecords.profileB from h ▸ rfl
theorem current_of_sansRecords {p q : Part} (h : p.sansRecords = q.sansRecords) : p.current = q.current :=
  show p.sansRecords.current = q.sansRecords.current from h ▸ rfl
theorem letter_of_sansRecords {p q : Part} (h : p.sansRecords = q.sansRecords) : p.letter = q.letter :=
  show p.sansRecords.letter = q.sansRecords.letter from h ▸ rfl
theorem zones_of_sansRecords {p q : Part} (h : p.sansRecords = q.sansRecords) : p.zones = q.zones :=
  show p.sansRecords.zones = q.sansRecords.zones from h ▸ rfl
theorem noticeMask_of_sansRecords {p q : Part} (h : p.sansRecords = q.sansRecords) : p.noticeMask = q.noticeMask :=
  show p.sansRecords.noticeMask = q.sansRecords.noticeMask from h ▸ rfl
theorem bayMode_of_sansRecords {p q : Part} (h : p.sansRecords = q.sansRecords) : p.bayMode = q.bayMode :=
  show p.sansRecords.bayMode = q.sansRecords.bayMode from h ▸ rfl
theorem source_of_sansRecords {p q : Part} (h : p.sansRecords = q.sansRecords) : p.source = q.source :=
  show p.sansRecords.source = q.sansRecords.source from h ▸ rfl
theorem profileHigh_of_sansRecords {p q : Part} (h : p.sansRecords = q.sansRecords) : p.profileHigh = q.profileHigh :=
  show p.sansRecords.profileHigh = q.sansRecords.profileHigh from h ▸ rfl
theorem clock_of_sansRecords {p q : Part} (h : p.sansRecords = q.sansRecords) : p.clock = q.clock :=
  show p.sansRecords.clock = q.sansRecords.clock from h ▸ rfl
theorem clockUnset_of_sansRecords {p q : Part} (h : p.sansRecords = q.sansRecords) : p.clockUnset = q.clockUnset :=
  show p.sansRecords.clockUnset = q.sansRecords.clockUnset from h ▸ rfl
theorem test_of_sansRecords {p q : Part} (h : p.sansRecords = q.sansRecords) : p.test = q.test :=
  show p.sansRecords.test = q.sansRecords.test from h ▸ rfl
theorem counts_of_sansRecords {p q : Part} (h : p.sansRecords = q.sansRecords) : p.counts = q.counts :=
  show p.sansRecords.counts = q.sansRecords.counts from h ▸ rfl
theorem freeUses_of_sansRecords {p q : Part} (h : p.sansRecords = q.sansRecords) : p.freeUses = q.freeUses :=
  show p.sansRecords.freeUses = q.sansRecords.freeUses from h ▸ rfl
theorem rules_of_sansFills {p q : Part} (h : p.sansFills = q.sansFills) : p.rules = q.rules :=
  show p.sansFills.rules = q.sansFills.rules from h ▸ rfl
theorem filter_of_sansFills {p q : Part} (h : p.sansFills = q.sansFills) : p.filter = q.filter :=
  show p.sansFills.filter = q.sansFills.filter from h ▸ rfl
theorem devices_of_sansFills {p q : Part} (h : p.sansFills = q.sansFills) : p.devices = q.devices :=
  show p.sansFills.devices = q.sansFills.devices from h ▸ rfl
theorem products_of_sansFills {p q : Part} (h : p.sansFills = q.sansFills) : p.products = q.products :=
  show p.sansFills.products = q.sansFills.products from h ▸ rfl
theorem machines_of_sansFills {p q : Part} (h : p.sansFills = q.sansFills) : p.machines = q.machines :=
  show p.sansFills.machines = q.sansFills.machines from h ▸ rfl
theorem profileA_of_sansFills {p q : Part} (h : p.sansFills = q.sansFills) : p.profileA = q.profileA :=
  show p.sansFills.profileA = q.sansFills.profileA from h ▸ rfl
theorem profileB_of_sansFills {p q : Part} (h : p.sansFills = q.sansFills) : p.profileB = q.profileB :=
  show p.sansFills.profileB = q.sansFills.profileB from h ▸ rfl
theorem current_of_sansFills {p q : Part} (h : p.sansFills = q.sansFills) : p.current = q.current :=
  show p.sansFills.current = q.sansFills.current from h ▸ rfl
theorem letter_of_sansFills {p q : Part} (h : p.sansFills = q.sansFills) : p.letter = q.letter :=
  show p.sansFills.letter = q.sansFills.letter from h ▸ rfl
theorem zones_of_sansFills {p q : Part} (h : p.sansFills = q.sansFills) : p.zones = q.zones :=
  show p.sansFills.zones = q.sansFills.zones from h ▸ rfl
theorem noticeMask_of_sansFills {p q : Part} (h : p.sansFills = q.sansFills) : p.noticeMask = q.noticeMask :=
  show p.sansFills.noticeMask = q.sansFills.noticeMask from h ▸ rfl
theorem bayMode_of_sansFills {p q : Part} (h : p.sansFills = q.sansFills) : p.bayMode = q.bayMode :=
  show p.sansFills.bayMode = q.sansFills.bayMode from h ▸ rfl
theorem source_of_sansFills {p q : Part} (h : p.sansFills = q.sansFills) : p.source = q.source :=
  show p.sansFills.source = q.sansFills.source from h ▸ rfl
theorem profileHigh_of_sansFills {p q : Part} (h : p.sansFills = q.sansFills) : p.profileHigh = q.profileHigh :=
  show p.sansFills.profileHigh = q.sansFills.profileHigh from h ▸ rfl
theorem clock_of_sansFills {p q : Part} (h : p.sansFills = q.sansFills) : p.clock = q.clock :=
  show p.sansFills.clock = q.sansFills.clock from h ▸ rfl
theorem clockUnset_of_sansFills {p q : Part} (h : p.sansFills = q.sansFills) : p.clockUnset = q.clockUnset :=
  show p.sansFills.clockUnset = q.sansFills.clockUnset from h ▸ rfl
theorem test_of_sansFills {p q : Part} (h : p.sansFills = q.sansFills) : p.test = q.test :=
  show p.sansFills.test = q.sansFills.test from h ▸ rfl
theorem counts_of_sansFills {p q : Part} (h : p.sansFills = q.sansFills) : p.counts = q.counts :=
  show p.sansFills.counts = q.sansFills.counts from h ▸ rfl
theorem freeUses_of_sansFills {p q : Part} (h : p.sansFills = q.sansFills) : p.freeUses = q.freeUses :=
  show p.sansFills.freeUses = q.sansFills.freeUses from h ▸ rfl

/-! ## The ports alone -/

@[simp] theorem order_rules (k : Byte) (b : Binding) (v : Byte) (p : Part) :
    (order k b v p).rules = p.rules := rules_of_sansPorts (order_sansPorts k b v p)
@[simp] theorem order_filter (k : Byte) (b : Binding) (v : Byte) (p : Part) :
    (order k b v p).filter = p.filter := filter_of_sansPorts (order_sansPorts k b v p)
@[simp] theorem order_devices (k : Byte) (b : Binding) (v : Byte) (p : Part) :
    (order k b v p).devices = p.devices := devices_of_sansPorts (order_sansPorts k b v p)
@[simp] theorem order_hoses (k : Byte) (b : Binding) (v : Byte) (p : Part) :
    (order k b v p).hoses = p.hoses := hoses_of_sansPorts (order_sansPorts k b v p)
@[simp] theorem order_pumps (k : Byte) (b : Binding) (v : Byte) (p : Part) :
    (order k b v p).pumps = p.pumps := pumps_of_sansPorts (order_sansPorts k b v p)
@[simp] theorem order_tanks (k : Byte) (b : Binding) (v : Byte) (p : Part) :
    (order k b v p).tanks = p.tanks := tanks_of_sansPorts (order_sansPorts k b v p)
@[simp] theorem order_products (k : Byte) (b : Binding) (v : Byte) (p : Part) :
    (order k b v p).products = p.products := products_of_sansPorts (order_sansPorts k b v p)
@[simp] theorem order_machines (k : Byte) (b : Binding) (v : Byte) (p : Part) :
    (order k b v p).machines = p.machines := machines_of_sansPorts (order_sansPorts k b v p)
@[simp] theorem order_profileA (k : Byte) (b : Binding) (v : Byte) (p : Part) :
    (order k b v p).profileA = p.profileA := profileA_of_sansPorts (order_sansPorts k b v p)
@[simp] theorem order_profileB (k : Byte) (b : Binding) (v : Byte) (p : Part) :
    (order k b v p).profileB = p.profileB := profileB_of_sansPorts (order_sansPorts k b v p)
@[simp] theorem order_current (k : Byte) (b : Binding) (v : Byte) (p : Part) :
    (order k b v p).current = p.current := current_of_sansPorts (order_sansPorts k b v p)
@[simp] theorem order_letter (k : Byte) (b : Binding) (v : Byte) (p : Part) :
    (order k b v p).letter = p.letter := letter_of_sansPorts (order_sansPorts k b v p)
@[simp] theorem order_zones (k : Byte) (b : Binding) (v : Byte) (p : Part) :
    (order k b v p).zones = p.zones := zones_of_sansPorts (order_sansPorts k b v p)
@[simp] theorem order_shutdown (k : Byte) (b : Binding) (v : Byte) (p : Part) :
    (order k b v p).shutdown = p.shutdown := shutdown_of_sansPorts (order_sansPorts k b v p)
@[simp] theorem order_bayAlarm (k : Byte) (b : Binding) (v : Byte) (p : Part) :
    (order k b v p).bayAlarm = p.bayAlarm := bayAlarm_of_sansPorts (order_sansPorts k b v p)
@[simp] theorem order_records (k : Byte) (b : Binding) (v : Byte) (p : Part) :
    (order k b v p).records = p.records := records_of_sansPorts (order_sansPorts k b v p)
@[simp] theorem order_reserved (k : Byte) (b : Binding) (v : Byte) (p : Part) :
    (order k b v p).reserved = p.reserved := reserved_of_sansPorts (order_sansPorts k b v p)
@[simp] theorem order_nextSerial (k : Byte) (b : Binding) (v : Byte) (p : Part) :
    (order k b v p).nextSerial = p.nextSerial := nextSerial_of_sansPorts (order_sansPorts k b v p)
@[simp] theorem order_pendingNotices (k : Byte) (b : Binding) (v : Byte) (p : Part) :
    (order k b v p).pendingNotices = p.pendingNotices := pendingNotices_of_sansPorts (order_sansPorts k b v p)
@[simp] theorem order_noticeMask (k : Byte) (b : Binding) (v : Byte) (p : Part) :
    (order k b v p).noticeMask = p.noticeMask := noticeMask_of_sansPorts (order_sansPorts k b v p)
@[simp] theorem order_bayMode (k : Byte) (b : Binding) (v : Byte) (p : Part) :
    (order k b v p).bayMode = p.bayMode := bayMode_of_sansPorts (order_sansPorts k b v p)
@[simp] theorem order_source (k : Byte) (b : Binding) (v : Byte) (p : Part) :
    (order k b v p).source = p.source := source_of_sansPorts (order_sansPorts k b v p)
@[simp] theorem order_profileHigh (k : Byte) (b : Binding) (v : Byte) (p : Part) :
    (order k b v p).profileHigh = p.profileHigh := profileHigh_of_sansPorts (order_sansPorts k b v p)
@[simp] theorem order_clock (k : Byte) (b : Binding) (v : Byte) (p : Part) :
    (order k b v p).clock = p.clock := clock_of_sansPorts (order_sansPorts k b v p)
@[simp] theorem order_clockUnset (k : Byte) (b : Binding) (v : Byte) (p : Part) :
    (order k b v p).clockUnset = p.clockUnset := clockUnset_of_sansPorts (order_sansPorts k b v p)
@[simp] theorem order_cursor (k : Byte) (b : Binding) (v : Byte) (p : Part) :
    (order k b v p).cursor = p.cursor := cursor_of_sansPorts (order_sansPorts k b v p)
@[simp] theorem order_test (k : Byte) (b : Binding) (v : Byte) (p : Part) :
    (order k b v p).test = p.test := test_of_sansPorts (order_sansPorts k b v p)
@[simp] theorem order_counts (k : Byte) (b : Binding) (v : Byte) (p : Part) :
    (order k b v p).counts = p.counts := counts_of_sansPorts (order_sansPorts k b v p)
@[simp] theorem order_freeUses (k : Byte) (b : Binding) (v : Byte) (p : Part) :
    (order k b v p).freeUses = p.freeUses := freeUses_of_sansPorts (order_sansPorts k b v p)
@[simp] theorem order_hose (k : Byte) (b : Binding) (v : Byte) (p : Part) (i : HoseNo) :
    (order k b v p).hose i = p.hose i := by unfold Part.hose; rw [order_hoses]
@[simp] theorem order_tank (k : Byte) (b : Binding) (v : Byte) (p : Part) (i : TankNo) :
    (order k b v p).tank i = p.tank i := by unfold Part.tank; rw [order_tanks]
@[simp] theorem order_pump (k : Byte) (b : Binding) (v : Byte) (p : Part) (i : TankNo) :
    (order k b v p).pump i = p.pump i := by unfold Part.pump; rw [order_pumps]
@[simp] theorem order_zone (k : Byte) (b : Binding) (v : Byte) (p : Part) (i : ZoneNo) :
    (order k b v p).zone i = p.zone i := by unfold Part.zone; rw [order_zones]
@[simp] theorem order_device (k : Byte) (b : Binding) (v : Byte) (p : Part) (i : DevNo) :
    (order k b v p).device i = p.device i := by unfold Part.device; rw [order_devices]
@[simp] theorem order_machine (k : Byte) (b : Binding) (v : Byte) (p : Part) (i : SlotNo) :
    (order k b v p).machine i = p.machine i := by unfold Part.machine; rw [order_machines]
@[simp] theorem order_product (k : Byte) (b : Binding) (v : Byte) (p : Part) (i : ProductNo) :
    (order k b v p).product i = p.product i := by unfold Part.product; rw [order_products]
@[simp] theorem order_hoseZone (k : Byte) (b : Binding) (v : Byte) (p : Part) (i : HoseNo) :
    (order k b v p).hoseZone i = p.hoseZone i := by simp only [Part.hoseZone, order_hose, order_tank]
@[simp] theorem order_tankHoses (k : Byte) (b : Binding) (v : Byte) (p : Part) (i : TankNo) :
    (order k b v p).tankHoses i = p.tankHoses i := by simp only [Part.tankHoses, order_hose]
@[simp] theorem order_zoneTanks (k : Byte) (b : Binding) (v : Byte) (p : Part) (i : ZoneNo) :
    (order k b v p).zoneTanks i = p.zoneTanks i := by simp only [Part.zoneTanks, order_tank]
@[simp] theorem order_zoneHoses (k : Byte) (b : Binding) (v : Byte) (p : Part) (i : ZoneNo) :
    (order k b v p).zoneHoses i = p.zoneHoses i := by simp only [Part.zoneHoses, order_hoseZone]
@[simp] theorem order_boundNode (k : Byte) (b : Binding) (v : Byte) (p : Part) (x : Binding) :
    (order k b v p).boundNode x = p.boundNode x := by unfold Part.boundNode; rw [order_devices]
@[simp] theorem order_roleGood (k : Byte) (b : Binding) (v : Byte) (p : Part) (x : Binding) :
    (order k b v p).roleGood x = p.roleGood x := by simp only [Part.roleGood, order_boundNode, order_device]

@[simp] theorem sendValve_rules (h : HoseNo) (c : Nat) (p : Part) :
    (sendValve h c p).rules = p.rules := rules_of_sansPorts (sendValve_sansPorts h c p)
@[simp] theorem sendValve_filter (h : HoseNo) (c : Nat) (p : Part) :
    (sendValve h c p).filter = p.filter := filter_of_sansPorts (sendValve_sansPorts h c p)
@[simp] theorem sendValve_devices (h : HoseNo) (c : Nat) (p : Part) :
    (sendValve h c p).devices = p.devices := devices_of_sansPorts (sendValve_sansPorts h c p)
@[simp] theorem sendValve_hoses (h : HoseNo) (c : Nat) (p : Part) :
    (sendValve h c p).hoses = p.hoses := hoses_of_sansPorts (sendValve_sansPorts h c p)
@[simp] theorem sendValve_pumps (h : HoseNo) (c : Nat) (p : Part) :
    (sendValve h c p).pumps = p.pumps := pumps_of_sansPorts (sendValve_sansPorts h c p)
@[simp] theorem sendValve_tanks (h : HoseNo) (c : Nat) (p : Part) :
    (sendValve h c p).tanks = p.tanks := tanks_of_sansPorts (sendValve_sansPorts h c p)
@[simp] theorem sendValve_products (h : HoseNo) (c : Nat) (p : Part) :
    (sendValve h c p).products = p.products := products_of_sansPorts (sendValve_sansPorts h c p)
@[simp] theorem sendValve_machines (h : HoseNo) (c : Nat) (p : Part) :
    (sendValve h c p).machines = p.machines := machines_of_sansPorts (sendValve_sansPorts h c p)
@[simp] theorem sendValve_profileA (h : HoseNo) (c : Nat) (p : Part) :
    (sendValve h c p).profileA = p.profileA := profileA_of_sansPorts (sendValve_sansPorts h c p)
@[simp] theorem sendValve_profileB (h : HoseNo) (c : Nat) (p : Part) :
    (sendValve h c p).profileB = p.profileB := profileB_of_sansPorts (sendValve_sansPorts h c p)
@[simp] theorem sendValve_current (h : HoseNo) (c : Nat) (p : Part) :
    (sendValve h c p).current = p.current := current_of_sansPorts (sendValve_sansPorts h c p)
@[simp] theorem sendValve_letter (h : HoseNo) (c : Nat) (p : Part) :
    (sendValve h c p).letter = p.letter := letter_of_sansPorts (sendValve_sansPorts h c p)
@[simp] theorem sendValve_zones (h : HoseNo) (c : Nat) (p : Part) :
    (sendValve h c p).zones = p.zones := zones_of_sansPorts (sendValve_sansPorts h c p)
@[simp] theorem sendValve_shutdown (h : HoseNo) (c : Nat) (p : Part) :
    (sendValve h c p).shutdown = p.shutdown := shutdown_of_sansPorts (sendValve_sansPorts h c p)
@[simp] theorem sendValve_bayAlarm (h : HoseNo) (c : Nat) (p : Part) :
    (sendValve h c p).bayAlarm = p.bayAlarm := bayAlarm_of_sansPorts (sendValve_sansPorts h c p)
@[simp] theorem sendValve_records (h : HoseNo) (c : Nat) (p : Part) :
    (sendValve h c p).records = p.records := records_of_sansPorts (sendValve_sansPorts h c p)
@[simp] theorem sendValve_reserved (h : HoseNo) (c : Nat) (p : Part) :
    (sendValve h c p).reserved = p.reserved := reserved_of_sansPorts (sendValve_sansPorts h c p)
@[simp] theorem sendValve_nextSerial (h : HoseNo) (c : Nat) (p : Part) :
    (sendValve h c p).nextSerial = p.nextSerial := nextSerial_of_sansPorts (sendValve_sansPorts h c p)
@[simp] theorem sendValve_pendingNotices (h : HoseNo) (c : Nat) (p : Part) :
    (sendValve h c p).pendingNotices = p.pendingNotices := pendingNotices_of_sansPorts (sendValve_sansPorts h c p)
@[simp] theorem sendValve_noticeMask (h : HoseNo) (c : Nat) (p : Part) :
    (sendValve h c p).noticeMask = p.noticeMask := noticeMask_of_sansPorts (sendValve_sansPorts h c p)
@[simp] theorem sendValve_bayMode (h : HoseNo) (c : Nat) (p : Part) :
    (sendValve h c p).bayMode = p.bayMode := bayMode_of_sansPorts (sendValve_sansPorts h c p)
@[simp] theorem sendValve_source (h : HoseNo) (c : Nat) (p : Part) :
    (sendValve h c p).source = p.source := source_of_sansPorts (sendValve_sansPorts h c p)
@[simp] theorem sendValve_profileHigh (h : HoseNo) (c : Nat) (p : Part) :
    (sendValve h c p).profileHigh = p.profileHigh := profileHigh_of_sansPorts (sendValve_sansPorts h c p)
@[simp] theorem sendValve_clock (h : HoseNo) (c : Nat) (p : Part) :
    (sendValve h c p).clock = p.clock := clock_of_sansPorts (sendValve_sansPorts h c p)
@[simp] theorem sendValve_clockUnset (h : HoseNo) (c : Nat) (p : Part) :
    (sendValve h c p).clockUnset = p.clockUnset := clockUnset_of_sansPorts (sendValve_sansPorts h c p)
@[simp] theorem sendValve_cursor (h : HoseNo) (c : Nat) (p : Part) :
    (sendValve h c p).cursor = p.cursor := cursor_of_sansPorts (sendValve_sansPorts h c p)
@[simp] theorem sendValve_test (h : HoseNo) (c : Nat) (p : Part) :
    (sendValve h c p).test = p.test := test_of_sansPorts (sendValve_sansPorts h c p)
@[simp] theorem sendValve_counts (h : HoseNo) (c : Nat) (p : Part) :
    (sendValve h c p).counts = p.counts := counts_of_sansPorts (sendValve_sansPorts h c p)
@[simp] theorem sendValve_freeUses (h : HoseNo) (c : Nat) (p : Part) :
    (sendValve h c p).freeUses = p.freeUses := freeUses_of_sansPorts (sendValve_sansPorts h c p)
@[simp] theorem sendValve_hose (h : HoseNo) (c : Nat) (p : Part) (i : HoseNo) :
    (sendValve h c p).hose i = p.hose i := by unfold Part.hose; rw [sendValve_hoses]
@[simp] theorem sendValve_tank (h : HoseNo) (c : Nat) (p : Part) (i : TankNo) :
    (sendValve h c p).tank i = p.tank i := by unfold Part.tank; rw [sendValve_tanks]
@[simp] theorem sendValve_pump (h : HoseNo) (c : Nat) (p : Part) (i : TankNo) :
    (sendValve h c p).pump i = p.pump i := by unfold Part.pump; rw [sendValve_pumps]
@[simp] theorem sendValve_zone (h : HoseNo) (c : Nat) (p : Part) (i : ZoneNo) :
    (sendValve h c p).zone i = p.zone i := by unfold Part.zone; rw [sendValve_zones]
@[simp] theorem sendValve_device (h : HoseNo) (c : Nat) (p : Part) (i : DevNo) :
    (sendValve h c p).device i = p.device i := by unfold Part.device; rw [sendValve_devices]
@[simp] theorem sendValve_machine (h : HoseNo) (c : Nat) (p : Part) (i : SlotNo) :
    (sendValve h c p).machine i = p.machine i := by unfold Part.machine; rw [sendValve_machines]
@[simp] theorem sendValve_product (h : HoseNo) (c : Nat) (p : Part) (i : ProductNo) :
    (sendValve h c p).product i = p.product i := by unfold Part.product; rw [sendValve_products]
@[simp] theorem sendValve_hoseZone (h : HoseNo) (c : Nat) (p : Part) (i : HoseNo) :
    (sendValve h c p).hoseZone i = p.hoseZone i := by simp only [Part.hoseZone, sendValve_hose, sendValve_tank]
@[simp] theorem sendValve_tankHoses (h : HoseNo) (c : Nat) (p : Part) (i : TankNo) :
    (sendValve h c p).tankHoses i = p.tankHoses i := by simp only [Part.tankHoses, sendValve_hose]
@[simp] theorem sendValve_zoneTanks (h : HoseNo) (c : Nat) (p : Part) (i : ZoneNo) :
    (sendValve h c p).zoneTanks i = p.zoneTanks i := by simp only [Part.zoneTanks, sendValve_tank]
@[simp] theorem sendValve_zoneHoses (h : HoseNo) (c : Nat) (p : Part) (i : ZoneNo) :
    (sendValve h c p).zoneHoses i = p.zoneHoses i := by simp only [Part.zoneHoses, sendValve_hoseZone]
@[simp] theorem sendValve_boundNode (h : HoseNo) (c : Nat) (p : Part) (x : Binding) :
    (sendValve h c p).boundNode x = p.boundNode x := by unfold Part.boundNode; rw [sendValve_devices]
@[simp] theorem sendValve_roleGood (h : HoseNo) (c : Nat) (p : Part) (x : Binding) :
    (sendValve h c p).roleGood x = p.roleGood x := by simp only [Part.roleGood, sendValve_boundNode, sendValve_device]

@[simp] theorem sendInlet_rules (t : TankNo) (c : Nat) (p : Part) :
    (sendInlet t c p).rules = p.rules := rules_of_sansPorts (sendInlet_sansPorts t c p)
@[simp] theorem sendInlet_filter (t : TankNo) (c : Nat) (p : Part) :
    (sendInlet t c p).filter = p.filter := filter_of_sansPorts (sendInlet_sansPorts t c p)
@[simp] theorem sendInlet_devices (t : TankNo) (c : Nat) (p : Part) :
    (sendInlet t c p).devices = p.devices := devices_of_sansPorts (sendInlet_sansPorts t c p)
@[simp] theorem sendInlet_hoses (t : TankNo) (c : Nat) (p : Part) :
    (sendInlet t c p).hoses = p.hoses := hoses_of_sansPorts (sendInlet_sansPorts t c p)
@[simp] theorem sendInlet_pumps (t : TankNo) (c : Nat) (p : Part) :
    (sendInlet t c p).pumps = p.pumps := pumps_of_sansPorts (sendInlet_sansPorts t c p)
@[simp] theorem sendInlet_tanks (t : TankNo) (c : Nat) (p : Part) :
    (sendInlet t c p).tanks = p.tanks := tanks_of_sansPorts (sendInlet_sansPorts t c p)
@[simp] theorem sendInlet_products (t : TankNo) (c : Nat) (p : Part) :
    (sendInlet t c p).products = p.products := products_of_sansPorts (sendInlet_sansPorts t c p)
@[simp] theorem sendInlet_machines (t : TankNo) (c : Nat) (p : Part) :
    (sendInlet t c p).machines = p.machines := machines_of_sansPorts (sendInlet_sansPorts t c p)
@[simp] theorem sendInlet_profileA (t : TankNo) (c : Nat) (p : Part) :
    (sendInlet t c p).profileA = p.profileA := profileA_of_sansPorts (sendInlet_sansPorts t c p)
@[simp] theorem sendInlet_profileB (t : TankNo) (c : Nat) (p : Part) :
    (sendInlet t c p).profileB = p.profileB := profileB_of_sansPorts (sendInlet_sansPorts t c p)
@[simp] theorem sendInlet_current (t : TankNo) (c : Nat) (p : Part) :
    (sendInlet t c p).current = p.current := current_of_sansPorts (sendInlet_sansPorts t c p)
@[simp] theorem sendInlet_letter (t : TankNo) (c : Nat) (p : Part) :
    (sendInlet t c p).letter = p.letter := letter_of_sansPorts (sendInlet_sansPorts t c p)
@[simp] theorem sendInlet_zones (t : TankNo) (c : Nat) (p : Part) :
    (sendInlet t c p).zones = p.zones := zones_of_sansPorts (sendInlet_sansPorts t c p)
@[simp] theorem sendInlet_shutdown (t : TankNo) (c : Nat) (p : Part) :
    (sendInlet t c p).shutdown = p.shutdown := shutdown_of_sansPorts (sendInlet_sansPorts t c p)
@[simp] theorem sendInlet_bayAlarm (t : TankNo) (c : Nat) (p : Part) :
    (sendInlet t c p).bayAlarm = p.bayAlarm := bayAlarm_of_sansPorts (sendInlet_sansPorts t c p)
@[simp] theorem sendInlet_records (t : TankNo) (c : Nat) (p : Part) :
    (sendInlet t c p).records = p.records := records_of_sansPorts (sendInlet_sansPorts t c p)
@[simp] theorem sendInlet_reserved (t : TankNo) (c : Nat) (p : Part) :
    (sendInlet t c p).reserved = p.reserved := reserved_of_sansPorts (sendInlet_sansPorts t c p)
@[simp] theorem sendInlet_nextSerial (t : TankNo) (c : Nat) (p : Part) :
    (sendInlet t c p).nextSerial = p.nextSerial := nextSerial_of_sansPorts (sendInlet_sansPorts t c p)
@[simp] theorem sendInlet_pendingNotices (t : TankNo) (c : Nat) (p : Part) :
    (sendInlet t c p).pendingNotices = p.pendingNotices := pendingNotices_of_sansPorts (sendInlet_sansPorts t c p)
@[simp] theorem sendInlet_noticeMask (t : TankNo) (c : Nat) (p : Part) :
    (sendInlet t c p).noticeMask = p.noticeMask := noticeMask_of_sansPorts (sendInlet_sansPorts t c p)
@[simp] theorem sendInlet_bayMode (t : TankNo) (c : Nat) (p : Part) :
    (sendInlet t c p).bayMode = p.bayMode := bayMode_of_sansPorts (sendInlet_sansPorts t c p)
@[simp] theorem sendInlet_source (t : TankNo) (c : Nat) (p : Part) :
    (sendInlet t c p).source = p.source := source_of_sansPorts (sendInlet_sansPorts t c p)
@[simp] theorem sendInlet_profileHigh (t : TankNo) (c : Nat) (p : Part) :
    (sendInlet t c p).profileHigh = p.profileHigh := profileHigh_of_sansPorts (sendInlet_sansPorts t c p)
@[simp] theorem sendInlet_clock (t : TankNo) (c : Nat) (p : Part) :
    (sendInlet t c p).clock = p.clock := clock_of_sansPorts (sendInlet_sansPorts t c p)
@[simp] theorem sendInlet_clockUnset (t : TankNo) (c : Nat) (p : Part) :
    (sendInlet t c p).clockUnset = p.clockUnset := clockUnset_of_sansPorts (sendInlet_sansPorts t c p)
@[simp] theorem sendInlet_cursor (t : TankNo) (c : Nat) (p : Part) :
    (sendInlet t c p).cursor = p.cursor := cursor_of_sansPorts (sendInlet_sansPorts t c p)
@[simp] theorem sendInlet_test (t : TankNo) (c : Nat) (p : Part) :
    (sendInlet t c p).test = p.test := test_of_sansPorts (sendInlet_sansPorts t c p)
@[simp] theorem sendInlet_counts (t : TankNo) (c : Nat) (p : Part) :
    (sendInlet t c p).counts = p.counts := counts_of_sansPorts (sendInlet_sansPorts t c p)
@[simp] theorem sendInlet_freeUses (t : TankNo) (c : Nat) (p : Part) :
    (sendInlet t c p).freeUses = p.freeUses := freeUses_of_sansPorts (sendInlet_sansPorts t c p)
@[simp] theorem sendInlet_hose (t : TankNo) (c : Nat) (p : Part) (i : HoseNo) :
    (sendInlet t c p).hose i = p.hose i := by unfold Part.hose; rw [sendInlet_hoses]
@[simp] theorem sendInlet_tank (t : TankNo) (c : Nat) (p : Part) (i : TankNo) :
    (sendInlet t c p).tank i = p.tank i := by unfold Part.tank; rw [sendInlet_tanks]
@[simp] theorem sendInlet_pump (t : TankNo) (c : Nat) (p : Part) (i : TankNo) :
    (sendInlet t c p).pump i = p.pump i := by unfold Part.pump; rw [sendInlet_pumps]
@[simp] theorem sendInlet_zone (t : TankNo) (c : Nat) (p : Part) (i : ZoneNo) :
    (sendInlet t c p).zone i = p.zone i := by unfold Part.zone; rw [sendInlet_zones]
@[simp] theorem sendInlet_device (t : TankNo) (c : Nat) (p : Part) (i : DevNo) :
    (sendInlet t c p).device i = p.device i := by unfold Part.device; rw [sendInlet_devices]
@[simp] theorem sendInlet_machine (t : TankNo) (c : Nat) (p : Part) (i : SlotNo) :
    (sendInlet t c p).machine i = p.machine i := by unfold Part.machine; rw [sendInlet_machines]
@[simp] theorem sendInlet_product (t : TankNo) (c : Nat) (p : Part) (i : ProductNo) :
    (sendInlet t c p).product i = p.product i := by unfold Part.product; rw [sendInlet_products]
@[simp] theorem sendInlet_hoseZone (t : TankNo) (c : Nat) (p : Part) (i : HoseNo) :
    (sendInlet t c p).hoseZone i = p.hoseZone i := by simp only [Part.hoseZone, sendInlet_hose, sendInlet_tank]
@[simp] theorem sendInlet_tankHoses (t : TankNo) (c : Nat) (p : Part) (i : TankNo) :
    (sendInlet t c p).tankHoses i = p.tankHoses i := by simp only [Part.tankHoses, sendInlet_hose]
@[simp] theorem sendInlet_zoneTanks (t : TankNo) (c : Nat) (p : Part) (i : ZoneNo) :
    (sendInlet t c p).zoneTanks i = p.zoneTanks i := by simp only [Part.zoneTanks, sendInlet_tank]
@[simp] theorem sendInlet_zoneHoses (t : TankNo) (c : Nat) (p : Part) (i : ZoneNo) :
    (sendInlet t c p).zoneHoses i = p.zoneHoses i := by simp only [Part.zoneHoses, sendInlet_hoseZone]
@[simp] theorem sendInlet_boundNode (t : TankNo) (c : Nat) (p : Part) (x : Binding) :
    (sendInlet t c p).boundNode x = p.boundNode x := by unfold Part.boundNode; rw [sendInlet_devices]
@[simp] theorem sendInlet_roleGood (t : TankNo) (c : Nat) (p : Part) (x : Binding) :
    (sendInlet t c p).roleGood x = p.roleGood x := by simp only [Part.roleGood, sendInlet_boundNode, sendInlet_device]

@[simp] theorem sendRun_rules (t : TankNo) (c : Nat) (p : Part) :
    (sendRun t c p).rules = p.rules := rules_of_sansPorts (sendRun_sansPorts t c p)
@[simp] theorem sendRun_filter (t : TankNo) (c : Nat) (p : Part) :
    (sendRun t c p).filter = p.filter := filter_of_sansPorts (sendRun_sansPorts t c p)
@[simp] theorem sendRun_devices (t : TankNo) (c : Nat) (p : Part) :
    (sendRun t c p).devices = p.devices := devices_of_sansPorts (sendRun_sansPorts t c p)
@[simp] theorem sendRun_hoses (t : TankNo) (c : Nat) (p : Part) :
    (sendRun t c p).hoses = p.hoses := hoses_of_sansPorts (sendRun_sansPorts t c p)
@[simp] theorem sendRun_pumps (t : TankNo) (c : Nat) (p : Part) :
    (sendRun t c p).pumps = p.pumps := pumps_of_sansPorts (sendRun_sansPorts t c p)
@[simp] theorem sendRun_tanks (t : TankNo) (c : Nat) (p : Part) :
    (sendRun t c p).tanks = p.tanks := tanks_of_sansPorts (sendRun_sansPorts t c p)
@[simp] theorem sendRun_products (t : TankNo) (c : Nat) (p : Part) :
    (sendRun t c p).products = p.products := products_of_sansPorts (sendRun_sansPorts t c p)
@[simp] theorem sendRun_machines (t : TankNo) (c : Nat) (p : Part) :
    (sendRun t c p).machines = p.machines := machines_of_sansPorts (sendRun_sansPorts t c p)
@[simp] theorem sendRun_profileA (t : TankNo) (c : Nat) (p : Part) :
    (sendRun t c p).profileA = p.profileA := profileA_of_sansPorts (sendRun_sansPorts t c p)
@[simp] theorem sendRun_profileB (t : TankNo) (c : Nat) (p : Part) :
    (sendRun t c p).profileB = p.profileB := profileB_of_sansPorts (sendRun_sansPorts t c p)
@[simp] theorem sendRun_current (t : TankNo) (c : Nat) (p : Part) :
    (sendRun t c p).current = p.current := current_of_sansPorts (sendRun_sansPorts t c p)
@[simp] theorem sendRun_letter (t : TankNo) (c : Nat) (p : Part) :
    (sendRun t c p).letter = p.letter := letter_of_sansPorts (sendRun_sansPorts t c p)
@[simp] theorem sendRun_zones (t : TankNo) (c : Nat) (p : Part) :
    (sendRun t c p).zones = p.zones := zones_of_sansPorts (sendRun_sansPorts t c p)
@[simp] theorem sendRun_shutdown (t : TankNo) (c : Nat) (p : Part) :
    (sendRun t c p).shutdown = p.shutdown := shutdown_of_sansPorts (sendRun_sansPorts t c p)
@[simp] theorem sendRun_bayAlarm (t : TankNo) (c : Nat) (p : Part) :
    (sendRun t c p).bayAlarm = p.bayAlarm := bayAlarm_of_sansPorts (sendRun_sansPorts t c p)
@[simp] theorem sendRun_records (t : TankNo) (c : Nat) (p : Part) :
    (sendRun t c p).records = p.records := records_of_sansPorts (sendRun_sansPorts t c p)
@[simp] theorem sendRun_reserved (t : TankNo) (c : Nat) (p : Part) :
    (sendRun t c p).reserved = p.reserved := reserved_of_sansPorts (sendRun_sansPorts t c p)
@[simp] theorem sendRun_nextSerial (t : TankNo) (c : Nat) (p : Part) :
    (sendRun t c p).nextSerial = p.nextSerial := nextSerial_of_sansPorts (sendRun_sansPorts t c p)
@[simp] theorem sendRun_pendingNotices (t : TankNo) (c : Nat) (p : Part) :
    (sendRun t c p).pendingNotices = p.pendingNotices := pendingNotices_of_sansPorts (sendRun_sansPorts t c p)
@[simp] theorem sendRun_noticeMask (t : TankNo) (c : Nat) (p : Part) :
    (sendRun t c p).noticeMask = p.noticeMask := noticeMask_of_sansPorts (sendRun_sansPorts t c p)
@[simp] theorem sendRun_bayMode (t : TankNo) (c : Nat) (p : Part) :
    (sendRun t c p).bayMode = p.bayMode := bayMode_of_sansPorts (sendRun_sansPorts t c p)
@[simp] theorem sendRun_source (t : TankNo) (c : Nat) (p : Part) :
    (sendRun t c p).source = p.source := source_of_sansPorts (sendRun_sansPorts t c p)
@[simp] theorem sendRun_profileHigh (t : TankNo) (c : Nat) (p : Part) :
    (sendRun t c p).profileHigh = p.profileHigh := profileHigh_of_sansPorts (sendRun_sansPorts t c p)
@[simp] theorem sendRun_clock (t : TankNo) (c : Nat) (p : Part) :
    (sendRun t c p).clock = p.clock := clock_of_sansPorts (sendRun_sansPorts t c p)
@[simp] theorem sendRun_clockUnset (t : TankNo) (c : Nat) (p : Part) :
    (sendRun t c p).clockUnset = p.clockUnset := clockUnset_of_sansPorts (sendRun_sansPorts t c p)
@[simp] theorem sendRun_cursor (t : TankNo) (c : Nat) (p : Part) :
    (sendRun t c p).cursor = p.cursor := cursor_of_sansPorts (sendRun_sansPorts t c p)
@[simp] theorem sendRun_test (t : TankNo) (c : Nat) (p : Part) :
    (sendRun t c p).test = p.test := test_of_sansPorts (sendRun_sansPorts t c p)
@[simp] theorem sendRun_counts (t : TankNo) (c : Nat) (p : Part) :
    (sendRun t c p).counts = p.counts := counts_of_sansPorts (sendRun_sansPorts t c p)
@[simp] theorem sendRun_freeUses (t : TankNo) (c : Nat) (p : Part) :
    (sendRun t c p).freeUses = p.freeUses := freeUses_of_sansPorts (sendRun_sansPorts t c p)
@[simp] theorem sendRun_hose (t : TankNo) (c : Nat) (p : Part) (i : HoseNo) :
    (sendRun t c p).hose i = p.hose i := by unfold Part.hose; rw [sendRun_hoses]
@[simp] theorem sendRun_tank (t : TankNo) (c : Nat) (p : Part) (i : TankNo) :
    (sendRun t c p).tank i = p.tank i := by unfold Part.tank; rw [sendRun_tanks]
@[simp] theorem sendRun_pump (t : TankNo) (c : Nat) (p : Part) (i : TankNo) :
    (sendRun t c p).pump i = p.pump i := by unfold Part.pump; rw [sendRun_pumps]
@[simp] theorem sendRun_zone (t : TankNo) (c : Nat) (p : Part) (i : ZoneNo) :
    (sendRun t c p).zone i = p.zone i := by unfold Part.zone; rw [sendRun_zones]
@[simp] theorem sendRun_device (t : TankNo) (c : Nat) (p : Part) (i : DevNo) :
    (sendRun t c p).device i = p.device i := by unfold Part.device; rw [sendRun_devices]
@[simp] theorem sendRun_machine (t : TankNo) (c : Nat) (p : Part) (i : SlotNo) :
    (sendRun t c p).machine i = p.machine i := by unfold Part.machine; rw [sendRun_machines]
@[simp] theorem sendRun_product (t : TankNo) (c : Nat) (p : Part) (i : ProductNo) :
    (sendRun t c p).product i = p.product i := by unfold Part.product; rw [sendRun_products]
@[simp] theorem sendRun_hoseZone (t : TankNo) (c : Nat) (p : Part) (i : HoseNo) :
    (sendRun t c p).hoseZone i = p.hoseZone i := by simp only [Part.hoseZone, sendRun_hose, sendRun_tank]
@[simp] theorem sendRun_tankHoses (t : TankNo) (c : Nat) (p : Part) (i : TankNo) :
    (sendRun t c p).tankHoses i = p.tankHoses i := by simp only [Part.tankHoses, sendRun_hose]
@[simp] theorem sendRun_zoneTanks (t : TankNo) (c : Nat) (p : Part) (i : ZoneNo) :
    (sendRun t c p).zoneTanks i = p.zoneTanks i := by simp only [Part.zoneTanks, sendRun_tank]
@[simp] theorem sendRun_zoneHoses (t : TankNo) (c : Nat) (p : Part) (i : ZoneNo) :
    (sendRun t c p).zoneHoses i = p.zoneHoses i := by simp only [Part.zoneHoses, sendRun_hoseZone]
@[simp] theorem sendRun_boundNode (t : TankNo) (c : Nat) (p : Part) (x : Binding) :
    (sendRun t c p).boundNode x = p.boundNode x := by unfold Part.boundNode; rw [sendRun_devices]
@[simp] theorem sendRun_roleGood (t : TankNo) (c : Nat) (p : Part) (x : Binding) :
    (sendRun t c p).roleGood x = p.roleGood x := by simp only [Part.roleGood, sendRun_boundNode, sendRun_device]

@[simp] theorem forceLamp_rules (h : HoseNo) (v : Byte) (p : Part) :
    (forceLamp h v p).rules = p.rules := rules_of_sansPorts (forceLamp_sansPorts h v p)
@[simp] theorem forceLamp_filter (h : HoseNo) (v : Byte) (p : Part) :
    (forceLamp h v p).filter = p.filter := filter_of_sansPorts (forceLamp_sansPorts h v p)
@[simp] theorem forceLamp_devices (h : HoseNo) (v : Byte) (p : Part) :
    (forceLamp h v p).devices = p.devices := devices_of_sansPorts (forceLamp_sansPorts h v p)
@[simp] theorem forceLamp_hoses (h : HoseNo) (v : Byte) (p : Part) :
    (forceLamp h v p).hoses = p.hoses := hoses_of_sansPorts (forceLamp_sansPorts h v p)
@[simp] theorem forceLamp_pumps (h : HoseNo) (v : Byte) (p : Part) :
    (forceLamp h v p).pumps = p.pumps := pumps_of_sansPorts (forceLamp_sansPorts h v p)
@[simp] theorem forceLamp_tanks (h : HoseNo) (v : Byte) (p : Part) :
    (forceLamp h v p).tanks = p.tanks := tanks_of_sansPorts (forceLamp_sansPorts h v p)
@[simp] theorem forceLamp_products (h : HoseNo) (v : Byte) (p : Part) :
    (forceLamp h v p).products = p.products := products_of_sansPorts (forceLamp_sansPorts h v p)
@[simp] theorem forceLamp_machines (h : HoseNo) (v : Byte) (p : Part) :
    (forceLamp h v p).machines = p.machines := machines_of_sansPorts (forceLamp_sansPorts h v p)
@[simp] theorem forceLamp_profileA (h : HoseNo) (v : Byte) (p : Part) :
    (forceLamp h v p).profileA = p.profileA := profileA_of_sansPorts (forceLamp_sansPorts h v p)
@[simp] theorem forceLamp_profileB (h : HoseNo) (v : Byte) (p : Part) :
    (forceLamp h v p).profileB = p.profileB := profileB_of_sansPorts (forceLamp_sansPorts h v p)
@[simp] theorem forceLamp_current (h : HoseNo) (v : Byte) (p : Part) :
    (forceLamp h v p).current = p.current := current_of_sansPorts (forceLamp_sansPorts h v p)
@[simp] theorem forceLamp_letter (h : HoseNo) (v : Byte) (p : Part) :
    (forceLamp h v p).letter = p.letter := letter_of_sansPorts (forceLamp_sansPorts h v p)
@[simp] theorem forceLamp_zones (h : HoseNo) (v : Byte) (p : Part) :
    (forceLamp h v p).zones = p.zones := zones_of_sansPorts (forceLamp_sansPorts h v p)
@[simp] theorem forceLamp_shutdown (h : HoseNo) (v : Byte) (p : Part) :
    (forceLamp h v p).shutdown = p.shutdown := shutdown_of_sansPorts (forceLamp_sansPorts h v p)
@[simp] theorem forceLamp_bayAlarm (h : HoseNo) (v : Byte) (p : Part) :
    (forceLamp h v p).bayAlarm = p.bayAlarm := bayAlarm_of_sansPorts (forceLamp_sansPorts h v p)
@[simp] theorem forceLamp_records (h : HoseNo) (v : Byte) (p : Part) :
    (forceLamp h v p).records = p.records := records_of_sansPorts (forceLamp_sansPorts h v p)
@[simp] theorem forceLamp_reserved (h : HoseNo) (v : Byte) (p : Part) :
    (forceLamp h v p).reserved = p.reserved := reserved_of_sansPorts (forceLamp_sansPorts h v p)
@[simp] theorem forceLamp_nextSerial (h : HoseNo) (v : Byte) (p : Part) :
    (forceLamp h v p).nextSerial = p.nextSerial := nextSerial_of_sansPorts (forceLamp_sansPorts h v p)
@[simp] theorem forceLamp_pendingNotices (h : HoseNo) (v : Byte) (p : Part) :
    (forceLamp h v p).pendingNotices = p.pendingNotices := pendingNotices_of_sansPorts (forceLamp_sansPorts h v p)
@[simp] theorem forceLamp_noticeMask (h : HoseNo) (v : Byte) (p : Part) :
    (forceLamp h v p).noticeMask = p.noticeMask := noticeMask_of_sansPorts (forceLamp_sansPorts h v p)
@[simp] theorem forceLamp_bayMode (h : HoseNo) (v : Byte) (p : Part) :
    (forceLamp h v p).bayMode = p.bayMode := bayMode_of_sansPorts (forceLamp_sansPorts h v p)
@[simp] theorem forceLamp_source (h : HoseNo) (v : Byte) (p : Part) :
    (forceLamp h v p).source = p.source := source_of_sansPorts (forceLamp_sansPorts h v p)
@[simp] theorem forceLamp_profileHigh (h : HoseNo) (v : Byte) (p : Part) :
    (forceLamp h v p).profileHigh = p.profileHigh := profileHigh_of_sansPorts (forceLamp_sansPorts h v p)
@[simp] theorem forceLamp_clock (h : HoseNo) (v : Byte) (p : Part) :
    (forceLamp h v p).clock = p.clock := clock_of_sansPorts (forceLamp_sansPorts h v p)
@[simp] theorem forceLamp_clockUnset (h : HoseNo) (v : Byte) (p : Part) :
    (forceLamp h v p).clockUnset = p.clockUnset := clockUnset_of_sansPorts (forceLamp_sansPorts h v p)
@[simp] theorem forceLamp_cursor (h : HoseNo) (v : Byte) (p : Part) :
    (forceLamp h v p).cursor = p.cursor := cursor_of_sansPorts (forceLamp_sansPorts h v p)
@[simp] theorem forceLamp_test (h : HoseNo) (v : Byte) (p : Part) :
    (forceLamp h v p).test = p.test := test_of_sansPorts (forceLamp_sansPorts h v p)
@[simp] theorem forceLamp_counts (h : HoseNo) (v : Byte) (p : Part) :
    (forceLamp h v p).counts = p.counts := counts_of_sansPorts (forceLamp_sansPorts h v p)
@[simp] theorem forceLamp_freeUses (h : HoseNo) (v : Byte) (p : Part) :
    (forceLamp h v p).freeUses = p.freeUses := freeUses_of_sansPorts (forceLamp_sansPorts h v p)
@[simp] theorem forceLamp_hose (h : HoseNo) (v : Byte) (p : Part) (i : HoseNo) :
    (forceLamp h v p).hose i = p.hose i := by unfold Part.hose; rw [forceLamp_hoses]
@[simp] theorem forceLamp_tank (h : HoseNo) (v : Byte) (p : Part) (i : TankNo) :
    (forceLamp h v p).tank i = p.tank i := by unfold Part.tank; rw [forceLamp_tanks]
@[simp] theorem forceLamp_pump (h : HoseNo) (v : Byte) (p : Part) (i : TankNo) :
    (forceLamp h v p).pump i = p.pump i := by unfold Part.pump; rw [forceLamp_pumps]
@[simp] theorem forceLamp_zone (h : HoseNo) (v : Byte) (p : Part) (i : ZoneNo) :
    (forceLamp h v p).zone i = p.zone i := by unfold Part.zone; rw [forceLamp_zones]
@[simp] theorem forceLamp_device (h : HoseNo) (v : Byte) (p : Part) (i : DevNo) :
    (forceLamp h v p).device i = p.device i := by unfold Part.device; rw [forceLamp_devices]
@[simp] theorem forceLamp_machine (h : HoseNo) (v : Byte) (p : Part) (i : SlotNo) :
    (forceLamp h v p).machine i = p.machine i := by unfold Part.machine; rw [forceLamp_machines]
@[simp] theorem forceLamp_product (h : HoseNo) (v : Byte) (p : Part) (i : ProductNo) :
    (forceLamp h v p).product i = p.product i := by unfold Part.product; rw [forceLamp_products]
@[simp] theorem forceLamp_hoseZone (h : HoseNo) (v : Byte) (p : Part) (i : HoseNo) :
    (forceLamp h v p).hoseZone i = p.hoseZone i := by simp only [Part.hoseZone, forceLamp_hose, forceLamp_tank]
@[simp] theorem forceLamp_tankHoses (h : HoseNo) (v : Byte) (p : Part) (i : TankNo) :
    (forceLamp h v p).tankHoses i = p.tankHoses i := by simp only [Part.tankHoses, forceLamp_hose]
@[simp] theorem forceLamp_zoneTanks (h : HoseNo) (v : Byte) (p : Part) (i : ZoneNo) :
    (forceLamp h v p).zoneTanks i = p.zoneTanks i := by simp only [Part.zoneTanks, forceLamp_tank]
@[simp] theorem forceLamp_zoneHoses (h : HoseNo) (v : Byte) (p : Part) (i : ZoneNo) :
    (forceLamp h v p).zoneHoses i = p.zoneHoses i := by simp only [Part.zoneHoses, forceLamp_hoseZone]
@[simp] theorem forceLamp_boundNode (h : HoseNo) (v : Byte) (p : Part) (x : Binding) :
    (forceLamp h v p).boundNode x = p.boundNode x := by unfold Part.boundNode; rw [forceLamp_devices]
@[simp] theorem forceLamp_roleGood (h : HoseNo) (v : Byte) (p : Part) (x : Binding) :
    (forceLamp h v p).roleGood x = p.roleGood x := by simp only [Part.roleGood, forceLamp_boundNode, forceLamp_device]

@[simp] theorem sendLamp_rules (h : HoseNo) (v : Byte) (p : Part) :
    (sendLamp h v p).rules = p.rules := rules_of_sansPorts (sendLamp_sansPorts h v p)
@[simp] theorem sendLamp_filter (h : HoseNo) (v : Byte) (p : Part) :
    (sendLamp h v p).filter = p.filter := filter_of_sansPorts (sendLamp_sansPorts h v p)
@[simp] theorem sendLamp_devices (h : HoseNo) (v : Byte) (p : Part) :
    (sendLamp h v p).devices = p.devices := devices_of_sansPorts (sendLamp_sansPorts h v p)
@[simp] theorem sendLamp_hoses (h : HoseNo) (v : Byte) (p : Part) :
    (sendLamp h v p).hoses = p.hoses := hoses_of_sansPorts (sendLamp_sansPorts h v p)
@[simp] theorem sendLamp_pumps (h : HoseNo) (v : Byte) (p : Part) :
    (sendLamp h v p).pumps = p.pumps := pumps_of_sansPorts (sendLamp_sansPorts h v p)
@[simp] theorem sendLamp_tanks (h : HoseNo) (v : Byte) (p : Part) :
    (sendLamp h v p).tanks = p.tanks := tanks_of_sansPorts (sendLamp_sansPorts h v p)
@[simp] theorem sendLamp_products (h : HoseNo) (v : Byte) (p : Part) :
    (sendLamp h v p).products = p.products := products_of_sansPorts (sendLamp_sansPorts h v p)
@[simp] theorem sendLamp_machines (h : HoseNo) (v : Byte) (p : Part) :
    (sendLamp h v p).machines = p.machines := machines_of_sansPorts (sendLamp_sansPorts h v p)
@[simp] theorem sendLamp_profileA (h : HoseNo) (v : Byte) (p : Part) :
    (sendLamp h v p).profileA = p.profileA := profileA_of_sansPorts (sendLamp_sansPorts h v p)
@[simp] theorem sendLamp_profileB (h : HoseNo) (v : Byte) (p : Part) :
    (sendLamp h v p).profileB = p.profileB := profileB_of_sansPorts (sendLamp_sansPorts h v p)
@[simp] theorem sendLamp_current (h : HoseNo) (v : Byte) (p : Part) :
    (sendLamp h v p).current = p.current := current_of_sansPorts (sendLamp_sansPorts h v p)
@[simp] theorem sendLamp_letter (h : HoseNo) (v : Byte) (p : Part) :
    (sendLamp h v p).letter = p.letter := letter_of_sansPorts (sendLamp_sansPorts h v p)
@[simp] theorem sendLamp_zones (h : HoseNo) (v : Byte) (p : Part) :
    (sendLamp h v p).zones = p.zones := zones_of_sansPorts (sendLamp_sansPorts h v p)
@[simp] theorem sendLamp_shutdown (h : HoseNo) (v : Byte) (p : Part) :
    (sendLamp h v p).shutdown = p.shutdown := shutdown_of_sansPorts (sendLamp_sansPorts h v p)
@[simp] theorem sendLamp_bayAlarm (h : HoseNo) (v : Byte) (p : Part) :
    (sendLamp h v p).bayAlarm = p.bayAlarm := bayAlarm_of_sansPorts (sendLamp_sansPorts h v p)
@[simp] theorem sendLamp_records (h : HoseNo) (v : Byte) (p : Part) :
    (sendLamp h v p).records = p.records := records_of_sansPorts (sendLamp_sansPorts h v p)
@[simp] theorem sendLamp_reserved (h : HoseNo) (v : Byte) (p : Part) :
    (sendLamp h v p).reserved = p.reserved := reserved_of_sansPorts (sendLamp_sansPorts h v p)
@[simp] theorem sendLamp_nextSerial (h : HoseNo) (v : Byte) (p : Part) :
    (sendLamp h v p).nextSerial = p.nextSerial := nextSerial_of_sansPorts (sendLamp_sansPorts h v p)
@[simp] theorem sendLamp_pendingNotices (h : HoseNo) (v : Byte) (p : Part) :
    (sendLamp h v p).pendingNotices = p.pendingNotices := pendingNotices_of_sansPorts (sendLamp_sansPorts h v p)
@[simp] theorem sendLamp_noticeMask (h : HoseNo) (v : Byte) (p : Part) :
    (sendLamp h v p).noticeMask = p.noticeMask := noticeMask_of_sansPorts (sendLamp_sansPorts h v p)
@[simp] theorem sendLamp_bayMode (h : HoseNo) (v : Byte) (p : Part) :
    (sendLamp h v p).bayMode = p.bayMode := bayMode_of_sansPorts (sendLamp_sansPorts h v p)
@[simp] theorem sendLamp_source (h : HoseNo) (v : Byte) (p : Part) :
    (sendLamp h v p).source = p.source := source_of_sansPorts (sendLamp_sansPorts h v p)
@[simp] theorem sendLamp_profileHigh (h : HoseNo) (v : Byte) (p : Part) :
    (sendLamp h v p).profileHigh = p.profileHigh := profileHigh_of_sansPorts (sendLamp_sansPorts h v p)
@[simp] theorem sendLamp_clock (h : HoseNo) (v : Byte) (p : Part) :
    (sendLamp h v p).clock = p.clock := clock_of_sansPorts (sendLamp_sansPorts h v p)
@[simp] theorem sendLamp_clockUnset (h : HoseNo) (v : Byte) (p : Part) :
    (sendLamp h v p).clockUnset = p.clockUnset := clockUnset_of_sansPorts (sendLamp_sansPorts h v p)
@[simp] theorem sendLamp_cursor (h : HoseNo) (v : Byte) (p : Part) :
    (sendLamp h v p).cursor = p.cursor := cursor_of_sansPorts (sendLamp_sansPorts h v p)
@[simp] theorem sendLamp_test (h : HoseNo) (v : Byte) (p : Part) :
    (sendLamp h v p).test = p.test := test_of_sansPorts (sendLamp_sansPorts h v p)
@[simp] theorem sendLamp_counts (h : HoseNo) (v : Byte) (p : Part) :
    (sendLamp h v p).counts = p.counts := counts_of_sansPorts (sendLamp_sansPorts h v p)
@[simp] theorem sendLamp_freeUses (h : HoseNo) (v : Byte) (p : Part) :
    (sendLamp h v p).freeUses = p.freeUses := freeUses_of_sansPorts (sendLamp_sansPorts h v p)
@[simp] theorem sendLamp_hose (h : HoseNo) (v : Byte) (p : Part) (i : HoseNo) :
    (sendLamp h v p).hose i = p.hose i := by unfold Part.hose; rw [sendLamp_hoses]
@[simp] theorem sendLamp_tank (h : HoseNo) (v : Byte) (p : Part) (i : TankNo) :
    (sendLamp h v p).tank i = p.tank i := by unfold Part.tank; rw [sendLamp_tanks]
@[simp] theorem sendLamp_pump (h : HoseNo) (v : Byte) (p : Part) (i : TankNo) :
    (sendLamp h v p).pump i = p.pump i := by unfold Part.pump; rw [sendLamp_pumps]
@[simp] theorem sendLamp_zone (h : HoseNo) (v : Byte) (p : Part) (i : ZoneNo) :
    (sendLamp h v p).zone i = p.zone i := by unfold Part.zone; rw [sendLamp_zones]
@[simp] theorem sendLamp_device (h : HoseNo) (v : Byte) (p : Part) (i : DevNo) :
    (sendLamp h v p).device i = p.device i := by unfold Part.device; rw [sendLamp_devices]
@[simp] theorem sendLamp_machine (h : HoseNo) (v : Byte) (p : Part) (i : SlotNo) :
    (sendLamp h v p).machine i = p.machine i := by unfold Part.machine; rw [sendLamp_machines]
@[simp] theorem sendLamp_product (h : HoseNo) (v : Byte) (p : Part) (i : ProductNo) :
    (sendLamp h v p).product i = p.product i := by unfold Part.product; rw [sendLamp_products]
@[simp] theorem sendLamp_hoseZone (h : HoseNo) (v : Byte) (p : Part) (i : HoseNo) :
    (sendLamp h v p).hoseZone i = p.hoseZone i := by simp only [Part.hoseZone, sendLamp_hose, sendLamp_tank]
@[simp] theorem sendLamp_tankHoses (h : HoseNo) (v : Byte) (p : Part) (i : TankNo) :
    (sendLamp h v p).tankHoses i = p.tankHoses i := by simp only [Part.tankHoses, sendLamp_hose]
@[simp] theorem sendLamp_zoneTanks (h : HoseNo) (v : Byte) (p : Part) (i : ZoneNo) :
    (sendLamp h v p).zoneTanks i = p.zoneTanks i := by simp only [Part.zoneTanks, sendLamp_tank]
@[simp] theorem sendLamp_zoneHoses (h : HoseNo) (v : Byte) (p : Part) (i : ZoneNo) :
    (sendLamp h v p).zoneHoses i = p.zoneHoses i := by simp only [Part.zoneHoses, sendLamp_hoseZone]
@[simp] theorem sendLamp_boundNode (h : HoseNo) (v : Byte) (p : Part) (x : Binding) :
    (sendLamp h v p).boundNode x = p.boundNode x := by unfold Part.boundNode; rw [sendLamp_devices]
@[simp] theorem sendLamp_roleGood (h : HoseNo) (v : Byte) (p : Part) (x : Binding) :
    (sendLamp h v p).roleGood x = p.roleGood x := by simp only [Part.roleGood, sendLamp_boundNode, sendLamp_device]

@[simp] theorem shutOrders_rules (hs : List HoseNo) (ts : List TankNo) (p : Part) :
    (shutOrders hs ts p).rules = p.rules := rules_of_sansPorts (shutOrders_sansPorts hs ts p)
@[simp] theorem shutOrders_filter (hs : List HoseNo) (ts : List TankNo) (p : Part) :
    (shutOrders hs ts p).filter = p.filter := filter_of_sansPorts (shutOrders_sansPorts hs ts p)
@[simp] theorem shutOrders_devices (hs : List HoseNo) (ts : List TankNo) (p : Part) :
    (shutOrders hs ts p).devices = p.devices := devices_of_sansPorts (shutOrders_sansPorts hs ts p)
@[simp] theorem shutOrders_hoses (hs : List HoseNo) (ts : List TankNo) (p : Part) :
    (shutOrders hs ts p).hoses = p.hoses := hoses_of_sansPorts (shutOrders_sansPorts hs ts p)
@[simp] theorem shutOrders_pumps (hs : List HoseNo) (ts : List TankNo) (p : Part) :
    (shutOrders hs ts p).pumps = p.pumps := pumps_of_sansPorts (shutOrders_sansPorts hs ts p)
@[simp] theorem shutOrders_tanks (hs : List HoseNo) (ts : List TankNo) (p : Part) :
    (shutOrders hs ts p).tanks = p.tanks := tanks_of_sansPorts (shutOrders_sansPorts hs ts p)
@[simp] theorem shutOrders_products (hs : List HoseNo) (ts : List TankNo) (p : Part) :
    (shutOrders hs ts p).products = p.products := products_of_sansPorts (shutOrders_sansPorts hs ts p)
@[simp] theorem shutOrders_machines (hs : List HoseNo) (ts : List TankNo) (p : Part) :
    (shutOrders hs ts p).machines = p.machines := machines_of_sansPorts (shutOrders_sansPorts hs ts p)
@[simp] theorem shutOrders_profileA (hs : List HoseNo) (ts : List TankNo) (p : Part) :
    (shutOrders hs ts p).profileA = p.profileA := profileA_of_sansPorts (shutOrders_sansPorts hs ts p)
@[simp] theorem shutOrders_profileB (hs : List HoseNo) (ts : List TankNo) (p : Part) :
    (shutOrders hs ts p).profileB = p.profileB := profileB_of_sansPorts (shutOrders_sansPorts hs ts p)
@[simp] theorem shutOrders_current (hs : List HoseNo) (ts : List TankNo) (p : Part) :
    (shutOrders hs ts p).current = p.current := current_of_sansPorts (shutOrders_sansPorts hs ts p)
@[simp] theorem shutOrders_letter (hs : List HoseNo) (ts : List TankNo) (p : Part) :
    (shutOrders hs ts p).letter = p.letter := letter_of_sansPorts (shutOrders_sansPorts hs ts p)
@[simp] theorem shutOrders_zones (hs : List HoseNo) (ts : List TankNo) (p : Part) :
    (shutOrders hs ts p).zones = p.zones := zones_of_sansPorts (shutOrders_sansPorts hs ts p)
@[simp] theorem shutOrders_shutdown (hs : List HoseNo) (ts : List TankNo) (p : Part) :
    (shutOrders hs ts p).shutdown = p.shutdown := shutdown_of_sansPorts (shutOrders_sansPorts hs ts p)
@[simp] theorem shutOrders_bayAlarm (hs : List HoseNo) (ts : List TankNo) (p : Part) :
    (shutOrders hs ts p).bayAlarm = p.bayAlarm := bayAlarm_of_sansPorts (shutOrders_sansPorts hs ts p)
@[simp] theorem shutOrders_records (hs : List HoseNo) (ts : List TankNo) (p : Part) :
    (shutOrders hs ts p).records = p.records := records_of_sansPorts (shutOrders_sansPorts hs ts p)
@[simp] theorem shutOrders_reserved (hs : List HoseNo) (ts : List TankNo) (p : Part) :
    (shutOrders hs ts p).reserved = p.reserved := reserved_of_sansPorts (shutOrders_sansPorts hs ts p)
@[simp] theorem shutOrders_nextSerial (hs : List HoseNo) (ts : List TankNo) (p : Part) :
    (shutOrders hs ts p).nextSerial = p.nextSerial := nextSerial_of_sansPorts (shutOrders_sansPorts hs ts p)
@[simp] theorem shutOrders_pendingNotices (hs : List HoseNo) (ts : List TankNo) (p : Part) :
    (shutOrders hs ts p).pendingNotices = p.pendingNotices := pendingNotices_of_sansPorts (shutOrders_sansPorts hs ts p)
@[simp] theorem shutOrders_noticeMask (hs : List HoseNo) (ts : List TankNo) (p : Part) :
    (shutOrders hs ts p).noticeMask = p.noticeMask := noticeMask_of_sansPorts (shutOrders_sansPorts hs ts p)
@[simp] theorem shutOrders_bayMode (hs : List HoseNo) (ts : List TankNo) (p : Part) :
    (shutOrders hs ts p).bayMode = p.bayMode := bayMode_of_sansPorts (shutOrders_sansPorts hs ts p)
@[simp] theorem shutOrders_source (hs : List HoseNo) (ts : List TankNo) (p : Part) :
    (shutOrders hs ts p).source = p.source := source_of_sansPorts (shutOrders_sansPorts hs ts p)
@[simp] theorem shutOrders_profileHigh (hs : List HoseNo) (ts : List TankNo) (p : Part) :
    (shutOrders hs ts p).profileHigh = p.profileHigh := profileHigh_of_sansPorts (shutOrders_sansPorts hs ts p)
@[simp] theorem shutOrders_clock (hs : List HoseNo) (ts : List TankNo) (p : Part) :
    (shutOrders hs ts p).clock = p.clock := clock_of_sansPorts (shutOrders_sansPorts hs ts p)
@[simp] theorem shutOrders_clockUnset (hs : List HoseNo) (ts : List TankNo) (p : Part) :
    (shutOrders hs ts p).clockUnset = p.clockUnset := clockUnset_of_sansPorts (shutOrders_sansPorts hs ts p)
@[simp] theorem shutOrders_cursor (hs : List HoseNo) (ts : List TankNo) (p : Part) :
    (shutOrders hs ts p).cursor = p.cursor := cursor_of_sansPorts (shutOrders_sansPorts hs ts p)
@[simp] theorem shutOrders_test (hs : List HoseNo) (ts : List TankNo) (p : Part) :
    (shutOrders hs ts p).test = p.test := test_of_sansPorts (shutOrders_sansPorts hs ts p)
@[simp] theorem shutOrders_counts (hs : List HoseNo) (ts : List TankNo) (p : Part) :
    (shutOrders hs ts p).counts = p.counts := counts_of_sansPorts (shutOrders_sansPorts hs ts p)
@[simp] theorem shutOrders_freeUses (hs : List HoseNo) (ts : List TankNo) (p : Part) :
    (shutOrders hs ts p).freeUses = p.freeUses := freeUses_of_sansPorts (shutOrders_sansPorts hs ts p)
@[simp] theorem shutOrders_hose (hs : List HoseNo) (ts : List TankNo) (p : Part) (i : HoseNo) :
    (shutOrders hs ts p).hose i = p.hose i := by unfold Part.hose; rw [shutOrders_hoses]
@[simp] theorem shutOrders_tank (hs : List HoseNo) (ts : List TankNo) (p : Part) (i : TankNo) :
    (shutOrders hs ts p).tank i = p.tank i := by unfold Part.tank; rw [shutOrders_tanks]
@[simp] theorem shutOrders_pump (hs : List HoseNo) (ts : List TankNo) (p : Part) (i : TankNo) :
    (shutOrders hs ts p).pump i = p.pump i := by unfold Part.pump; rw [shutOrders_pumps]
@[simp] theorem shutOrders_zone (hs : List HoseNo) (ts : List TankNo) (p : Part) (i : ZoneNo) :
    (shutOrders hs ts p).zone i = p.zone i := by unfold Part.zone; rw [shutOrders_zones]
@[simp] theorem shutOrders_device (hs : List HoseNo) (ts : List TankNo) (p : Part) (i : DevNo) :
    (shutOrders hs ts p).device i = p.device i := by unfold Part.device; rw [shutOrders_devices]
@[simp] theorem shutOrders_machine (hs : List HoseNo) (ts : List TankNo) (p : Part) (i : SlotNo) :
    (shutOrders hs ts p).machine i = p.machine i := by unfold Part.machine; rw [shutOrders_machines]
@[simp] theorem shutOrders_product (hs : List HoseNo) (ts : List TankNo) (p : Part) (i : ProductNo) :
    (shutOrders hs ts p).product i = p.product i := by unfold Part.product; rw [shutOrders_products]
@[simp] theorem shutOrders_hoseZone (hs : List HoseNo) (ts : List TankNo) (p : Part) (i : HoseNo) :
    (shutOrders hs ts p).hoseZone i = p.hoseZone i := by simp only [Part.hoseZone, shutOrders_hose, shutOrders_tank]
@[simp] theorem shutOrders_tankHoses (hs : List HoseNo) (ts : List TankNo) (p : Part) (i : TankNo) :
    (shutOrders hs ts p).tankHoses i = p.tankHoses i := by simp only [Part.tankHoses, shutOrders_hose]
@[simp] theorem shutOrders_zoneTanks (hs : List HoseNo) (ts : List TankNo) (p : Part) (i : ZoneNo) :
    (shutOrders hs ts p).zoneTanks i = p.zoneTanks i := by simp only [Part.zoneTanks, shutOrders_tank]
@[simp] theorem shutOrders_zoneHoses (hs : List HoseNo) (ts : List TankNo) (p : Part) (i : ZoneNo) :
    (shutOrders hs ts p).zoneHoses i = p.zoneHoses i := by simp only [Part.zoneHoses, shutOrders_hoseZone]
@[simp] theorem shutOrders_boundNode (hs : List HoseNo) (ts : List TankNo) (p : Part) (x : Binding) :
    (shutOrders hs ts p).boundNode x = p.boundNode x := by unfold Part.boundNode; rw [shutOrders_devices]
@[simp] theorem shutOrders_roleGood (hs : List HoseNo) (ts : List TankNo) (p : Part) (x : Binding) :
    (shutOrders hs ts p).roleGood x = p.roleGood x := by simp only [Part.roleGood, shutOrders_boundNode, shutOrders_device]

@[simp] theorem dropBarred_rules (p : Part) :
    (dropBarred p).rules = p.rules := rules_of_sansPorts (dropBarred_sansPorts p)
@[simp] theorem dropBarred_filter (p : Part) :
    (dropBarred p).filter = p.filter := filter_of_sansPorts (dropBarred_sansPorts p)
@[simp] theorem dropBarred_devices (p : Part) :
    (dropBarred p).devices = p.devices := devices_of_sansPorts (dropBarred_sansPorts p)
@[simp] theorem dropBarred_hoses (p : Part) :
    (dropBarred p).hoses = p.hoses := hoses_of_sansPorts (dropBarred_sansPorts p)
@[simp] theorem dropBarred_pumps (p : Part) :
    (dropBarred p).pumps = p.pumps := pumps_of_sansPorts (dropBarred_sansPorts p)
@[simp] theorem dropBarred_tanks (p : Part) :
    (dropBarred p).tanks = p.tanks := tanks_of_sansPorts (dropBarred_sansPorts p)
@[simp] theorem dropBarred_products (p : Part) :
    (dropBarred p).products = p.products := products_of_sansPorts (dropBarred_sansPorts p)
@[simp] theorem dropBarred_machines (p : Part) :
    (dropBarred p).machines = p.machines := machines_of_sansPorts (dropBarred_sansPorts p)
@[simp] theorem dropBarred_profileA (p : Part) :
    (dropBarred p).profileA = p.profileA := profileA_of_sansPorts (dropBarred_sansPorts p)
@[simp] theorem dropBarred_profileB (p : Part) :
    (dropBarred p).profileB = p.profileB := profileB_of_sansPorts (dropBarred_sansPorts p)
@[simp] theorem dropBarred_current (p : Part) :
    (dropBarred p).current = p.current := current_of_sansPorts (dropBarred_sansPorts p)
@[simp] theorem dropBarred_letter (p : Part) :
    (dropBarred p).letter = p.letter := letter_of_sansPorts (dropBarred_sansPorts p)
@[simp] theorem dropBarred_zones (p : Part) :
    (dropBarred p).zones = p.zones := zones_of_sansPorts (dropBarred_sansPorts p)
@[simp] theorem dropBarred_shutdown (p : Part) :
    (dropBarred p).shutdown = p.shutdown := shutdown_of_sansPorts (dropBarred_sansPorts p)
@[simp] theorem dropBarred_bayAlarm (p : Part) :
    (dropBarred p).bayAlarm = p.bayAlarm := bayAlarm_of_sansPorts (dropBarred_sansPorts p)
@[simp] theorem dropBarred_records (p : Part) :
    (dropBarred p).records = p.records := records_of_sansPorts (dropBarred_sansPorts p)
@[simp] theorem dropBarred_reserved (p : Part) :
    (dropBarred p).reserved = p.reserved := reserved_of_sansPorts (dropBarred_sansPorts p)
@[simp] theorem dropBarred_nextSerial (p : Part) :
    (dropBarred p).nextSerial = p.nextSerial := nextSerial_of_sansPorts (dropBarred_sansPorts p)
@[simp] theorem dropBarred_pendingNotices (p : Part) :
    (dropBarred p).pendingNotices = p.pendingNotices := pendingNotices_of_sansPorts (dropBarred_sansPorts p)
@[simp] theorem dropBarred_noticeMask (p : Part) :
    (dropBarred p).noticeMask = p.noticeMask := noticeMask_of_sansPorts (dropBarred_sansPorts p)
@[simp] theorem dropBarred_bayMode (p : Part) :
    (dropBarred p).bayMode = p.bayMode := bayMode_of_sansPorts (dropBarred_sansPorts p)
@[simp] theorem dropBarred_source (p : Part) :
    (dropBarred p).source = p.source := source_of_sansPorts (dropBarred_sansPorts p)
@[simp] theorem dropBarred_profileHigh (p : Part) :
    (dropBarred p).profileHigh = p.profileHigh := profileHigh_of_sansPorts (dropBarred_sansPorts p)
@[simp] theorem dropBarred_clock (p : Part) :
    (dropBarred p).clock = p.clock := clock_of_sansPorts (dropBarred_sansPorts p)
@[simp] theorem dropBarred_clockUnset (p : Part) :
    (dropBarred p).clockUnset = p.clockUnset := clockUnset_of_sansPorts (dropBarred_sansPorts p)
@[simp] theorem dropBarred_cursor (p : Part) :
    (dropBarred p).cursor = p.cursor := cursor_of_sansPorts (dropBarred_sansPorts p)
@[simp] theorem dropBarred_test (p : Part) :
    (dropBarred p).test = p.test := test_of_sansPorts (dropBarred_sansPorts p)
@[simp] theorem dropBarred_counts (p : Part) :
    (dropBarred p).counts = p.counts := counts_of_sansPorts (dropBarred_sansPorts p)
@[simp] theorem dropBarred_freeUses (p : Part) :
    (dropBarred p).freeUses = p.freeUses := freeUses_of_sansPorts (dropBarred_sansPorts p)
@[simp] theorem dropBarred_hose (p : Part) (i : HoseNo) :
    (dropBarred p).hose i = p.hose i := by unfold Part.hose; rw [dropBarred_hoses]
@[simp] theorem dropBarred_tank (p : Part) (i : TankNo) :
    (dropBarred p).tank i = p.tank i := by unfold Part.tank; rw [dropBarred_tanks]
@[simp] theorem dropBarred_pump (p : Part) (i : TankNo) :
    (dropBarred p).pump i = p.pump i := by unfold Part.pump; rw [dropBarred_pumps]
@[simp] theorem dropBarred_zone (p : Part) (i : ZoneNo) :
    (dropBarred p).zone i = p.zone i := by unfold Part.zone; rw [dropBarred_zones]
@[simp] theorem dropBarred_device (p : Part) (i : DevNo) :
    (dropBarred p).device i = p.device i := by unfold Part.device; rw [dropBarred_devices]
@[simp] theorem dropBarred_machine (p : Part) (i : SlotNo) :
    (dropBarred p).machine i = p.machine i := by unfold Part.machine; rw [dropBarred_machines]
@[simp] theorem dropBarred_product (p : Part) (i : ProductNo) :
    (dropBarred p).product i = p.product i := by unfold Part.product; rw [dropBarred_products]
@[simp] theorem dropBarred_hoseZone (p : Part) (i : HoseNo) :
    (dropBarred p).hoseZone i = p.hoseZone i := by simp only [Part.hoseZone, dropBarred_hose, dropBarred_tank]
@[simp] theorem dropBarred_tankHoses (p : Part) (i : TankNo) :
    (dropBarred p).tankHoses i = p.tankHoses i := by simp only [Part.tankHoses, dropBarred_hose]
@[simp] theorem dropBarred_zoneTanks (p : Part) (i : ZoneNo) :
    (dropBarred p).zoneTanks i = p.zoneTanks i := by simp only [Part.zoneTanks, dropBarred_tank]
@[simp] theorem dropBarred_zoneHoses (p : Part) (i : ZoneNo) :
    (dropBarred p).zoneHoses i = p.zoneHoses i := by simp only [Part.zoneHoses, dropBarred_hoseZone]
@[simp] theorem dropBarred_boundNode (p : Part) (x : Binding) :
    (dropBarred p).boundNode x = p.boundNode x := by unfold Part.boundNode; rw [dropBarred_devices]
@[simp] theorem dropBarred_roleGood (p : Part) (x : Binding) :
    (dropBarred p).roleGood x = p.roleGood x := by simp only [Part.roleGood, dropBarred_boundNode, dropBarred_device]

@[simp] theorem reply_rules (src : Node) (st : Status) (d : List Byte) (p : Part) :
    (reply src st d p).rules = p.rules := rules_of_sansPorts (reply_sansPorts src st d p)
@[simp] theorem reply_filter (src : Node) (st : Status) (d : List Byte) (p : Part) :
    (reply src st d p).filter = p.filter := filter_of_sansPorts (reply_sansPorts src st d p)
@[simp] theorem reply_devices (src : Node) (st : Status) (d : List Byte) (p : Part) :
    (reply src st d p).devices = p.devices := devices_of_sansPorts (reply_sansPorts src st d p)
@[simp] theorem reply_hoses (src : Node) (st : Status) (d : List Byte) (p : Part) :
    (reply src st d p).hoses = p.hoses := hoses_of_sansPorts (reply_sansPorts src st d p)
@[simp] theorem reply_pumps (src : Node) (st : Status) (d : List Byte) (p : Part) :
    (reply src st d p).pumps = p.pumps := pumps_of_sansPorts (reply_sansPorts src st d p)
@[simp] theorem reply_tanks (src : Node) (st : Status) (d : List Byte) (p : Part) :
    (reply src st d p).tanks = p.tanks := tanks_of_sansPorts (reply_sansPorts src st d p)
@[simp] theorem reply_products (src : Node) (st : Status) (d : List Byte) (p : Part) :
    (reply src st d p).products = p.products := products_of_sansPorts (reply_sansPorts src st d p)
@[simp] theorem reply_machines (src : Node) (st : Status) (d : List Byte) (p : Part) :
    (reply src st d p).machines = p.machines := machines_of_sansPorts (reply_sansPorts src st d p)
@[simp] theorem reply_profileA (src : Node) (st : Status) (d : List Byte) (p : Part) :
    (reply src st d p).profileA = p.profileA := profileA_of_sansPorts (reply_sansPorts src st d p)
@[simp] theorem reply_profileB (src : Node) (st : Status) (d : List Byte) (p : Part) :
    (reply src st d p).profileB = p.profileB := profileB_of_sansPorts (reply_sansPorts src st d p)
@[simp] theorem reply_current (src : Node) (st : Status) (d : List Byte) (p : Part) :
    (reply src st d p).current = p.current := current_of_sansPorts (reply_sansPorts src st d p)
@[simp] theorem reply_letter (src : Node) (st : Status) (d : List Byte) (p : Part) :
    (reply src st d p).letter = p.letter := letter_of_sansPorts (reply_sansPorts src st d p)
@[simp] theorem reply_zones (src : Node) (st : Status) (d : List Byte) (p : Part) :
    (reply src st d p).zones = p.zones := zones_of_sansPorts (reply_sansPorts src st d p)
@[simp] theorem reply_shutdown (src : Node) (st : Status) (d : List Byte) (p : Part) :
    (reply src st d p).shutdown = p.shutdown := shutdown_of_sansPorts (reply_sansPorts src st d p)
@[simp] theorem reply_bayAlarm (src : Node) (st : Status) (d : List Byte) (p : Part) :
    (reply src st d p).bayAlarm = p.bayAlarm := bayAlarm_of_sansPorts (reply_sansPorts src st d p)
@[simp] theorem reply_records (src : Node) (st : Status) (d : List Byte) (p : Part) :
    (reply src st d p).records = p.records := records_of_sansPorts (reply_sansPorts src st d p)
@[simp] theorem reply_reserved (src : Node) (st : Status) (d : List Byte) (p : Part) :
    (reply src st d p).reserved = p.reserved := reserved_of_sansPorts (reply_sansPorts src st d p)
@[simp] theorem reply_nextSerial (src : Node) (st : Status) (d : List Byte) (p : Part) :
    (reply src st d p).nextSerial = p.nextSerial := nextSerial_of_sansPorts (reply_sansPorts src st d p)
@[simp] theorem reply_pendingNotices (src : Node) (st : Status) (d : List Byte) (p : Part) :
    (reply src st d p).pendingNotices = p.pendingNotices := pendingNotices_of_sansPorts (reply_sansPorts src st d p)
@[simp] theorem reply_noticeMask (src : Node) (st : Status) (d : List Byte) (p : Part) :
    (reply src st d p).noticeMask = p.noticeMask := noticeMask_of_sansPorts (reply_sansPorts src st d p)
@[simp] theorem reply_bayMode (src : Node) (st : Status) (d : List Byte) (p : Part) :
    (reply src st d p).bayMode = p.bayMode := bayMode_of_sansPorts (reply_sansPorts src st d p)
@[simp] theorem reply_source (src : Node) (st : Status) (d : List Byte) (p : Part) :
    (reply src st d p).source = p.source := source_of_sansPorts (reply_sansPorts src st d p)
@[simp] theorem reply_profileHigh (src : Node) (st : Status) (d : List Byte) (p : Part) :
    (reply src st d p).profileHigh = p.profileHigh := profileHigh_of_sansPorts (reply_sansPorts src st d p)
@[simp] theorem reply_clock (src : Node) (st : Status) (d : List Byte) (p : Part) :
    (reply src st d p).clock = p.clock := clock_of_sansPorts (reply_sansPorts src st d p)
@[simp] theorem reply_clockUnset (src : Node) (st : Status) (d : List Byte) (p : Part) :
    (reply src st d p).clockUnset = p.clockUnset := clockUnset_of_sansPorts (reply_sansPorts src st d p)
@[simp] theorem reply_cursor (src : Node) (st : Status) (d : List Byte) (p : Part) :
    (reply src st d p).cursor = p.cursor := cursor_of_sansPorts (reply_sansPorts src st d p)
@[simp] theorem reply_test (src : Node) (st : Status) (d : List Byte) (p : Part) :
    (reply src st d p).test = p.test := test_of_sansPorts (reply_sansPorts src st d p)
@[simp] theorem reply_counts (src : Node) (st : Status) (d : List Byte) (p : Part) :
    (reply src st d p).counts = p.counts := counts_of_sansPorts (reply_sansPorts src st d p)
@[simp] theorem reply_freeUses (src : Node) (st : Status) (d : List Byte) (p : Part) :
    (reply src st d p).freeUses = p.freeUses := freeUses_of_sansPorts (reply_sansPorts src st d p)
@[simp] theorem reply_hose (src : Node) (st : Status) (d : List Byte) (p : Part) (i : HoseNo) :
    (reply src st d p).hose i = p.hose i := by unfold Part.hose; rw [reply_hoses]
@[simp] theorem reply_tank (src : Node) (st : Status) (d : List Byte) (p : Part) (i : TankNo) :
    (reply src st d p).tank i = p.tank i := by unfold Part.tank; rw [reply_tanks]
@[simp] theorem reply_pump (src : Node) (st : Status) (d : List Byte) (p : Part) (i : TankNo) :
    (reply src st d p).pump i = p.pump i := by unfold Part.pump; rw [reply_pumps]
@[simp] theorem reply_zone (src : Node) (st : Status) (d : List Byte) (p : Part) (i : ZoneNo) :
    (reply src st d p).zone i = p.zone i := by unfold Part.zone; rw [reply_zones]
@[simp] theorem reply_device (src : Node) (st : Status) (d : List Byte) (p : Part) (i : DevNo) :
    (reply src st d p).device i = p.device i := by unfold Part.device; rw [reply_devices]
@[simp] theorem reply_machine (src : Node) (st : Status) (d : List Byte) (p : Part) (i : SlotNo) :
    (reply src st d p).machine i = p.machine i := by unfold Part.machine; rw [reply_machines]
@[simp] theorem reply_product (src : Node) (st : Status) (d : List Byte) (p : Part) (i : ProductNo) :
    (reply src st d p).product i = p.product i := by unfold Part.product; rw [reply_products]
@[simp] theorem reply_hoseZone (src : Node) (st : Status) (d : List Byte) (p : Part) (i : HoseNo) :
    (reply src st d p).hoseZone i = p.hoseZone i := by simp only [Part.hoseZone, reply_hose, reply_tank]
@[simp] theorem reply_tankHoses (src : Node) (st : Status) (d : List Byte) (p : Part) (i : TankNo) :
    (reply src st d p).tankHoses i = p.tankHoses i := by simp only [Part.tankHoses, reply_hose]
@[simp] theorem reply_zoneTanks (src : Node) (st : Status) (d : List Byte) (p : Part) (i : ZoneNo) :
    (reply src st d p).zoneTanks i = p.zoneTanks i := by simp only [Part.zoneTanks, reply_tank]
@[simp] theorem reply_zoneHoses (src : Node) (st : Status) (d : List Byte) (p : Part) (i : ZoneNo) :
    (reply src st d p).zoneHoses i = p.zoneHoses i := by simp only [Part.zoneHoses, reply_hoseZone]
@[simp] theorem reply_boundNode (src : Node) (st : Status) (d : List Byte) (p : Part) (x : Binding) :
    (reply src st d p).boundNode x = p.boundNode x := by unfold Part.boundNode; rw [reply_devices]
@[simp] theorem reply_roleGood (src : Node) (st : Status) (d : List Byte) (p : Part) (x : Binding) :
    (reply src st d p).roleGood x = p.roleGood x := by simp only [Part.roleGood, reply_boundNode, reply_device]

@[simp] theorem consumeUp_rules (p : Part) :
    (consumeUp p).rules = p.rules := rules_of_sansPorts (consumeUp_sansPorts p)
@[simp] theorem consumeUp_filter (p : Part) :
    (consumeUp p).filter = p.filter := filter_of_sansPorts (consumeUp_sansPorts p)
@[simp] theorem consumeUp_devices (p : Part) :
    (consumeUp p).devices = p.devices := devices_of_sansPorts (consumeUp_sansPorts p)
@[simp] theorem consumeUp_hoses (p : Part) :
    (consumeUp p).hoses = p.hoses := hoses_of_sansPorts (consumeUp_sansPorts p)
@[simp] theorem consumeUp_pumps (p : Part) :
    (consumeUp p).pumps = p.pumps := pumps_of_sansPorts (consumeUp_sansPorts p)
@[simp] theorem consumeUp_tanks (p : Part) :
    (consumeUp p).tanks = p.tanks := tanks_of_sansPorts (consumeUp_sansPorts p)
@[simp] theorem consumeUp_products (p : Part) :
    (consumeUp p).products = p.products := products_of_sansPorts (consumeUp_sansPorts p)
@[simp] theorem consumeUp_machines (p : Part) :
    (consumeUp p).machines = p.machines := machines_of_sansPorts (consumeUp_sansPorts p)
@[simp] theorem consumeUp_profileA (p : Part) :
    (consumeUp p).profileA = p.profileA := profileA_of_sansPorts (consumeUp_sansPorts p)
@[simp] theorem consumeUp_profileB (p : Part) :
    (consumeUp p).profileB = p.profileB := profileB_of_sansPorts (consumeUp_sansPorts p)
@[simp] theorem consumeUp_current (p : Part) :
    (consumeUp p).current = p.current := current_of_sansPorts (consumeUp_sansPorts p)
@[simp] theorem consumeUp_letter (p : Part) :
    (consumeUp p).letter = p.letter := letter_of_sansPorts (consumeUp_sansPorts p)
@[simp] theorem consumeUp_zones (p : Part) :
    (consumeUp p).zones = p.zones := zones_of_sansPorts (consumeUp_sansPorts p)
@[simp] theorem consumeUp_shutdown (p : Part) :
    (consumeUp p).shutdown = p.shutdown := shutdown_of_sansPorts (consumeUp_sansPorts p)
@[simp] theorem consumeUp_bayAlarm (p : Part) :
    (consumeUp p).bayAlarm = p.bayAlarm := bayAlarm_of_sansPorts (consumeUp_sansPorts p)
@[simp] theorem consumeUp_records (p : Part) :
    (consumeUp p).records = p.records := records_of_sansPorts (consumeUp_sansPorts p)
@[simp] theorem consumeUp_reserved (p : Part) :
    (consumeUp p).reserved = p.reserved := reserved_of_sansPorts (consumeUp_sansPorts p)
@[simp] theorem consumeUp_nextSerial (p : Part) :
    (consumeUp p).nextSerial = p.nextSerial := nextSerial_of_sansPorts (consumeUp_sansPorts p)
@[simp] theorem consumeUp_pendingNotices (p : Part) :
    (consumeUp p).pendingNotices = p.pendingNotices := pendingNotices_of_sansPorts (consumeUp_sansPorts p)
@[simp] theorem consumeUp_noticeMask (p : Part) :
    (consumeUp p).noticeMask = p.noticeMask := noticeMask_of_sansPorts (consumeUp_sansPorts p)
@[simp] theorem consumeUp_bayMode (p : Part) :
    (consumeUp p).bayMode = p.bayMode := bayMode_of_sansPorts (consumeUp_sansPorts p)
@[simp] theorem consumeUp_source (p : Part) :
    (consumeUp p).source = p.source := source_of_sansPorts (consumeUp_sansPorts p)
@[simp] theorem consumeUp_profileHigh (p : Part) :
    (consumeUp p).profileHigh = p.profileHigh := profileHigh_of_sansPorts (consumeUp_sansPorts p)
@[simp] theorem consumeUp_clock (p : Part) :
    (consumeUp p).clock = p.clock := clock_of_sansPorts (consumeUp_sansPorts p)
@[simp] theorem consumeUp_clockUnset (p : Part) :
    (consumeUp p).clockUnset = p.clockUnset := clockUnset_of_sansPorts (consumeUp_sansPorts p)
@[simp] theorem consumeUp_cursor (p : Part) :
    (consumeUp p).cursor = p.cursor := cursor_of_sansPorts (consumeUp_sansPorts p)
@[simp] theorem consumeUp_test (p : Part) :
    (consumeUp p).test = p.test := test_of_sansPorts (consumeUp_sansPorts p)
@[simp] theorem consumeUp_counts (p : Part) :
    (consumeUp p).counts = p.counts := counts_of_sansPorts (consumeUp_sansPorts p)
@[simp] theorem consumeUp_freeUses (p : Part) :
    (consumeUp p).freeUses = p.freeUses := freeUses_of_sansPorts (consumeUp_sansPorts p)
@[simp] theorem consumeUp_hose (p : Part) (i : HoseNo) :
    (consumeUp p).hose i = p.hose i := by unfold Part.hose; rw [consumeUp_hoses]
@[simp] theorem consumeUp_tank (p : Part) (i : TankNo) :
    (consumeUp p).tank i = p.tank i := by unfold Part.tank; rw [consumeUp_tanks]
@[simp] theorem consumeUp_pump (p : Part) (i : TankNo) :
    (consumeUp p).pump i = p.pump i := by unfold Part.pump; rw [consumeUp_pumps]
@[simp] theorem consumeUp_zone (p : Part) (i : ZoneNo) :
    (consumeUp p).zone i = p.zone i := by unfold Part.zone; rw [consumeUp_zones]
@[simp] theorem consumeUp_device (p : Part) (i : DevNo) :
    (consumeUp p).device i = p.device i := by unfold Part.device; rw [consumeUp_devices]
@[simp] theorem consumeUp_machine (p : Part) (i : SlotNo) :
    (consumeUp p).machine i = p.machine i := by unfold Part.machine; rw [consumeUp_machines]
@[simp] theorem consumeUp_product (p : Part) (i : ProductNo) :
    (consumeUp p).product i = p.product i := by unfold Part.product; rw [consumeUp_products]
@[simp] theorem consumeUp_hoseZone (p : Part) (i : HoseNo) :
    (consumeUp p).hoseZone i = p.hoseZone i := by simp only [Part.hoseZone, consumeUp_hose, consumeUp_tank]
@[simp] theorem consumeUp_tankHoses (p : Part) (i : TankNo) :
    (consumeUp p).tankHoses i = p.tankHoses i := by simp only [Part.tankHoses, consumeUp_hose]
@[simp] theorem consumeUp_zoneTanks (p : Part) (i : ZoneNo) :
    (consumeUp p).zoneTanks i = p.zoneTanks i := by simp only [Part.zoneTanks, consumeUp_tank]
@[simp] theorem consumeUp_zoneHoses (p : Part) (i : ZoneNo) :
    (consumeUp p).zoneHoses i = p.zoneHoses i := by simp only [Part.zoneHoses, consumeUp_hoseZone]
@[simp] theorem consumeUp_boundNode (p : Part) (x : Binding) :
    (consumeUp p).boundNode x = p.boundNode x := by unfold Part.boundNode; rw [consumeUp_devices]
@[simp] theorem consumeUp_roleGood (p : Part) (x : Binding) :
    (consumeUp p).roleGood x = p.roleGood x := by simp only [Part.roleGood, consumeUp_boundNode, consumeUp_device]

/-! ## The ports and the notices -/

@[simp] theorem syncLines_rules (p : Part) :
    (syncLines p).rules = p.rules := rules_of_sansNotices (syncLines_sansNotices p)
@[simp] theorem syncLines_filter (p : Part) :
    (syncLines p).filter = p.filter := filter_of_sansNotices (syncLines_sansNotices p)
@[simp] theorem syncLines_devices (p : Part) :
    (syncLines p).devices = p.devices := devices_of_sansNotices (syncLines_sansNotices p)
@[simp] theorem syncLines_hoses (p : Part) :
    (syncLines p).hoses = p.hoses := hoses_of_sansNotices (syncLines_sansNotices p)
@[simp] theorem syncLines_pumps (p : Part) :
    (syncLines p).pumps = p.pumps := pumps_of_sansNotices (syncLines_sansNotices p)
@[simp] theorem syncLines_tanks (p : Part) :
    (syncLines p).tanks = p.tanks := tanks_of_sansNotices (syncLines_sansNotices p)
@[simp] theorem syncLines_products (p : Part) :
    (syncLines p).products = p.products := products_of_sansNotices (syncLines_sansNotices p)
@[simp] theorem syncLines_machines (p : Part) :
    (syncLines p).machines = p.machines := machines_of_sansNotices (syncLines_sansNotices p)
@[simp] theorem syncLines_profileA (p : Part) :
    (syncLines p).profileA = p.profileA := profileA_of_sansNotices (syncLines_sansNotices p)
@[simp] theorem syncLines_profileB (p : Part) :
    (syncLines p).profileB = p.profileB := profileB_of_sansNotices (syncLines_sansNotices p)
@[simp] theorem syncLines_current (p : Part) :
    (syncLines p).current = p.current := current_of_sansNotices (syncLines_sansNotices p)
@[simp] theorem syncLines_letter (p : Part) :
    (syncLines p).letter = p.letter := letter_of_sansNotices (syncLines_sansNotices p)
@[simp] theorem syncLines_zones (p : Part) :
    (syncLines p).zones = p.zones := zones_of_sansNotices (syncLines_sansNotices p)
@[simp] theorem syncLines_records (p : Part) :
    (syncLines p).records = p.records := records_of_sansNotices (syncLines_sansNotices p)
@[simp] theorem syncLines_reserved (p : Part) :
    (syncLines p).reserved = p.reserved := reserved_of_sansNotices (syncLines_sansNotices p)
@[simp] theorem syncLines_nextSerial (p : Part) :
    (syncLines p).nextSerial = p.nextSerial := nextSerial_of_sansNotices (syncLines_sansNotices p)
@[simp] theorem syncLines_noticeMask (p : Part) :
    (syncLines p).noticeMask = p.noticeMask := noticeMask_of_sansNotices (syncLines_sansNotices p)
@[simp] theorem syncLines_bayMode (p : Part) :
    (syncLines p).bayMode = p.bayMode := bayMode_of_sansNotices (syncLines_sansNotices p)
@[simp] theorem syncLines_source (p : Part) :
    (syncLines p).source = p.source := source_of_sansNotices (syncLines_sansNotices p)
@[simp] theorem syncLines_profileHigh (p : Part) :
    (syncLines p).profileHigh = p.profileHigh := profileHigh_of_sansNotices (syncLines_sansNotices p)
@[simp] theorem syncLines_clock (p : Part) :
    (syncLines p).clock = p.clock := clock_of_sansNotices (syncLines_sansNotices p)
@[simp] theorem syncLines_clockUnset (p : Part) :
    (syncLines p).clockUnset = p.clockUnset := clockUnset_of_sansNotices (syncLines_sansNotices p)
@[simp] theorem syncLines_cursor (p : Part) :
    (syncLines p).cursor = p.cursor := cursor_of_sansNotices (syncLines_sansNotices p)
@[simp] theorem syncLines_test (p : Part) :
    (syncLines p).test = p.test := test_of_sansNotices (syncLines_sansNotices p)
@[simp] theorem syncLines_counts (p : Part) :
    (syncLines p).counts = p.counts := counts_of_sansNotices (syncLines_sansNotices p)
@[simp] theorem syncLines_freeUses (p : Part) :
    (syncLines p).freeUses = p.freeUses := freeUses_of_sansNotices (syncLines_sansNotices p)
@[simp] theorem syncLines_hose (p : Part) (i : HoseNo) :
    (syncLines p).hose i = p.hose i := by unfold Part.hose; rw [syncLines_hoses]
@[simp] theorem syncLines_tank (p : Part) (i : TankNo) :
    (syncLines p).tank i = p.tank i := by unfold Part.tank; rw [syncLines_tanks]
@[simp] theorem syncLines_pump (p : Part) (i : TankNo) :
    (syncLines p).pump i = p.pump i := by unfold Part.pump; rw [syncLines_pumps]
@[simp] theorem syncLines_zone (p : Part) (i : ZoneNo) :
    (syncLines p).zone i = p.zone i := by unfold Part.zone; rw [syncLines_zones]
@[simp] theorem syncLines_device (p : Part) (i : DevNo) :
    (syncLines p).device i = p.device i := by unfold Part.device; rw [syncLines_devices]
@[simp] theorem syncLines_machine (p : Part) (i : SlotNo) :
    (syncLines p).machine i = p.machine i := by unfold Part.machine; rw [syncLines_machines]
@[simp] theorem syncLines_product (p : Part) (i : ProductNo) :
    (syncLines p).product i = p.product i := by unfold Part.product; rw [syncLines_products]
@[simp] theorem syncLines_hoseZone (p : Part) (i : HoseNo) :
    (syncLines p).hoseZone i = p.hoseZone i := by simp only [Part.hoseZone, syncLines_hose, syncLines_tank]
@[simp] theorem syncLines_tankHoses (p : Part) (i : TankNo) :
    (syncLines p).tankHoses i = p.tankHoses i := by simp only [Part.tankHoses, syncLines_hose]
@[simp] theorem syncLines_zoneTanks (p : Part) (i : ZoneNo) :
    (syncLines p).zoneTanks i = p.zoneTanks i := by simp only [Part.zoneTanks, syncLines_tank]
@[simp] theorem syncLines_zoneHoses (p : Part) (i : ZoneNo) :
    (syncLines p).zoneHoses i = p.zoneHoses i := by simp only [Part.zoneHoses, syncLines_hoseZone]
@[simp] theorem syncLines_boundNode (p : Part) (x : Binding) :
    (syncLines p).boundNode x = p.boundNode x := by unfold Part.boundNode; rw [syncLines_devices]
@[simp] theorem syncLines_roleGood (p : Part) (x : Binding) :
    (syncLines p).roleGood x = p.roleGood x := by simp only [Part.roleGood, syncLines_boundNode, syncLines_device]

@[simp] theorem syncLines_pendingNotices (p : Part) : (syncLines p).pendingNotices = p.pendingNotices := rfl
@[simp] theorem syncLines_up (p : Part) : (syncLines p).up = p.up := rfl
@[simp] theorem syncLines_fp (p : Part) : (syncLines p).fp = p.fp := rfl

@[simp] theorem raise_rules (n : Notice) (p : Part) :
    (raise n p).rules = p.rules := rules_of_sansNotices (raise_sansNotices n p)
@[simp] theorem raise_filter (n : Notice) (p : Part) :
    (raise n p).filter = p.filter := filter_of_sansNotices (raise_sansNotices n p)
@[simp] theorem raise_devices (n : Notice) (p : Part) :
    (raise n p).devices = p.devices := devices_of_sansNotices (raise_sansNotices n p)
@[simp] theorem raise_hoses (n : Notice) (p : Part) :
    (raise n p).hoses = p.hoses := hoses_of_sansNotices (raise_sansNotices n p)
@[simp] theorem raise_pumps (n : Notice) (p : Part) :
    (raise n p).pumps = p.pumps := pumps_of_sansNotices (raise_sansNotices n p)
@[simp] theorem raise_tanks (n : Notice) (p : Part) :
    (raise n p).tanks = p.tanks := tanks_of_sansNotices (raise_sansNotices n p)
@[simp] theorem raise_products (n : Notice) (p : Part) :
    (raise n p).products = p.products := products_of_sansNotices (raise_sansNotices n p)
@[simp] theorem raise_machines (n : Notice) (p : Part) :
    (raise n p).machines = p.machines := machines_of_sansNotices (raise_sansNotices n p)
@[simp] theorem raise_profileA (n : Notice) (p : Part) :
    (raise n p).profileA = p.profileA := profileA_of_sansNotices (raise_sansNotices n p)
@[simp] theorem raise_profileB (n : Notice) (p : Part) :
    (raise n p).profileB = p.profileB := profileB_of_sansNotices (raise_sansNotices n p)
@[simp] theorem raise_current (n : Notice) (p : Part) :
    (raise n p).current = p.current := current_of_sansNotices (raise_sansNotices n p)
@[simp] theorem raise_letter (n : Notice) (p : Part) :
    (raise n p).letter = p.letter := letter_of_sansNotices (raise_sansNotices n p)
@[simp] theorem raise_zones (n : Notice) (p : Part) :
    (raise n p).zones = p.zones := zones_of_sansNotices (raise_sansNotices n p)
@[simp] theorem raise_records (n : Notice) (p : Part) :
    (raise n p).records = p.records := records_of_sansNotices (raise_sansNotices n p)
@[simp] theorem raise_reserved (n : Notice) (p : Part) :
    (raise n p).reserved = p.reserved := reserved_of_sansNotices (raise_sansNotices n p)
@[simp] theorem raise_nextSerial (n : Notice) (p : Part) :
    (raise n p).nextSerial = p.nextSerial := nextSerial_of_sansNotices (raise_sansNotices n p)
@[simp] theorem raise_noticeMask (n : Notice) (p : Part) :
    (raise n p).noticeMask = p.noticeMask := noticeMask_of_sansNotices (raise_sansNotices n p)
@[simp] theorem raise_bayMode (n : Notice) (p : Part) :
    (raise n p).bayMode = p.bayMode := bayMode_of_sansNotices (raise_sansNotices n p)
@[simp] theorem raise_source (n : Notice) (p : Part) :
    (raise n p).source = p.source := source_of_sansNotices (raise_sansNotices n p)
@[simp] theorem raise_profileHigh (n : Notice) (p : Part) :
    (raise n p).profileHigh = p.profileHigh := profileHigh_of_sansNotices (raise_sansNotices n p)
@[simp] theorem raise_clock (n : Notice) (p : Part) :
    (raise n p).clock = p.clock := clock_of_sansNotices (raise_sansNotices n p)
@[simp] theorem raise_clockUnset (n : Notice) (p : Part) :
    (raise n p).clockUnset = p.clockUnset := clockUnset_of_sansNotices (raise_sansNotices n p)
@[simp] theorem raise_cursor (n : Notice) (p : Part) :
    (raise n p).cursor = p.cursor := cursor_of_sansNotices (raise_sansNotices n p)
@[simp] theorem raise_test (n : Notice) (p : Part) :
    (raise n p).test = p.test := test_of_sansNotices (raise_sansNotices n p)
@[simp] theorem raise_counts (n : Notice) (p : Part) :
    (raise n p).counts = p.counts := counts_of_sansNotices (raise_sansNotices n p)
@[simp] theorem raise_freeUses (n : Notice) (p : Part) :
    (raise n p).freeUses = p.freeUses := freeUses_of_sansNotices (raise_sansNotices n p)
@[simp] theorem raise_hose (n : Notice) (p : Part) (i : HoseNo) :
    (raise n p).hose i = p.hose i := by unfold Part.hose; rw [raise_hoses]
@[simp] theorem raise_tank (n : Notice) (p : Part) (i : TankNo) :
    (raise n p).tank i = p.tank i := by unfold Part.tank; rw [raise_tanks]
@[simp] theorem raise_pump (n : Notice) (p : Part) (i : TankNo) :
    (raise n p).pump i = p.pump i := by unfold Part.pump; rw [raise_pumps]
@[simp] theorem raise_zone (n : Notice) (p : Part) (i : ZoneNo) :
    (raise n p).zone i = p.zone i := by unfold Part.zone; rw [raise_zones]
@[simp] theorem raise_device (n : Notice) (p : Part) (i : DevNo) :
    (raise n p).device i = p.device i := by unfold Part.device; rw [raise_devices]
@[simp] theorem raise_machine (n : Notice) (p : Part) (i : SlotNo) :
    (raise n p).machine i = p.machine i := by unfold Part.machine; rw [raise_machines]
@[simp] theorem raise_product (n : Notice) (p : Part) (i : ProductNo) :
    (raise n p).product i = p.product i := by unfold Part.product; rw [raise_products]
@[simp] theorem raise_hoseZone (n : Notice) (p : Part) (i : HoseNo) :
    (raise n p).hoseZone i = p.hoseZone i := by simp only [Part.hoseZone, raise_hose, raise_tank]
@[simp] theorem raise_tankHoses (n : Notice) (p : Part) (i : TankNo) :
    (raise n p).tankHoses i = p.tankHoses i := by simp only [Part.tankHoses, raise_hose]
@[simp] theorem raise_zoneTanks (n : Notice) (p : Part) (i : ZoneNo) :
    (raise n p).zoneTanks i = p.zoneTanks i := by simp only [Part.zoneTanks, raise_tank]
@[simp] theorem raise_zoneHoses (n : Notice) (p : Part) (i : ZoneNo) :
    (raise n p).zoneHoses i = p.zoneHoses i := by simp only [Part.zoneHoses, raise_hoseZone]
@[simp] theorem raise_boundNode (n : Notice) (p : Part) (x : Binding) :
    (raise n p).boundNode x = p.boundNode x := by unfold Part.boundNode; rw [raise_devices]
@[simp] theorem raise_roleGood (n : Notice) (p : Part) (x : Binding) :
    (raise n p).roleGood x = p.roleGood x := by simp only [Part.roleGood, raise_boundNode, raise_device]

@[simp] theorem raise_fp (n : Notice) (p : Part) : (raise n p).fp = p.fp := by
  unfold raise; split
  · rfl
  · dsimp only; split <;> simp

/-! ## Records too -/

@[simp] theorem headChanged_rules (p : Part) :
    (headChanged p).rules = p.rules := rules_of_sansRecords (headChanged_sansRecords p)
@[simp] theorem headChanged_filter (p : Part) :
    (headChanged p).filter = p.filter := filter_of_sansRecords (headChanged_sansRecords p)
@[simp] theorem headChanged_devices (p : Part) :
    (headChanged p).devices = p.devices := devices_of_sansRecords (headChanged_sansRecords p)
@[simp] theorem headChanged_hoses (p : Part) :
    (headChanged p).hoses = p.hoses := hoses_of_sansRecords (headChanged_sansRecords p)
@[simp] theorem headChanged_pumps (p : Part) :
    (headChanged p).pumps = p.pumps := pumps_of_sansRecords (headChanged_sansRecords p)
@[simp] theorem headChanged_tanks (p : Part) :
    (headChanged p).tanks = p.tanks := tanks_of_sansRecords (headChanged_sansRecords p)
@[simp] theorem headChanged_products (p : Part) :
    (headChanged p).products = p.products := products_of_sansRecords (headChanged_sansRecords p)
@[simp] theorem headChanged_machines (p : Part) :
    (headChanged p).machines = p.machines := machines_of_sansRecords (headChanged_sansRecords p)
@[simp] theorem headChanged_profileA (p : Part) :
    (headChanged p).profileA = p.profileA := profileA_of_sansRecords (headChanged_sansRecords p)
@[simp] theorem headChanged_profileB (p : Part) :
    (headChanged p).profileB = p.profileB := profileB_of_sansRecords (headChanged_sansRecords p)
@[simp] theorem headChanged_current (p : Part) :
    (headChanged p).current = p.current := current_of_sansRecords (headChanged_sansRecords p)
@[simp] theorem headChanged_letter (p : Part) :
    (headChanged p).letter = p.letter := letter_of_sansRecords (headChanged_sansRecords p)
@[simp] theorem headChanged_zones (p : Part) :
    (headChanged p).zones = p.zones := zones_of_sansRecords (headChanged_sansRecords p)
@[simp] theorem headChanged_noticeMask (p : Part) :
    (headChanged p).noticeMask = p.noticeMask := noticeMask_of_sansRecords (headChanged_sansRecords p)
@[simp] theorem headChanged_bayMode (p : Part) :
    (headChanged p).bayMode = p.bayMode := bayMode_of_sansRecords (headChanged_sansRecords p)
@[simp] theorem headChanged_source (p : Part) :
    (headChanged p).source = p.source := source_of_sansRecords (headChanged_sansRecords p)
@[simp] theorem headChanged_profileHigh (p : Part) :
    (headChanged p).profileHigh = p.profileHigh := profileHigh_of_sansRecords (headChanged_sansRecords p)
@[simp] theorem headChanged_clock (p : Part) :
    (headChanged p).clock = p.clock := clock_of_sansRecords (headChanged_sansRecords p)
@[simp] theorem headChanged_clockUnset (p : Part) :
    (headChanged p).clockUnset = p.clockUnset := clockUnset_of_sansRecords (headChanged_sansRecords p)
@[simp] theorem headChanged_test (p : Part) :
    (headChanged p).test = p.test := test_of_sansRecords (headChanged_sansRecords p)
@[simp] theorem headChanged_counts (p : Part) :
    (headChanged p).counts = p.counts := counts_of_sansRecords (headChanged_sansRecords p)
@[simp] theorem headChanged_freeUses (p : Part) :
    (headChanged p).freeUses = p.freeUses := freeUses_of_sansRecords (headChanged_sansRecords p)
@[simp] theorem headChanged_hose (p : Part) (i : HoseNo) :
    (headChanged p).hose i = p.hose i := by unfold Part.hose; rw [headChanged_hoses]
@[simp] theorem headChanged_tank (p : Part) (i : TankNo) :
    (headChanged p).tank i = p.tank i := by unfold Part.tank; rw [headChanged_tanks]
@[simp] theorem headChanged_pump (p : Part) (i : TankNo) :
    (headChanged p).pump i = p.pump i := by unfold Part.pump; rw [headChanged_pumps]
@[simp] theorem headChanged_zone (p : Part) (i : ZoneNo) :
    (headChanged p).zone i = p.zone i := by unfold Part.zone; rw [headChanged_zones]
@[simp] theorem headChanged_device (p : Part) (i : DevNo) :
    (headChanged p).device i = p.device i := by unfold Part.device; rw [headChanged_devices]
@[simp] theorem headChanged_machine (p : Part) (i : SlotNo) :
    (headChanged p).machine i = p.machine i := by unfold Part.machine; rw [headChanged_machines]
@[simp] theorem headChanged_product (p : Part) (i : ProductNo) :
    (headChanged p).product i = p.product i := by unfold Part.product; rw [headChanged_products]
@[simp] theorem headChanged_hoseZone (p : Part) (i : HoseNo) :
    (headChanged p).hoseZone i = p.hoseZone i := by simp only [Part.hoseZone, headChanged_hose, headChanged_tank]
@[simp] theorem headChanged_tankHoses (p : Part) (i : TankNo) :
    (headChanged p).tankHoses i = p.tankHoses i := by simp only [Part.tankHoses, headChanged_hose]
@[simp] theorem headChanged_zoneTanks (p : Part) (i : ZoneNo) :
    (headChanged p).zoneTanks i = p.zoneTanks i := by simp only [Part.zoneTanks, headChanged_tank]
@[simp] theorem headChanged_zoneHoses (p : Part) (i : ZoneNo) :
    (headChanged p).zoneHoses i = p.zoneHoses i := by simp only [Part.zoneHoses, headChanged_hoseZone]
@[simp] theorem headChanged_boundNode (p : Part) (x : Binding) :
    (headChanged p).boundNode x = p.boundNode x := by unfold Part.boundNode; rw [headChanged_devices]
@[simp] theorem headChanged_roleGood (p : Part) (x : Binding) :
    (headChanged p).roleGood x = p.roleGood x := by simp only [Part.roleGood, headChanged_boundNode, headChanged_device]

@[simp] theorem placeRecord_rules (r : Record) (p : Part) :
    (placeRecord r p).rules = p.rules := rules_of_sansRecords (placeRecord_sansRecords r p)
@[simp] theorem placeRecord_filter (r : Record) (p : Part) :
    (placeRecord r p).filter = p.filter := filter_of_sansRecords (placeRecord_sansRecords r p)
@[simp] theorem placeRecord_devices (r : Record) (p : Part) :
    (placeRecord r p).devices = p.devices := devices_of_sansRecords (placeRecord_sansRecords r p)
@[simp] theorem placeRecord_hoses (r : Record) (p : Part) :
    (placeRecord r p).hoses = p.hoses := hoses_of_sansRecords (placeRecord_sansRecords r p)
@[simp] theorem placeRecord_pumps (r : Record) (p : Part) :
    (placeRecord r p).pumps = p.pumps := pumps_of_sansRecords (placeRecord_sansRecords r p)
@[simp] theorem placeRecord_tanks (r : Record) (p : Part) :
    (placeRecord r p).tanks = p.tanks := tanks_of_sansRecords (placeRecord_sansRecords r p)
@[simp] theorem placeRecord_products (r : Record) (p : Part) :
    (placeRecord r p).products = p.products := products_of_sansRecords (placeRecord_sansRecords r p)
@[simp] theorem placeRecord_machines (r : Record) (p : Part) :
    (placeRecord r p).machines = p.machines := machines_of_sansRecords (placeRecord_sansRecords r p)
@[simp] theorem placeRecord_profileA (r : Record) (p : Part) :
    (placeRecord r p).profileA = p.profileA := profileA_of_sansRecords (placeRecord_sansRecords r p)
@[simp] theorem placeRecord_profileB (r : Record) (p : Part) :
    (placeRecord r p).profileB = p.profileB := profileB_of_sansRecords (placeRecord_sansRecords r p)
@[simp] theorem placeRecord_current (r : Record) (p : Part) :
    (placeRecord r p).current = p.current := current_of_sansRecords (placeRecord_sansRecords r p)
@[simp] theorem placeRecord_letter (r : Record) (p : Part) :
    (placeRecord r p).letter = p.letter := letter_of_sansRecords (placeRecord_sansRecords r p)
@[simp] theorem placeRecord_zones (r : Record) (p : Part) :
    (placeRecord r p).zones = p.zones := zones_of_sansRecords (placeRecord_sansRecords r p)
@[simp] theorem placeRecord_noticeMask (r : Record) (p : Part) :
    (placeRecord r p).noticeMask = p.noticeMask := noticeMask_of_sansRecords (placeRecord_sansRecords r p)
@[simp] theorem placeRecord_bayMode (r : Record) (p : Part) :
    (placeRecord r p).bayMode = p.bayMode := bayMode_of_sansRecords (placeRecord_sansRecords r p)
@[simp] theorem placeRecord_source (r : Record) (p : Part) :
    (placeRecord r p).source = p.source := source_of_sansRecords (placeRecord_sansRecords r p)
@[simp] theorem placeRecord_profileHigh (r : Record) (p : Part) :
    (placeRecord r p).profileHigh = p.profileHigh := profileHigh_of_sansRecords (placeRecord_sansRecords r p)
@[simp] theorem placeRecord_clock (r : Record) (p : Part) :
    (placeRecord r p).clock = p.clock := clock_of_sansRecords (placeRecord_sansRecords r p)
@[simp] theorem placeRecord_clockUnset (r : Record) (p : Part) :
    (placeRecord r p).clockUnset = p.clockUnset := clockUnset_of_sansRecords (placeRecord_sansRecords r p)
@[simp] theorem placeRecord_test (r : Record) (p : Part) :
    (placeRecord r p).test = p.test := test_of_sansRecords (placeRecord_sansRecords r p)
@[simp] theorem placeRecord_counts (r : Record) (p : Part) :
    (placeRecord r p).counts = p.counts := counts_of_sansRecords (placeRecord_sansRecords r p)
@[simp] theorem placeRecord_freeUses (r : Record) (p : Part) :
    (placeRecord r p).freeUses = p.freeUses := freeUses_of_sansRecords (placeRecord_sansRecords r p)
@[simp] theorem placeRecord_hose (r : Record) (p : Part) (i : HoseNo) :
    (placeRecord r p).hose i = p.hose i := by unfold Part.hose; rw [placeRecord_hoses]
@[simp] theorem placeRecord_tank (r : Record) (p : Part) (i : TankNo) :
    (placeRecord r p).tank i = p.tank i := by unfold Part.tank; rw [placeRecord_tanks]
@[simp] theorem placeRecord_pump (r : Record) (p : Part) (i : TankNo) :
    (placeRecord r p).pump i = p.pump i := by unfold Part.pump; rw [placeRecord_pumps]
@[simp] theorem placeRecord_zone (r : Record) (p : Part) (i : ZoneNo) :
    (placeRecord r p).zone i = p.zone i := by unfold Part.zone; rw [placeRecord_zones]
@[simp] theorem placeRecord_device (r : Record) (p : Part) (i : DevNo) :
    (placeRecord r p).device i = p.device i := by unfold Part.device; rw [placeRecord_devices]
@[simp] theorem placeRecord_machine (r : Record) (p : Part) (i : SlotNo) :
    (placeRecord r p).machine i = p.machine i := by unfold Part.machine; rw [placeRecord_machines]
@[simp] theorem placeRecord_product (r : Record) (p : Part) (i : ProductNo) :
    (placeRecord r p).product i = p.product i := by unfold Part.product; rw [placeRecord_products]
@[simp] theorem placeRecord_hoseZone (r : Record) (p : Part) (i : HoseNo) :
    (placeRecord r p).hoseZone i = p.hoseZone i := by simp only [Part.hoseZone, placeRecord_hose, placeRecord_tank]
@[simp] theorem placeRecord_tankHoses (r : Record) (p : Part) (i : TankNo) :
    (placeRecord r p).tankHoses i = p.tankHoses i := by simp only [Part.tankHoses, placeRecord_hose]
@[simp] theorem placeRecord_zoneTanks (r : Record) (p : Part) (i : ZoneNo) :
    (placeRecord r p).zoneTanks i = p.zoneTanks i := by simp only [Part.zoneTanks, placeRecord_tank]
@[simp] theorem placeRecord_zoneHoses (r : Record) (p : Part) (i : ZoneNo) :
    (placeRecord r p).zoneHoses i = p.zoneHoses i := by simp only [Part.zoneHoses, placeRecord_hoseZone]
@[simp] theorem placeRecord_boundNode (r : Record) (p : Part) (x : Binding) :
    (placeRecord r p).boundNode x = p.boundNode x := by unfold Part.boundNode; rw [placeRecord_devices]
@[simp] theorem placeRecord_roleGood (r : Record) (p : Part) (x : Binding) :
    (placeRecord r p).roleGood x = p.roleGood x := by simp only [Part.roleGood, placeRecord_boundNode, placeRecord_device]

@[simp] theorem placeReserved_rules (r : Record) (p : Part) :
    (placeReserved r p).rules = p.rules := rules_of_sansRecords (placeReserved_sansRecords r p)
@[simp] theorem placeReserved_filter (r : Record) (p : Part) :
    (placeReserved r p).filter = p.filter := filter_of_sansRecords (placeReserved_sansRecords r p)
@[simp] theorem placeReserved_devices (r : Record) (p : Part) :
    (placeReserved r p).devices = p.devices := devices_of_sansRecords (placeReserved_sansRecords r p)
@[simp] theorem placeReserved_hoses (r : Record) (p : Part) :
    (placeReserved r p).hoses = p.hoses := hoses_of_sansRecords (placeReserved_sansRecords r p)
@[simp] theorem placeReserved_pumps (r : Record) (p : Part) :
    (placeReserved r p).pumps = p.pumps := pumps_of_sansRecords (placeReserved_sansRecords r p)
@[simp] theorem placeReserved_tanks (r : Record) (p : Part) :
    (placeReserved r p).tanks = p.tanks := tanks_of_sansRecords (placeReserved_sansRecords r p)
@[simp] theorem placeReserved_products (r : Record) (p : Part) :
    (placeReserved r p).products = p.products := products_of_sansRecords (placeReserved_sansRecords r p)
@[simp] theorem placeReserved_machines (r : Record) (p : Part) :
    (placeReserved r p).machines = p.machines := machines_of_sansRecords (placeReserved_sansRecords r p)
@[simp] theorem placeReserved_profileA (r : Record) (p : Part) :
    (placeReserved r p).profileA = p.profileA := profileA_of_sansRecords (placeReserved_sansRecords r p)
@[simp] theorem placeReserved_profileB (r : Record) (p : Part) :
    (placeReserved r p).profileB = p.profileB := profileB_of_sansRecords (placeReserved_sansRecords r p)
@[simp] theorem placeReserved_current (r : Record) (p : Part) :
    (placeReserved r p).current = p.current := current_of_sansRecords (placeReserved_sansRecords r p)
@[simp] theorem placeReserved_letter (r : Record) (p : Part) :
    (placeReserved r p).letter = p.letter := letter_of_sansRecords (placeReserved_sansRecords r p)
@[simp] theorem placeReserved_zones (r : Record) (p : Part) :
    (placeReserved r p).zones = p.zones := zones_of_sansRecords (placeReserved_sansRecords r p)
@[simp] theorem placeReserved_noticeMask (r : Record) (p : Part) :
    (placeReserved r p).noticeMask = p.noticeMask := noticeMask_of_sansRecords (placeReserved_sansRecords r p)
@[simp] theorem placeReserved_bayMode (r : Record) (p : Part) :
    (placeReserved r p).bayMode = p.bayMode := bayMode_of_sansRecords (placeReserved_sansRecords r p)
@[simp] theorem placeReserved_source (r : Record) (p : Part) :
    (placeReserved r p).source = p.source := source_of_sansRecords (placeReserved_sansRecords r p)
@[simp] theorem placeReserved_profileHigh (r : Record) (p : Part) :
    (placeReserved r p).profileHigh = p.profileHigh := profileHigh_of_sansRecords (placeReserved_sansRecords r p)
@[simp] theorem placeReserved_clock (r : Record) (p : Part) :
    (placeReserved r p).clock = p.clock := clock_of_sansRecords (placeReserved_sansRecords r p)
@[simp] theorem placeReserved_clockUnset (r : Record) (p : Part) :
    (placeReserved r p).clockUnset = p.clockUnset := clockUnset_of_sansRecords (placeReserved_sansRecords r p)
@[simp] theorem placeReserved_test (r : Record) (p : Part) :
    (placeReserved r p).test = p.test := test_of_sansRecords (placeReserved_sansRecords r p)
@[simp] theorem placeReserved_counts (r : Record) (p : Part) :
    (placeReserved r p).counts = p.counts := counts_of_sansRecords (placeReserved_sansRecords r p)
@[simp] theorem placeReserved_freeUses (r : Record) (p : Part) :
    (placeReserved r p).freeUses = p.freeUses := freeUses_of_sansRecords (placeReserved_sansRecords r p)
@[simp] theorem placeReserved_hose (r : Record) (p : Part) (i : HoseNo) :
    (placeReserved r p).hose i = p.hose i := by unfold Part.hose; rw [placeReserved_hoses]
@[simp] theorem placeReserved_tank (r : Record) (p : Part) (i : TankNo) :
    (placeReserved r p).tank i = p.tank i := by unfold Part.tank; rw [placeReserved_tanks]
@[simp] theorem placeReserved_pump (r : Record) (p : Part) (i : TankNo) :
    (placeReserved r p).pump i = p.pump i := by unfold Part.pump; rw [placeReserved_pumps]
@[simp] theorem placeReserved_zone (r : Record) (p : Part) (i : ZoneNo) :
    (placeReserved r p).zone i = p.zone i := by unfold Part.zone; rw [placeReserved_zones]
@[simp] theorem placeReserved_device (r : Record) (p : Part) (i : DevNo) :
    (placeReserved r p).device i = p.device i := by unfold Part.device; rw [placeReserved_devices]
@[simp] theorem placeReserved_machine (r : Record) (p : Part) (i : SlotNo) :
    (placeReserved r p).machine i = p.machine i := by unfold Part.machine; rw [placeReserved_machines]
@[simp] theorem placeReserved_product (r : Record) (p : Part) (i : ProductNo) :
    (placeReserved r p).product i = p.product i := by unfold Part.product; rw [placeReserved_products]
@[simp] theorem placeReserved_hoseZone (r : Record) (p : Part) (i : HoseNo) :
    (placeReserved r p).hoseZone i = p.hoseZone i := by simp only [Part.hoseZone, placeReserved_hose, placeReserved_tank]
@[simp] theorem placeReserved_tankHoses (r : Record) (p : Part) (i : TankNo) :
    (placeReserved r p).tankHoses i = p.tankHoses i := by simp only [Part.tankHoses, placeReserved_hose]
@[simp] theorem placeReserved_zoneTanks (r : Record) (p : Part) (i : ZoneNo) :
    (placeReserved r p).zoneTanks i = p.zoneTanks i := by simp only [Part.zoneTanks, placeReserved_tank]
@[simp] theorem placeReserved_zoneHoses (r : Record) (p : Part) (i : ZoneNo) :
    (placeReserved r p).zoneHoses i = p.zoneHoses i := by simp only [Part.zoneHoses, placeReserved_hoseZone]
@[simp] theorem placeReserved_boundNode (r : Record) (p : Part) (x : Binding) :
    (placeReserved r p).boundNode x = p.boundNode x := by unfold Part.boundNode; rw [placeReserved_devices]
@[simp] theorem placeReserved_roleGood (r : Record) (p : Part) (x : Binding) :
    (placeReserved r p).roleGood x = p.roleGood x := by simp only [Part.roleGood, placeReserved_boundNode, placeReserved_device]

@[simp] theorem headChanged_records (p : Part) : (headChanged p).records = p.records := by
  unfold headChanged; split <;> rfl
@[simp] theorem headChanged_reserved (p : Part) : (headChanged p).reserved = p.reserved := by
  unfold headChanged; split <;> rfl
@[simp] theorem headChanged_nextSerial (p : Part) : (headChanged p).nextSerial = p.nextSerial := by
  unfold headChanged; split <;> rfl
@[simp] theorem headChanged_fp (p : Part) : (headChanged p).fp = p.fp := by unfold headChanged; split <;> rfl

/-- A record goes to the tail under the next serial number (R157). -/
@[simp] theorem placeRecord_records (r : Record) (p : Part) :
    (placeRecord r p).records = p.records ++ [{ r with serial := p.nextSerial }] := by
  unfold placeRecord; dsimp only; split <;> split <;> simp
@[simp] theorem placeRecord_reserved (r : Record) (p : Part) : (placeRecord r p).reserved = p.reserved := by
  unfold placeRecord; dsimp only; split <;> split <;> simp
@[simp] theorem placeRecord_fp (r : Record) (p : Part) : (placeRecord r p).fp = p.fp := by
  unfold placeRecord; dsimp only; split <;> split <;> simp
@[simp] theorem placeReserved_records (r : Record) (p : Part) :
    (placeReserved r p).records = p.records ++ [{ r with serial := p.nextSerial }] := placeRecord_records ..
@[simp] theorem placeReserved_reserved (r : Record) (p : Part) : (placeReserved r p).reserved = p.reserved - 1 :=
  placeRecord_reserved ..
@[simp] theorem placeReserved_fp (r : Record) (p : Part) : (placeReserved r p).fp = p.fp := placeRecord_fp ..

/-! ## Hoses, pumps and tanks too -/

@[simp] theorem claimPump_devices (h : HoseNo) (t : TankNo) (p : Part) :
    (claimPump h t p).devices = p.devices := devices_of_sansFills (claimPump_sansFills h t p)
@[simp] theorem claimPump_products (h : HoseNo) (t : TankNo) (p : Part) :
    (claimPump h t p).products = p.products := products_of_sansFills (claimPump_sansFills h t p)
@[simp] theorem claimPump_machines (h : HoseNo) (t : TankNo) (p : Part) :
    (claimPump h t p).machines = p.machines := machines_of_sansFills (claimPump_sansFills h t p)
@[simp] theorem claimPump_profileA (h : HoseNo) (t : TankNo) (p : Part) :
    (claimPump h t p).profileA = p.profileA := profileA_of_sansFills (claimPump_sansFills h t p)
@[simp] theorem claimPump_profileB (h : HoseNo) (t : TankNo) (p : Part) :
    (claimPump h t p).profileB = p.profileB := profileB_of_sansFills (claimPump_sansFills h t p)
@[simp] theorem claimPump_current (h : HoseNo) (t : TankNo) (p : Part) :
    (claimPump h t p).current = p.current := current_of_sansFills (claimPump_sansFills h t p)
@[simp] theorem claimPump_letter (h : HoseNo) (t : TankNo) (p : Part) :
    (claimPump h t p).letter = p.letter := letter_of_sansFills (claimPump_sansFills h t p)
@[simp] theorem claimPump_zones (h : HoseNo) (t : TankNo) (p : Part) :
    (claimPump h t p).zones = p.zones := zones_of_sansFills (claimPump_sansFills h t p)
@[simp] theorem claimPump_noticeMask (h : HoseNo) (t : TankNo) (p : Part) :
    (claimPump h t p).noticeMask = p.noticeMask := noticeMask_of_sansFills (claimPump_sansFills h t p)
@[simp] theorem claimPump_bayMode (h : HoseNo) (t : TankNo) (p : Part) :
    (claimPump h t p).bayMode = p.bayMode := bayMode_of_sansFills (claimPump_sansFills h t p)
@[simp] theorem claimPump_clock (h : HoseNo) (t : TankNo) (p : Part) :
    (claimPump h t p).clock = p.clock := clock_of_sansFills (claimPump_sansFills h t p)
@[simp] theorem claimPump_clockUnset (h : HoseNo) (t : TankNo) (p : Part) :
    (claimPump h t p).clockUnset = p.clockUnset := clockUnset_of_sansFills (claimPump_sansFills h t p)
@[simp] theorem claimPump_test (h : HoseNo) (t : TankNo) (p : Part) :
    (claimPump h t p).test = p.test := test_of_sansFills (claimPump_sansFills h t p)
@[simp] theorem claimPump_counts (h : HoseNo) (t : TankNo) (p : Part) :
    (claimPump h t p).counts = p.counts := counts_of_sansFills (claimPump_sansFills h t p)
@[simp] theorem claimPump_zone (h : HoseNo) (t : TankNo) (p : Part) (i : ZoneNo) :
    (claimPump h t p).zone i = p.zone i := by unfold Part.zone; rw [claimPump_zones]
@[simp] theorem claimPump_device (h : HoseNo) (t : TankNo) (p : Part) (i : DevNo) :
    (claimPump h t p).device i = p.device i := by unfold Part.device; rw [claimPump_devices]
@[simp] theorem claimPump_machine (h : HoseNo) (t : TankNo) (p : Part) (i : SlotNo) :
    (claimPump h t p).machine i = p.machine i := by unfold Part.machine; rw [claimPump_machines]
@[simp] theorem claimPump_product (h : HoseNo) (t : TankNo) (p : Part) (i : ProductNo) :
    (claimPump h t p).product i = p.product i := by unfold Part.product; rw [claimPump_products]
@[simp] theorem claimPump_boundNode (h : HoseNo) (t : TankNo) (p : Part) (x : Binding) :
    (claimPump h t p).boundNode x = p.boundNode x := by unfold Part.boundNode; rw [claimPump_devices]
@[simp] theorem claimPump_roleGood (h : HoseNo) (t : TankNo) (p : Part) (x : Binding) :
    (claimPump h t p).roleGood x = p.roleGood x := by simp only [Part.roleGood, claimPump_boundNode, claimPump_device]

@[simp] theorem releasePump_devices (t : TankNo) (p : Part) :
    (releasePump t p).devices = p.devices := devices_of_sansFills (releasePump_sansFills t p)
@[simp] theorem releasePump_products (t : TankNo) (p : Part) :
    (releasePump t p).products = p.products := products_of_sansFills (releasePump_sansFills t p)
@[simp] theorem releasePump_machines (t : TankNo) (p : Part) :
    (releasePump t p).machines = p.machines := machines_of_sansFills (releasePump_sansFills t p)
@[simp] theorem releasePump_profileA (t : TankNo) (p : Part) :
    (releasePump t p).profileA = p.profileA := profileA_of_sansFills (releasePump_sansFills t p)
@[simp] theorem releasePump_profileB (t : TankNo) (p : Part) :
    (releasePump t p).profileB = p.profileB := profileB_of_sansFills (releasePump_sansFills t p)
@[simp] theorem releasePump_current (t : TankNo) (p : Part) :
    (releasePump t p).current = p.current := current_of_sansFills (releasePump_sansFills t p)
@[simp] theorem releasePump_letter (t : TankNo) (p : Part) :
    (releasePump t p).letter = p.letter := letter_of_sansFills (releasePump_sansFills t p)
@[simp] theorem releasePump_zones (t : TankNo) (p : Part) :
    (releasePump t p).zones = p.zones := zones_of_sansFills (releasePump_sansFills t p)
@[simp] theorem releasePump_noticeMask (t : TankNo) (p : Part) :
    (releasePump t p).noticeMask = p.noticeMask := noticeMask_of_sansFills (releasePump_sansFills t p)
@[simp] theorem releasePump_bayMode (t : TankNo) (p : Part) :
    (releasePump t p).bayMode = p.bayMode := bayMode_of_sansFills (releasePump_sansFills t p)
@[simp] theorem releasePump_clock (t : TankNo) (p : Part) :
    (releasePump t p).clock = p.clock := clock_of_sansFills (releasePump_sansFills t p)
@[simp] theorem releasePump_clockUnset (t : TankNo) (p : Part) :
    (releasePump t p).clockUnset = p.clockUnset := clockUnset_of_sansFills (releasePump_sansFills t p)
@[simp] theorem releasePump_test (t : TankNo) (p : Part) :
    (releasePump t p).test = p.test := test_of_sansFills (releasePump_sansFills t p)
@[simp] theorem releasePump_counts (t : TankNo) (p : Part) :
    (releasePump t p).counts = p.counts := counts_of_sansFills (releasePump_sansFills t p)
@[simp] theorem releasePump_zone (t : TankNo) (p : Part) (i : ZoneNo) :
    (releasePump t p).zone i = p.zone i := by unfold Part.zone; rw [releasePump_zones]
@[simp] theorem releasePump_device (t : TankNo) (p : Part) (i : DevNo) :
    (releasePump t p).device i = p.device i := by unfold Part.device; rw [releasePump_devices]
@[simp] theorem releasePump_machine (t : TankNo) (p : Part) (i : SlotNo) :
    (releasePump t p).machine i = p.machine i := by unfold Part.machine; rw [releasePump_machines]
@[simp] theorem releasePump_product (t : TankNo) (p : Part) (i : ProductNo) :
    (releasePump t p).product i = p.product i := by unfold Part.product; rw [releasePump_products]
@[simp] theorem releasePump_boundNode (t : TankNo) (p : Part) (x : Binding) :
    (releasePump t p).boundNode x = p.boundNode x := by unfold Part.boundNode; rw [releasePump_devices]
@[simp] theorem releasePump_roleGood (t : TankNo) (p : Part) (x : Binding) :
    (releasePump t p).roleGood x = p.roleGood x := by simp only [Part.roleGood, releasePump_boundNode, releasePump_device]

@[simp] theorem openOnTank_devices (t : TankNo) (p : Part) :
    (openOnTank t p).devices = p.devices := devices_of_sansFills (openOnTank_sansFills t p)
@[simp] theorem openOnTank_products (t : TankNo) (p : Part) :
    (openOnTank t p).products = p.products := products_of_sansFills (openOnTank_sansFills t p)
@[simp] theorem openOnTank_machines (t : TankNo) (p : Part) :
    (openOnTank t p).machines = p.machines := machines_of_sansFills (openOnTank_sansFills t p)
@[simp] theorem openOnTank_profileA (t : TankNo) (p : Part) :
    (openOnTank t p).profileA = p.profileA := profileA_of_sansFills (openOnTank_sansFills t p)
@[simp] theorem openOnTank_profileB (t : TankNo) (p : Part) :
    (openOnTank t p).profileB = p.profileB := profileB_of_sansFills (openOnTank_sansFills t p)
@[simp] theorem openOnTank_current (t : TankNo) (p : Part) :
    (openOnTank t p).current = p.current := current_of_sansFills (openOnTank_sansFills t p)
@[simp] theorem openOnTank_letter (t : TankNo) (p : Part) :
    (openOnTank t p).letter = p.letter := letter_of_sansFills (openOnTank_sansFills t p)
@[simp] theorem openOnTank_zones (t : TankNo) (p : Part) :
    (openOnTank t p).zones = p.zones := zones_of_sansFills (openOnTank_sansFills t p)
@[simp] theorem openOnTank_noticeMask (t : TankNo) (p : Part) :
    (openOnTank t p).noticeMask = p.noticeMask := noticeMask_of_sansFills (openOnTank_sansFills t p)
@[simp] theorem openOnTank_bayMode (t : TankNo) (p : Part) :
    (openOnTank t p).bayMode = p.bayMode := bayMode_of_sansFills (openOnTank_sansFills t p)
@[simp] theorem openOnTank_clock (t : TankNo) (p : Part) :
    (openOnTank t p).clock = p.clock := clock_of_sansFills (openOnTank_sansFills t p)
@[simp] theorem openOnTank_clockUnset (t : TankNo) (p : Part) :
    (openOnTank t p).clockUnset = p.clockUnset := clockUnset_of_sansFills (openOnTank_sansFills t p)
@[simp] theorem openOnTank_test (t : TankNo) (p : Part) :
    (openOnTank t p).test = p.test := test_of_sansFills (openOnTank_sansFills t p)
@[simp] theorem openOnTank_counts (t : TankNo) (p : Part) :
    (openOnTank t p).counts = p.counts := counts_of_sansFills (openOnTank_sansFills t p)
@[simp] theorem openOnTank_zone (t : TankNo) (p : Part) (i : ZoneNo) :
    (openOnTank t p).zone i = p.zone i := by unfold Part.zone; rw [openOnTank_zones]
@[simp] theorem openOnTank_device (t : TankNo) (p : Part) (i : DevNo) :
    (openOnTank t p).device i = p.device i := by unfold Part.device; rw [openOnTank_devices]
@[simp] theorem openOnTank_machine (t : TankNo) (p : Part) (i : SlotNo) :
    (openOnTank t p).machine i = p.machine i := by unfold Part.machine; rw [openOnTank_machines]
@[simp] theorem openOnTank_product (t : TankNo) (p : Part) (i : ProductNo) :
    (openOnTank t p).product i = p.product i := by unfold Part.product; rw [openOnTank_products]
@[simp] theorem openOnTank_boundNode (t : TankNo) (p : Part) (x : Binding) :
    (openOnTank t p).boundNode x = p.boundNode x := by unfold Part.boundNode; rw [openOnTank_devices]
@[simp] theorem openOnTank_roleGood (t : TankNo) (p : Part) (x : Binding) :
    (openOnTank t p).roleGood x = p.roleGood x := by simp only [Part.roleGood, openOnTank_boundNode, openOnTank_device]

@[simp] theorem closeOnTank_devices (t : TankNo) (p : Part) :
    (closeOnTank t p).devices = p.devices := devices_of_sansFills (closeOnTank_sansFills t p)
@[simp] theorem closeOnTank_products (t : TankNo) (p : Part) :
    (closeOnTank t p).products = p.products := products_of_sansFills (closeOnTank_sansFills t p)
@[simp] theorem closeOnTank_machines (t : TankNo) (p : Part) :
    (closeOnTank t p).machines = p.machines := machines_of_sansFills (closeOnTank_sansFills t p)
@[simp] theorem closeOnTank_profileA (t : TankNo) (p : Part) :
    (closeOnTank t p).profileA = p.profileA := profileA_of_sansFills (closeOnTank_sansFills t p)
@[simp] theorem closeOnTank_profileB (t : TankNo) (p : Part) :
    (closeOnTank t p).profileB = p.profileB := profileB_of_sansFills (closeOnTank_sansFills t p)
@[simp] theorem closeOnTank_current (t : TankNo) (p : Part) :
    (closeOnTank t p).current = p.current := current_of_sansFills (closeOnTank_sansFills t p)
@[simp] theorem closeOnTank_letter (t : TankNo) (p : Part) :
    (closeOnTank t p).letter = p.letter := letter_of_sansFills (closeOnTank_sansFills t p)
@[simp] theorem closeOnTank_zones (t : TankNo) (p : Part) :
    (closeOnTank t p).zones = p.zones := zones_of_sansFills (closeOnTank_sansFills t p)
@[simp] theorem closeOnTank_noticeMask (t : TankNo) (p : Part) :
    (closeOnTank t p).noticeMask = p.noticeMask := noticeMask_of_sansFills (closeOnTank_sansFills t p)
@[simp] theorem closeOnTank_bayMode (t : TankNo) (p : Part) :
    (closeOnTank t p).bayMode = p.bayMode := bayMode_of_sansFills (closeOnTank_sansFills t p)
@[simp] theorem closeOnTank_clock (t : TankNo) (p : Part) :
    (closeOnTank t p).clock = p.clock := clock_of_sansFills (closeOnTank_sansFills t p)
@[simp] theorem closeOnTank_clockUnset (t : TankNo) (p : Part) :
    (closeOnTank t p).clockUnset = p.clockUnset := clockUnset_of_sansFills (closeOnTank_sansFills t p)
@[simp] theorem closeOnTank_test (t : TankNo) (p : Part) :
    (closeOnTank t p).test = p.test := test_of_sansFills (closeOnTank_sansFills t p)
@[simp] theorem closeOnTank_counts (t : TankNo) (p : Part) :
    (closeOnTank t p).counts = p.counts := counts_of_sansFills (closeOnTank_sansFills t p)
@[simp] theorem closeOnTank_zone (t : TankNo) (p : Part) (i : ZoneNo) :
    (closeOnTank t p).zone i = p.zone i := by unfold Part.zone; rw [closeOnTank_zones]
@[simp] theorem closeOnTank_device (t : TankNo) (p : Part) (i : DevNo) :
    (closeOnTank t p).device i = p.device i := by unfold Part.device; rw [closeOnTank_devices]
@[simp] theorem closeOnTank_machine (t : TankNo) (p : Part) (i : SlotNo) :
    (closeOnTank t p).machine i = p.machine i := by unfold Part.machine; rw [closeOnTank_machines]
@[simp] theorem closeOnTank_product (t : TankNo) (p : Part) (i : ProductNo) :
    (closeOnTank t p).product i = p.product i := by unfold Part.product; rw [closeOnTank_products]
@[simp] theorem closeOnTank_boundNode (t : TankNo) (p : Part) (x : Binding) :
    (closeOnTank t p).boundNode x = p.boundNode x := by unfold Part.boundNode; rw [closeOnTank_devices]
@[simp] theorem closeOnTank_roleGood (t : TankNo) (p : Part) (x : Binding) :
    (closeOnTank t p).roleGood x = p.roleGood x := by simp only [Part.roleGood, closeOnTank_boundNode, closeOnTank_device]

@[simp] theorem enterClosing_devices (h : HoseNo) (c : EndCause) (t : Transaction) (p : Part) :
    (enterClosing h c t p).devices = p.devices := devices_of_sansFills (enterClosing_sansFills h c t p)
@[simp] theorem enterClosing_products (h : HoseNo) (c : EndCause) (t : Transaction) (p : Part) :
    (enterClosing h c t p).products = p.products := products_of_sansFills (enterClosing_sansFills h c t p)
@[simp] theorem enterClosing_machines (h : HoseNo) (c : EndCause) (t : Transaction) (p : Part) :
    (enterClosing h c t p).machines = p.machines := machines_of_sansFills (enterClosing_sansFills h c t p)
@[simp] theorem enterClosing_profileA (h : HoseNo) (c : EndCause) (t : Transaction) (p : Part) :
    (enterClosing h c t p).profileA = p.profileA := profileA_of_sansFills (enterClosing_sansFills h c t p)
@[simp] theorem enterClosing_profileB (h : HoseNo) (c : EndCause) (t : Transaction) (p : Part) :
    (enterClosing h c t p).profileB = p.profileB := profileB_of_sansFills (enterClosing_sansFills h c t p)
@[simp] theorem enterClosing_current (h : HoseNo) (c : EndCause) (t : Transaction) (p : Part) :
    (enterClosing h c t p).current = p.current := current_of_sansFills (enterClosing_sansFills h c t p)
@[simp] theorem enterClosing_letter (h : HoseNo) (c : EndCause) (t : Transaction) (p : Part) :
    (enterClosing h c t p).letter = p.letter := letter_of_sansFills (enterClosing_sansFills h c t p)
@[simp] theorem enterClosing_zones (h : HoseNo) (c : EndCause) (t : Transaction) (p : Part) :
    (enterClosing h c t p).zones = p.zones := zones_of_sansFills (enterClosing_sansFills h c t p)
@[simp] theorem enterClosing_noticeMask (h : HoseNo) (c : EndCause) (t : Transaction) (p : Part) :
    (enterClosing h c t p).noticeMask = p.noticeMask := noticeMask_of_sansFills (enterClosing_sansFills h c t p)
@[simp] theorem enterClosing_bayMode (h : HoseNo) (c : EndCause) (t : Transaction) (p : Part) :
    (enterClosing h c t p).bayMode = p.bayMode := bayMode_of_sansFills (enterClosing_sansFills h c t p)
@[simp] theorem enterClosing_clock (h : HoseNo) (c : EndCause) (t : Transaction) (p : Part) :
    (enterClosing h c t p).clock = p.clock := clock_of_sansFills (enterClosing_sansFills h c t p)
@[simp] theorem enterClosing_clockUnset (h : HoseNo) (c : EndCause) (t : Transaction) (p : Part) :
    (enterClosing h c t p).clockUnset = p.clockUnset := clockUnset_of_sansFills (enterClosing_sansFills h c t p)
@[simp] theorem enterClosing_test (h : HoseNo) (c : EndCause) (t : Transaction) (p : Part) :
    (enterClosing h c t p).test = p.test := test_of_sansFills (enterClosing_sansFills h c t p)
@[simp] theorem enterClosing_counts (h : HoseNo) (c : EndCause) (t : Transaction) (p : Part) :
    (enterClosing h c t p).counts = p.counts := counts_of_sansFills (enterClosing_sansFills h c t p)
@[simp] theorem enterClosing_zone (h : HoseNo) (c : EndCause) (t : Transaction) (p : Part) (i : ZoneNo) :
    (enterClosing h c t p).zone i = p.zone i := by unfold Part.zone; rw [enterClosing_zones]
@[simp] theorem enterClosing_device (h : HoseNo) (c : EndCause) (t : Transaction) (p : Part) (i : DevNo) :
    (enterClosing h c t p).device i = p.device i := by unfold Part.device; rw [enterClosing_devices]
@[simp] theorem enterClosing_machine (h : HoseNo) (c : EndCause) (t : Transaction) (p : Part) (i : SlotNo) :
    (enterClosing h c t p).machine i = p.machine i := by unfold Part.machine; rw [enterClosing_machines]
@[simp] theorem enterClosing_product (h : HoseNo) (c : EndCause) (t : Transaction) (p : Part) (i : ProductNo) :
    (enterClosing h c t p).product i = p.product i := by unfold Part.product; rw [enterClosing_products]
@[simp] theorem enterClosing_boundNode (h : HoseNo) (c : EndCause) (t : Transaction) (p : Part) (x : Binding) :
    (enterClosing h c t p).boundNode x = p.boundNode x := by unfold Part.boundNode; rw [enterClosing_devices]
@[simp] theorem enterClosing_roleGood (h : HoseNo) (c : EndCause) (t : Transaction) (p : Part) (x : Binding) :
    (enterClosing h c t p).roleGood x = p.roleGood x := by simp only [Part.roleGood, enterClosing_boundNode, enterClosing_device]

@[simp] theorem enterOut_devices (h : HoseNo) (p : Part) :
    (enterOut h p).devices = p.devices := devices_of_sansFills (enterOut_sansFills h p)
@[simp] theorem enterOut_products (h : HoseNo) (p : Part) :
    (enterOut h p).products = p.products := products_of_sansFills (enterOut_sansFills h p)
@[simp] theorem enterOut_machines (h : HoseNo) (p : Part) :
    (enterOut h p).machines = p.machines := machines_of_sansFills (enterOut_sansFills h p)
@[simp] theorem enterOut_profileA (h : HoseNo) (p : Part) :
    (enterOut h p).profileA = p.profileA := profileA_of_sansFills (enterOut_sansFills h p)
@[simp] theorem enterOut_profileB (h : HoseNo) (p : Part) :
    (enterOut h p).profileB = p.profileB := profileB_of_sansFills (enterOut_sansFills h p)
@[simp] theorem enterOut_current (h : HoseNo) (p : Part) :
    (enterOut h p).current = p.current := current_of_sansFills (enterOut_sansFills h p)
@[simp] theorem enterOut_letter (h : HoseNo) (p : Part) :
    (enterOut h p).letter = p.letter := letter_of_sansFills (enterOut_sansFills h p)
@[simp] theorem enterOut_zones (h : HoseNo) (p : Part) :
    (enterOut h p).zones = p.zones := zones_of_sansFills (enterOut_sansFills h p)
@[simp] theorem enterOut_noticeMask (h : HoseNo) (p : Part) :
    (enterOut h p).noticeMask = p.noticeMask := noticeMask_of_sansFills (enterOut_sansFills h p)
@[simp] theorem enterOut_bayMode (h : HoseNo) (p : Part) :
    (enterOut h p).bayMode = p.bayMode := bayMode_of_sansFills (enterOut_sansFills h p)
@[simp] theorem enterOut_clock (h : HoseNo) (p : Part) :
    (enterOut h p).clock = p.clock := clock_of_sansFills (enterOut_sansFills h p)
@[simp] theorem enterOut_clockUnset (h : HoseNo) (p : Part) :
    (enterOut h p).clockUnset = p.clockUnset := clockUnset_of_sansFills (enterOut_sansFills h p)
@[simp] theorem enterOut_test (h : HoseNo) (p : Part) :
    (enterOut h p).test = p.test := test_of_sansFills (enterOut_sansFills h p)
@[simp] theorem enterOut_counts (h : HoseNo) (p : Part) :
    (enterOut h p).counts = p.counts := counts_of_sansFills (enterOut_sansFills h p)
@[simp] theorem enterOut_zone (h : HoseNo) (p : Part) (i : ZoneNo) :
    (enterOut h p).zone i = p.zone i := by unfold Part.zone; rw [enterOut_zones]
@[simp] theorem enterOut_device (h : HoseNo) (p : Part) (i : DevNo) :
    (enterOut h p).device i = p.device i := by unfold Part.device; rw [enterOut_devices]
@[simp] theorem enterOut_machine (h : HoseNo) (p : Part) (i : SlotNo) :
    (enterOut h p).machine i = p.machine i := by unfold Part.machine; rw [enterOut_machines]
@[simp] theorem enterOut_product (h : HoseNo) (p : Part) (i : ProductNo) :
    (enterOut h p).product i = p.product i := by unfold Part.product; rw [enterOut_products]
@[simp] theorem enterOut_boundNode (h : HoseNo) (p : Part) (x : Binding) :
    (enterOut h p).boundNode x = p.boundNode x := by unfold Part.boundNode; rw [enterOut_devices]
@[simp] theorem enterOut_roleGood (h : HoseNo) (p : Part) (x : Binding) :
    (enterOut h p).roleGood x = p.roleGood x := by simp only [Part.roleGood, enterOut_boundNode, enterOut_device]

@[simp] theorem endRun_devices (h : HoseNo) (c : EndCause) (s : Session) (r : ProvingRun) (p : Part) :
    (endRun h c s r p).devices = p.devices := devices_of_sansFills (endRun_sansFills h c s r p)
@[simp] theorem endRun_products (h : HoseNo) (c : EndCause) (s : Session) (r : ProvingRun) (p : Part) :
    (endRun h c s r p).products = p.products := products_of_sansFills (endRun_sansFills h c s r p)
@[simp] theorem endRun_machines (h : HoseNo) (c : EndCause) (s : Session) (r : ProvingRun) (p : Part) :
    (endRun h c s r p).machines = p.machines := machines_of_sansFills (endRun_sansFills h c s r p)
@[simp] theorem endRun_profileA (h : HoseNo) (c : EndCause) (s : Session) (r : ProvingRun) (p : Part) :
    (endRun h c s r p).profileA = p.profileA := profileA_of_sansFills (endRun_sansFills h c s r p)
@[simp] theorem endRun_profileB (h : HoseNo) (c : EndCause) (s : Session) (r : ProvingRun) (p : Part) :
    (endRun h c s r p).profileB = p.profileB := profileB_of_sansFills (endRun_sansFills h c s r p)
@[simp] theorem endRun_current (h : HoseNo) (c : EndCause) (s : Session) (r : ProvingRun) (p : Part) :
    (endRun h c s r p).current = p.current := current_of_sansFills (endRun_sansFills h c s r p)
@[simp] theorem endRun_letter (h : HoseNo) (c : EndCause) (s : Session) (r : ProvingRun) (p : Part) :
    (endRun h c s r p).letter = p.letter := letter_of_sansFills (endRun_sansFills h c s r p)
@[simp] theorem endRun_zones (h : HoseNo) (c : EndCause) (s : Session) (r : ProvingRun) (p : Part) :
    (endRun h c s r p).zones = p.zones := zones_of_sansFills (endRun_sansFills h c s r p)
@[simp] theorem endRun_noticeMask (h : HoseNo) (c : EndCause) (s : Session) (r : ProvingRun) (p : Part) :
    (endRun h c s r p).noticeMask = p.noticeMask := noticeMask_of_sansFills (endRun_sansFills h c s r p)
@[simp] theorem endRun_bayMode (h : HoseNo) (c : EndCause) (s : Session) (r : ProvingRun) (p : Part) :
    (endRun h c s r p).bayMode = p.bayMode := bayMode_of_sansFills (endRun_sansFills h c s r p)
@[simp] theorem endRun_clock (h : HoseNo) (c : EndCause) (s : Session) (r : ProvingRun) (p : Part) :
    (endRun h c s r p).clock = p.clock := clock_of_sansFills (endRun_sansFills h c s r p)
@[simp] theorem endRun_clockUnset (h : HoseNo) (c : EndCause) (s : Session) (r : ProvingRun) (p : Part) :
    (endRun h c s r p).clockUnset = p.clockUnset := clockUnset_of_sansFills (endRun_sansFills h c s r p)
@[simp] theorem endRun_test (h : HoseNo) (c : EndCause) (s : Session) (r : ProvingRun) (p : Part) :
    (endRun h c s r p).test = p.test := test_of_sansFills (endRun_sansFills h c s r p)
@[simp] theorem endRun_counts (h : HoseNo) (c : EndCause) (s : Session) (r : ProvingRun) (p : Part) :
    (endRun h c s r p).counts = p.counts := counts_of_sansFills (endRun_sansFills h c s r p)
@[simp] theorem endRun_zone (h : HoseNo) (c : EndCause) (s : Session) (r : ProvingRun) (p : Part) (i : ZoneNo) :
    (endRun h c s r p).zone i = p.zone i := by unfold Part.zone; rw [endRun_zones]
@[simp] theorem endRun_device (h : HoseNo) (c : EndCause) (s : Session) (r : ProvingRun) (p : Part) (i : DevNo) :
    (endRun h c s r p).device i = p.device i := by unfold Part.device; rw [endRun_devices]
@[simp] theorem endRun_machine (h : HoseNo) (c : EndCause) (s : Session) (r : ProvingRun) (p : Part) (i : SlotNo) :
    (endRun h c s r p).machine i = p.machine i := by unfold Part.machine; rw [endRun_machines]
@[simp] theorem endRun_product (h : HoseNo) (c : EndCause) (s : Session) (r : ProvingRun) (p : Part) (i : ProductNo) :
    (endRun h c s r p).product i = p.product i := by unfold Part.product; rw [endRun_products]
@[simp] theorem endRun_boundNode (h : HoseNo) (c : EndCause) (s : Session) (r : ProvingRun) (p : Part) (x : Binding) :
    (endRun h c s r p).boundNode x = p.boundNode x := by unfold Part.boundNode; rw [endRun_devices]
@[simp] theorem endRun_roleGood (h : HoseNo) (c : EndCause) (s : Session) (r : ProvingRun) (p : Part) (x : Binding) :
    (endRun h c s r p).roleGood x = p.roleGood x := by simp only [Part.roleGood, endRun_boundNode, endRun_device]

@[simp] theorem endRequest_devices (h : HoseNo) (c : EndCause) (p : Part) :
    (endRequest h c p).devices = p.devices := devices_of_sansFills (endRequest_sansFills h c p)
@[simp] theorem endRequest_products (h : HoseNo) (c : EndCause) (p : Part) :
    (endRequest h c p).products = p.products := products_of_sansFills (endRequest_sansFills h c p)
@[simp] theorem endRequest_machines (h : HoseNo) (c : EndCause) (p : Part) :
    (endRequest h c p).machines = p.machines := machines_of_sansFills (endRequest_sansFills h c p)
@[simp] theorem endRequest_profileA (h : HoseNo) (c : EndCause) (p : Part) :
    (endRequest h c p).profileA = p.profileA := profileA_of_sansFills (endRequest_sansFills h c p)
@[simp] theorem endRequest_profileB (h : HoseNo) (c : EndCause) (p : Part) :
    (endRequest h c p).profileB = p.profileB := profileB_of_sansFills (endRequest_sansFills h c p)
@[simp] theorem endRequest_current (h : HoseNo) (c : EndCause) (p : Part) :
    (endRequest h c p).current = p.current := current_of_sansFills (endRequest_sansFills h c p)
@[simp] theorem endRequest_letter (h : HoseNo) (c : EndCause) (p : Part) :
    (endRequest h c p).letter = p.letter := letter_of_sansFills (endRequest_sansFills h c p)
@[simp] theorem endRequest_zones (h : HoseNo) (c : EndCause) (p : Part) :
    (endRequest h c p).zones = p.zones := zones_of_sansFills (endRequest_sansFills h c p)
@[simp] theorem endRequest_noticeMask (h : HoseNo) (c : EndCause) (p : Part) :
    (endRequest h c p).noticeMask = p.noticeMask := noticeMask_of_sansFills (endRequest_sansFills h c p)
@[simp] theorem endRequest_bayMode (h : HoseNo) (c : EndCause) (p : Part) :
    (endRequest h c p).bayMode = p.bayMode := bayMode_of_sansFills (endRequest_sansFills h c p)
@[simp] theorem endRequest_clock (h : HoseNo) (c : EndCause) (p : Part) :
    (endRequest h c p).clock = p.clock := clock_of_sansFills (endRequest_sansFills h c p)
@[simp] theorem endRequest_clockUnset (h : HoseNo) (c : EndCause) (p : Part) :
    (endRequest h c p).clockUnset = p.clockUnset := clockUnset_of_sansFills (endRequest_sansFills h c p)
@[simp] theorem endRequest_test (h : HoseNo) (c : EndCause) (p : Part) :
    (endRequest h c p).test = p.test := test_of_sansFills (endRequest_sansFills h c p)
@[simp] theorem endRequest_counts (h : HoseNo) (c : EndCause) (p : Part) :
    (endRequest h c p).counts = p.counts := counts_of_sansFills (endRequest_sansFills h c p)
@[simp] theorem endRequest_zone (h : HoseNo) (c : EndCause) (p : Part) (i : ZoneNo) :
    (endRequest h c p).zone i = p.zone i := by unfold Part.zone; rw [endRequest_zones]
@[simp] theorem endRequest_device (h : HoseNo) (c : EndCause) (p : Part) (i : DevNo) :
    (endRequest h c p).device i = p.device i := by unfold Part.device; rw [endRequest_devices]
@[simp] theorem endRequest_machine (h : HoseNo) (c : EndCause) (p : Part) (i : SlotNo) :
    (endRequest h c p).machine i = p.machine i := by unfold Part.machine; rw [endRequest_machines]
@[simp] theorem endRequest_product (h : HoseNo) (c : EndCause) (p : Part) (i : ProductNo) :
    (endRequest h c p).product i = p.product i := by unfold Part.product; rw [endRequest_products]
@[simp] theorem endRequest_boundNode (h : HoseNo) (c : EndCause) (p : Part) (x : Binding) :
    (endRequest h c p).boundNode x = p.boundNode x := by unfold Part.boundNode; rw [endRequest_devices]
@[simp] theorem endRequest_roleGood (h : HoseNo) (c : EndCause) (p : Part) (x : Binding) :
    (endRequest h c p).roleGood x = p.roleGood x := by simp only [Part.roleGood, endRequest_boundNode, endRequest_device]

@[simp] theorem lowStockTest_devices (t : TankNo) (p : Part) :
    (lowStockTest t p).devices = p.devices := devices_of_sansFills (lowStockTest_sansFills t p)
@[simp] theorem lowStockTest_products (t : TankNo) (p : Part) :
    (lowStockTest t p).products = p.products := products_of_sansFills (lowStockTest_sansFills t p)
@[simp] theorem lowStockTest_machines (t : TankNo) (p : Part) :
    (lowStockTest t p).machines = p.machines := machines_of_sansFills (lowStockTest_sansFills t p)
@[simp] theorem lowStockTest_profileA (t : TankNo) (p : Part) :
    (lowStockTest t p).profileA = p.profileA := profileA_of_sansFills (lowStockTest_sansFills t p)
@[simp] theorem lowStockTest_profileB (t : TankNo) (p : Part) :
    (lowStockTest t p).profileB = p.profileB := profileB_of_sansFills (lowStockTest_sansFills t p)
@[simp] theorem lowStockTest_current (t : TankNo) (p : Part) :
    (lowStockTest t p).current = p.current := current_of_sansFills (lowStockTest_sansFills t p)
@[simp] theorem lowStockTest_letter (t : TankNo) (p : Part) :
    (lowStockTest t p).letter = p.letter := letter_of_sansFills (lowStockTest_sansFills t p)
@[simp] theorem lowStockTest_zones (t : TankNo) (p : Part) :
    (lowStockTest t p).zones = p.zones := zones_of_sansFills (lowStockTest_sansFills t p)
@[simp] theorem lowStockTest_noticeMask (t : TankNo) (p : Part) :
    (lowStockTest t p).noticeMask = p.noticeMask := noticeMask_of_sansFills (lowStockTest_sansFills t p)
@[simp] theorem lowStockTest_bayMode (t : TankNo) (p : Part) :
    (lowStockTest t p).bayMode = p.bayMode := bayMode_of_sansFills (lowStockTest_sansFills t p)
@[simp] theorem lowStockTest_clock (t : TankNo) (p : Part) :
    (lowStockTest t p).clock = p.clock := clock_of_sansFills (lowStockTest_sansFills t p)
@[simp] theorem lowStockTest_clockUnset (t : TankNo) (p : Part) :
    (lowStockTest t p).clockUnset = p.clockUnset := clockUnset_of_sansFills (lowStockTest_sansFills t p)
@[simp] theorem lowStockTest_test (t : TankNo) (p : Part) :
    (lowStockTest t p).test = p.test := test_of_sansFills (lowStockTest_sansFills t p)
@[simp] theorem lowStockTest_counts (t : TankNo) (p : Part) :
    (lowStockTest t p).counts = p.counts := counts_of_sansFills (lowStockTest_sansFills t p)
@[simp] theorem lowStockTest_zone (t : TankNo) (p : Part) (i : ZoneNo) :
    (lowStockTest t p).zone i = p.zone i := by unfold Part.zone; rw [lowStockTest_zones]
@[simp] theorem lowStockTest_device (t : TankNo) (p : Part) (i : DevNo) :
    (lowStockTest t p).device i = p.device i := by unfold Part.device; rw [lowStockTest_devices]
@[simp] theorem lowStockTest_machine (t : TankNo) (p : Part) (i : SlotNo) :
    (lowStockTest t p).machine i = p.machine i := by unfold Part.machine; rw [lowStockTest_machines]
@[simp] theorem lowStockTest_product (t : TankNo) (p : Part) (i : ProductNo) :
    (lowStockTest t p).product i = p.product i := by unfold Part.product; rw [lowStockTest_products]
@[simp] theorem lowStockTest_boundNode (t : TankNo) (p : Part) (x : Binding) :
    (lowStockTest t p).boundNode x = p.boundNode x := by unfold Part.boundNode; rw [lowStockTest_devices]
@[simp] theorem lowStockTest_roleGood (t : TankNo) (p : Part) (x : Binding) :
    (lowStockTest t p).roleGood x = p.roleGood x := by simp only [Part.roleGood, lowStockTest_boundNode, lowStockTest_device]

@[simp] theorem handOff_devices (t : TankNo) (a : Account) (ml : Nat) (p : Part) :
    (handOff t a ml p).devices = p.devices := devices_of_sansFills (handOff_sansFills t a ml p)
@[simp] theorem handOff_products (t : TankNo) (a : Account) (ml : Nat) (p : Part) :
    (handOff t a ml p).products = p.products := products_of_sansFills (handOff_sansFills t a ml p)
@[simp] theorem handOff_machines (t : TankNo) (a : Account) (ml : Nat) (p : Part) :
    (handOff t a ml p).machines = p.machines := machines_of_sansFills (handOff_sansFills t a ml p)
@[simp] theorem handOff_profileA (t : TankNo) (a : Account) (ml : Nat) (p : Part) :
    (handOff t a ml p).profileA = p.profileA := profileA_of_sansFills (handOff_sansFills t a ml p)
@[simp] theorem handOff_profileB (t : TankNo) (a : Account) (ml : Nat) (p : Part) :
    (handOff t a ml p).profileB = p.profileB := profileB_of_sansFills (handOff_sansFills t a ml p)
@[simp] theorem handOff_current (t : TankNo) (a : Account) (ml : Nat) (p : Part) :
    (handOff t a ml p).current = p.current := current_of_sansFills (handOff_sansFills t a ml p)
@[simp] theorem handOff_letter (t : TankNo) (a : Account) (ml : Nat) (p : Part) :
    (handOff t a ml p).letter = p.letter := letter_of_sansFills (handOff_sansFills t a ml p)
@[simp] theorem handOff_zones (t : TankNo) (a : Account) (ml : Nat) (p : Part) :
    (handOff t a ml p).zones = p.zones := zones_of_sansFills (handOff_sansFills t a ml p)
@[simp] theorem handOff_noticeMask (t : TankNo) (a : Account) (ml : Nat) (p : Part) :
    (handOff t a ml p).noticeMask = p.noticeMask := noticeMask_of_sansFills (handOff_sansFills t a ml p)
@[simp] theorem handOff_bayMode (t : TankNo) (a : Account) (ml : Nat) (p : Part) :
    (handOff t a ml p).bayMode = p.bayMode := bayMode_of_sansFills (handOff_sansFills t a ml p)
@[simp] theorem handOff_clock (t : TankNo) (a : Account) (ml : Nat) (p : Part) :
    (handOff t a ml p).clock = p.clock := clock_of_sansFills (handOff_sansFills t a ml p)
@[simp] theorem handOff_clockUnset (t : TankNo) (a : Account) (ml : Nat) (p : Part) :
    (handOff t a ml p).clockUnset = p.clockUnset := clockUnset_of_sansFills (handOff_sansFills t a ml p)
@[simp] theorem handOff_test (t : TankNo) (a : Account) (ml : Nat) (p : Part) :
    (handOff t a ml p).test = p.test := test_of_sansFills (handOff_sansFills t a ml p)
@[simp] theorem handOff_counts (t : TankNo) (a : Account) (ml : Nat) (p : Part) :
    (handOff t a ml p).counts = p.counts := counts_of_sansFills (handOff_sansFills t a ml p)
@[simp] theorem handOff_zone (t : TankNo) (a : Account) (ml : Nat) (p : Part) (i : ZoneNo) :
    (handOff t a ml p).zone i = p.zone i := by unfold Part.zone; rw [handOff_zones]
@[simp] theorem handOff_device (t : TankNo) (a : Account) (ml : Nat) (p : Part) (i : DevNo) :
    (handOff t a ml p).device i = p.device i := by unfold Part.device; rw [handOff_devices]
@[simp] theorem handOff_machine (t : TankNo) (a : Account) (ml : Nat) (p : Part) (i : SlotNo) :
    (handOff t a ml p).machine i = p.machine i := by unfold Part.machine; rw [handOff_machines]
@[simp] theorem handOff_product (t : TankNo) (a : Account) (ml : Nat) (p : Part) (i : ProductNo) :
    (handOff t a ml p).product i = p.product i := by unfold Part.product; rw [handOff_products]
@[simp] theorem handOff_boundNode (t : TankNo) (a : Account) (ml : Nat) (p : Part) (x : Binding) :
    (handOff t a ml p).boundNode x = p.boundNode x := by unfold Part.boundNode; rw [handOff_devices]
@[simp] theorem handOff_roleGood (t : TankNo) (a : Account) (ml : Nat) (p : Part) (x : Binding) :
    (handOff t a ml p).roleGood x = p.roleGood x := by simp only [Part.roleGood, handOff_boundNode, handOff_device]

end Sys2Proof.Machine
end

