-- ==== Sys2Proof/Laws/Ops.lean ====
section
/-! SUPPORT. What each shared operation can do, said once: object numbers and COMMANDs, the ports' counters and queues,
notices and lines, books and health. -/

namespace Sys2Proof.Machine

open Sys2Proof

/-! ## Object numbers and COMMANDs -/

theorem fromOne_eq_some {n x : Nat} (i : Fin n) (h : x = i.val + 1) : fromOne n x = some i := by
  subst h; unfold fromOne; rw [dif_pos ⟨by omega, by omega⟩]; rfl

theorem fromOne_eq_none {n x : Nat} (h : x = 0 ∨ n < x) : fromOne n x = none := by
  unfold fromOne; rw [dif_neg (by omega)]

theorem fromOne_cases (n x : Nat) :
    (∃ i : Fin n, x = i.val + 1 ∧ fromOne n x = some i) ∨ ((x = 0 ∨ n < x) ∧ fromOne n x = none) := by
  by_cases h : x = 0 ∨ n < x
  · exact .inr ⟨h, fromOne_eq_none h⟩
  · have hx : x = (⟨x - 1, by omega⟩ : Fin n).val + 1 := by dsimp only; omega
    exact .inl ⟨⟨x - 1, by omega⟩, hx, fromOne_eq_some _ hx⟩

@[simp] theorem withArgs_some {α : Type} (a : α) (f : α → Part → Answer) (p : Part) : withArgs (some a) f p = f a p := rfl

@[simp] theorem withArgs_none {α : Type} (f : α → Part → Answer) (p : Part) :
    withArgs none f p = { part := p, status := .badValue, data := [] } := rfl

theorem withIndex_of {n : Nat} {b : Byte} (i : Fin n) (h : b.toNat = i.val + 1) (f : Fin n → Part → Answer) (p : Part) :
    withIndex n b f p = f i p := by
  unfold withIndex; rw [fromOne_eq_some i h]

theorem withIndex_bad {n : Nat} {b : Byte} (h : b.toNat = 0 ∨ n < b.toNat) (f : Fin n → Part → Answer) (p : Part) :
    withIndex n b f p = { part := p, status := .badIndex, data := [] } := by
  unfold withIndex; rw [fromOne_eq_none h]; rfl

/-- A command's outcome, once its owner's answer is known as an effect, a status and data. -/
theorem outcome_command {src : Node} {g : Part → Answer} {s : State} {st : Status} {data : List Byte} {f : Part → Part}
    (h : g (consumeUp s.toPart) = ⟨f (consumeUp s.toPart), st, data⟩) :
    outcome (command src g) s = .next (s.answered src st data f) := by
  unfold outcome command State.answered State.on; simp only [h]

/-! ## Ports -/

/-- A port counter moves nothing but the count. -/
theorem Port.counted_eq (e : PortEvent) (q : Port) :
    q.counted e = { q with count := if q.select = e then min 255 (q.count + 1) else q.count } := by
  unfold Port.counted satAdd; split <;> rfl

@[simp] theorem Port.counted_own (e : PortEvent) (q : Port) : (q.counted e).own = q.own := by rw [counted_eq]
@[simp] theorem Port.counted_forwarded (e : PortEvent) (q : Port) : (q.counted e).forwarded = q.forwarded := by
  rw [counted_eq]
@[simp] theorem Port.counted_flight (e : PortEvent) (q : Port) : (q.counted e).flight = q.flight := by rw [counted_eq]
@[simp] theorem Port.counted_rx (e : PortEvent) (q : Port) : (q.counted e).rx = q.rx := by rw [counted_eq]
@[simp] theorem Port.counted_node (e : PortEvent) (q : Port) : (q.counted e).node = q.node := by rw [counted_eq]
@[simp] theorem Port.counted_select (e : PortEvent) (q : Port) : (q.counted e).select = q.select := by rw [counted_eq]

theorem Port.hasRoom_iff (q : Port) : q.hasRoom = true ↔ q.own.length + q.forwarded.length < 32 := decide_eq_true_iff

/-- A part-originated telegram is placed behind the others; from a full queue the youngest forwarded one goes, and with
none to go the telegram is lost. -/
theorem Port.placeOwn_cases (t : Telegram) (q : Port) :
    (q.own.length + q.forwarded.length < 32 ∧ q.placeOwn t = { q with own := q.own ++ [t] }) ∨
    (32 ≤ q.own.length + q.forwarded.length ∧ q.forwarded = [] ∧ q.placeOwn t = q.counted .queueDrop) ∨
    (32 ≤ q.own.length + q.forwarded.length ∧ q.forwarded ≠ [] ∧
      q.placeOwn t = { q with forwarded := q.forwarded.dropLast, own := q.own ++ [t] }.counted .queueDrop) := by
  unfold Port.placeOwn
  by_cases r : q.hasRoom = true
  · exact .inl ⟨q.hasRoom_iff.1 r, if_pos r⟩
  · have full : 32 ≤ q.own.length + q.forwarded.length := by have := mt q.hasRoom_iff.2 r; omega
    rw [if_neg r]
    by_cases e : q.forwarded = []
    · exact .inr (.inl ⟨full, e, if_pos (List.isEmpty_iff.2 e)⟩)
    · exact .inr (.inr ⟨full, e, if_neg (mt List.isEmpty_iff.1 e)⟩)

theorem Port.placeOwn_fits (t : Telegram) {q : Port} (h : q.Fits) : (q.placeOwn t).Fits := by
  unfold Port.Fits at *
  obtain ⟨r, e⟩ | ⟨_, _, e⟩ | ⟨_, ne, e⟩ := q.placeOwn_cases t <;> rw [e]
  · simp; omega
  · simpa using h
  · have := List.length_pos_iff.2 ne
    simp; omega

/-- A forwarded telegram is placed behind the others, or lost from a full queue. -/
theorem Port.placeForwarded_cases (t : Telegram) (q : Port) :
    (q.own.length + q.forwarded.length < 32 ∧ q.placeForwarded t = { q with forwarded := q.forwarded ++ [t] }) ∨
    (32 ≤ q.own.length + q.forwarded.length ∧ q.placeForwarded t = q.counted .queueDrop) := by
  unfold Port.placeForwarded
  by_cases r : q.hasRoom = true
  · exact .inl ⟨q.hasRoom_iff.1 r, if_pos r⟩
  · exact .inr ⟨by have := mt q.hasRoom_iff.2 r; omega, if_neg r⟩

theorem Port.placeForwarded_fits (t : Telegram) {q : Port} (h : q.Fits) : (q.placeForwarded t).Fits := by
  unfold Port.Fits at *
  obtain ⟨r, e⟩ | ⟨_, e⟩ := q.placeForwarded_cases t <;> rw [e]
  · simp; omega
  · simpa using h

theorem Port.filtered_fits (f g : Telegram → Bool) {q : Port} (h : q.Fits) :
    Port.Fits { q with own := q.own.filter f, forwarded := q.forwarded.filter g } := by
  unfold Port.Fits at *
  have := q.own.length_filter_le f
  have := q.forwarded.length_filter_le g
  dsimp only; omega

theorem Port.dropWaiting_fits (f : Telegram → Bool) {q : Port} (h : q.Fits) : (q.dropWaiting f).Fits :=
  filtered_fits _ _ h

/-- What a port still has waiting was waiting before, and satisfies nothing that was dropped. -/
theorem Port.mem_dropWaiting (f : Telegram → Bool) (q : Port) (u : Telegram) :
    (u ∈ (q.dropWaiting f).own ↔ u ∈ q.own ∧ f u = false) ∧
    (u ∈ (q.dropWaiting f).forwarded ↔ u ∈ q.forwarded ∧ f u = false) := by
  simp [Port.dropWaiting]

theorem Port.queueOrder_fits (t : Telegram) {q : Port} (h : q.Fits) : (q.queueOrder t).Fits :=
  placeOwn_fits t (filtered_fits _ _ h)

theorem Port.queueAttention_fits (t : Telegram) {q : Port} (h : q.Fits) : (q.queueAttention t).Fits :=
  placeOwn_fits t (filtered_fits _ _ h)

/-- An order reaches the field queue of a bound node, and nothing where none is bound. -/
theorem order_cases (k : Byte) (b : Binding) (v : Byte) (p : Part) :
    (p.boundNode b = none ∧ order k b v p = p) ∨
    ∃ n, p.boundNode b = some n ∧ order k b v p = { p with fp := p.fp.queueOrder (orderTelegram k n [v]) } := by
  unfold order
  cases p.boundNode b with
  | none => exact .inl ⟨rfl, rfl⟩
  | some n => exact .inr ⟨n, rfl, rfl⟩

@[simp] theorem order_up (k : Byte) (b : Binding) (v : Byte) (p : Part) : (order k b v p).up = p.up := by
  obtain ⟨_, e⟩ | ⟨n, _, e⟩ := order_cases k b v p <;> rw [e]

/-- What R101 bars is read from the devices, the zones, the tanks and the hoses, so that no port matters. -/
@[simp] theorem dropBarred_bars (p : Part) : (dropBarred p).bars = p.bars := rfl

/-! ## Notices and lines -/

theorem raise_pending {n : Notice} {p : Part} (h : n.isIn p.pendingNotices = true) : raise n p = p := by
  unfold raise; rw [if_pos h]

/-- A notice that was not pending becomes so, the lines follow, and an ATTENTION is queued unless it is masked. -/
theorem raise_new {n : Notice} {p : Part} (h : n.isIn p.pendingNotices = false) :
    let q := syncLines { p with pendingNotices := p.pendingNotices ||| n.bit }
    raise n p = { q with up := if n.isIn p.noticeMask then p.up else p.up.queueAttention (attentionTelegram q) } := by
  unfold raise
  rw [if_neg (by simp [h])]
  dsimp only [syncLines]
  split <;> rfl

theorem mem_zoneNos (z : ZoneNo) : z ∈ zoneNos := by decide +revert
theorem mem_hoseNos (h : HoseNo) : h ∈ hoseNos := by decide +revert
theorem mem_tankNos (t : TankNo) : t ∈ tankNos := by decide +revert

/-- Bringing the lines up to date makes them follow. -/
theorem syncLines_linesFollow (p : Part) : (syncLines p).LinesFollow := by
  refine ⟨?_, ?_⟩
  · simp only [syncLines, Part.someTripped, List.any_eq_true, beq_iff_eq, Part.zone]
    exact ⟨fun ⟨z, _, h⟩ => ⟨z, h⟩, fun ⟨z, h⟩ => ⟨z, mem_zoneNos z, h⟩⟩
  · simp only [syncLines, Part.alarmDue, Bool.or_eq_true, List.any_eq_true, bne_iff_ne, Part.zone]
    exact ⟨fun h => h.imp (fun ⟨z, _, h⟩ => ⟨z, h⟩) id, fun h => h.imp (fun ⟨z, h⟩ => ⟨z, mem_zoneNos z, h⟩) id⟩

/-! ## Books -/

theorem Tank.fold_balanced (x : Tank) : x.fold.Balanced := by simp [Tank.Balanced, Tank.fold]

/-- The book moves by exactly the amount, with the account's sign; the fold moves no stock. -/
@[simp] theorem Tank.bookChange_book (a : Account) (n : Int) (x : Tank) :
    (x.bookChange a n).book = x.book + a.sign * n := by
  unfold Tank.bookChange; dsimp only; split <;> rfl

theorem Tank.bookChange_balanced (a : Account) (n : Int) {x : Tank} (h : x.Balanced) : (x.bookChange a n).Balanced := by
  have add : ∀ y : Tank, y.Balanced → Tank.Balanced { y with totals := y.totals.add a n, book := y.book + a.sign * n } := by
    intro y hy
    unfold Tank.Balanced at *
    cases a <;> simp only [Totals.add, Account.sign] <;> omega
  unfold Tank.bookChange
  dsimp only
  split
  · exact add _ x.fold_balanced
  · exact add _ h

/-! ## Health -/

/-- The health state that a score leads to is one the score allows. -/
theorem healthAfter_allows (h : Health) (score : Nat) :
    (healthAfter h score = .good → score < 32) ∧ (healthAfter h score = .doubtful → 32 ≤ score ∧ score < 96) ∧
    (healthAfter h score = .lost → 16 ≤ score) := by
  cases h <;> simp only [healthAfter] <;> split <;> (try split) <;> simp <;> omega

/-- One telegram of a node whose score and health agree (R119, R120): the score falls, and no change is reported. -/
theorem scoreTelegram_heard {n : DevNo} {p : Part} (h : (p.device n).Scored) :
    scoreTelegram n p = modDevice n (fun d => { d with score := d.score - 1, health := d.heardHealth }) p := by
  obtain ⟨-, -, hg, hd, hl⟩ := h
  have e : healthAfter (p.device n).health ((p.device n).score - 1) = (p.device n).heardHealth := by
    unfold healthAfter Device.heardHealth
    cases x : (p.device n).health
    · have := hg x; simp; omega
    · have := hd x; simp; split <;> split <;> (try split) <;> first | rfl | omega
    · have := hl x; simp; split <;> split <;> first | rfl | omega
  have up : (p.device n).heardHealth = (p.device n).health ∨ (p.device n).heardHealth = .good := by
    unfold Device.heardHealth; split <;> simp
  unfold scoreTelegram setScore
  simp only [e]
  split
  · rfl
  · rcases up with u | u
    · contradiction
    · rw [u]; simp only [reportHealth]; unfold modDevice; simp [u]

/-- The Line monitor hands a field telegram of such a node on once it has been scored (R117). -/
theorem monitorTelegram_heard {t : Telegram} {n : DevNo} {b : Binding} {p : Part} (hn : deviceOf t.head.src = some n)
    (h : p.Hears n b) :
    monitorTelegram t (modPort .fp Port.heardEnd p) = checkKind n t.kind t.payload (p.heard n t.kind) := by
  obtain ⟨hb, hs⟩ := h
  unfold monitorTelegram
  rw [hn]
  simp only
  congr 1
  have hd : (modDevice n (fun d => { d with lastKind := some t.kind }) (modPort .fp Port.heardEnd p)).device n =
      { p.device n with lastKind := some t.kind } := nth_setNth_same ..
  split
  · rename_i hu
    rw [hd] at hu
    obtain ⟨h0, hg⟩ := hs.2.1 hu
    have e : (p.device n).heardHealth = (p.device n).health := by unfold Device.heardHealth; simp [hg]
    have e0 : (p.device n).score - 1 = (p.device n).score := by rw [h0]
    unfold Part.heard modDevice
    congr 2
    show _ = { p.device n with lastKind := some t.kind, score := (p.device n).score - 1, health := (p.device n).heardHealth }
    rw [e, e0]; rfl
  · rw [scoreTelegram_heard (by rw [hd]; exact hs)]
    unfold Part.heard modDevice
    simp only [Part.device, nth_setNth_same]
    simp [setNth]
    rfl
end Sys2Proof.Machine
end

