-- ==== Sys2Proof/Laws/PerInstr.lean ====
section
/-! SUPPORT. What holds of every row of the table as syntax, one lemma for each constructor. -/

namespace Sys2Proof.Laws

open Sys2Proof

/-- A well-formed command's bytes fit the payload of one COMMAND telegram, which carries at least no byte and at most 12
(R130, R167). -/
def PayloadFits.Statement (i : Instr) : Prop :=
  i.wellFormed = true → ∀ (src : Node) (payload : List Byte), encodeCommand i = some (src, payload) →
    payloadOk payload = true

/-- A row that is no command has no payload. -/
theorem payloadFits_of_none {i : Instr} (h : encodeCommand i = none) : PayloadFits.Statement i := by
  intro _ src payload e
  rw [h] at e
  cases e

/-- A row whose payload is known fits where that payload does. -/
theorem payloadFits_of_some {i : Instr} {n : Node} {bytes : List Byte} (h : encodeCommand i = some (n, bytes))
    (fits : i.wellFormed = true → bytes.length ≤ 12) : PayloadFits.Statement i := by
  intro w src payload e
  rw [h] at e
  cases e
  exact decide_eq_true (fits w)

theorem PayloadFits.powerOn {nodeStraps rateStraps profileHigh} : PayloadFits.Statement (.powerOn nodeStraps rateStraps profileHigh) := payloadFits_of_none rfl

theorem PayloadFits.resetLine {nodeStraps rateStraps profileHigh} : PayloadFits.Statement (.resetLine nodeStraps rateStraps profileHigh) := payloadFits_of_none rfl

theorem PayloadFits.profileLineChange {high} : PayloadFits.Statement (.profileLineChange high) := payloadFits_of_none rfl

theorem PayloadFits.meterSample {head payload} : PayloadFits.Statement (.meterSample head payload) := payloadFits_of_none rfl

theorem PayloadFits.levelReport {head payload} : PayloadFits.Statement (.levelReport head payload) := payloadFits_of_none rfl

theorem PayloadFits.tagReport {head payload} : PayloadFits.Statement (.tagReport head payload) := payloadFits_of_none rfl

theorem PayloadFits.sumpReport {head payload} : PayloadFits.Statement (.sumpReport head payload) := payloadFits_of_none rfl

theorem PayloadFits.estopReport {head payload} : PayloadFits.Statement (.estopReport head payload) := payloadFits_of_none rfl

theorem PayloadFits.starterStatus {head payload} : PayloadFits.Statement (.starterStatus head payload) := payloadFits_of_none rfl

theorem PayloadFits.valveStatus {head payload} : PayloadFits.Statement (.valveStatus head payload) := payloadFits_of_none rfl

theorem PayloadFits.inletStatus {head payload} : PayloadFits.Statement (.inletStatus head payload) := payloadFits_of_none rfl

theorem PayloadFits.echoBack {head payload} : PayloadFits.Statement (.echoBack head payload) := payloadFits_of_none rfl

theorem PayloadFits.fieldTelegramOther {head kind payload} : PayloadFits.Statement (.fieldTelegramOther head kind payload) := payloadFits_of_none rfl

theorem PayloadFits.telegramDiscarded {port heard} : PayloadFits.Statement (.telegramDiscarded port heard) := payloadFits_of_none rfl

theorem PayloadFits.upTelegramOffered {telegram} : PayloadFits.Statement (.upTelegramOffered telegram) := payloadFits_of_none rfl

theorem PayloadFits.upTelegramConsumed {telegram} : PayloadFits.Statement (.upTelegramConsumed telegram) := payloadFits_of_none rfl

theorem PayloadFits.idleWaitExpiry {port} : PayloadFits.Statement (.idleWaitExpiry port) := payloadFits_of_none rfl

theorem PayloadFits.transmitStart {port} : PayloadFits.Statement (.transmitStart port) := payloadFits_of_none rfl

theorem PayloadFits.transmitEnd {port} : PayloadFits.Statement (.transmitEnd port) := payloadFits_of_none rfl

theorem PayloadFits.idleTimerExpiry {hose} : PayloadFits.Statement (.idleTimerExpiry hose) := payloadFits_of_none rfl

theorem PayloadFits.pauseTimerExpiry {hose} : PayloadFits.Statement (.pauseTimerExpiry hose) := payloadFits_of_none rfl

theorem PayloadFits.confirmTimerExpiry {hose} : PayloadFits.Statement (.confirmTimerExpiry hose) := payloadFits_of_none rfl

theorem PayloadFits.drainWindowExpiry {hose} : PayloadFits.Statement (.drainWindowExpiry hose) := payloadFits_of_none rfl

theorem PayloadFits.periodTimerExpiry {node} : PayloadFits.Statement (.periodTimerExpiry node) := payloadFits_of_none rfl

theorem PayloadFits.settleTimerExpiry {tank} : PayloadFits.Statement (.settleTimerExpiry tank) := payloadFits_of_none rfl

theorem PayloadFits.restWindowExpiry {tank} : PayloadFits.Statement (.restWindowExpiry tank) := payloadFits_of_none rfl

theorem PayloadFits.recoveryTimerExpiry {zone} : PayloadFits.Statement (.recoveryTimerExpiry zone) := payloadFits_of_none rfl

theorem PayloadFits.bayClockTick : PayloadFits.Statement .bayClockTick := payloadFits_of_none rfl

theorem PayloadFits.gapTimerExpiry : PayloadFits.Statement .gapTimerExpiry := payloadFits_of_none rfl

theorem PayloadFits.echoWaitExpiry : PayloadFits.Statement .echoWaitExpiry := payloadFits_of_none rfl

theorem PayloadFits.window {src args} : PayloadFits.Statement (.window src args) :=
  payloadFits_of_some rfl fun _ => by cases args <;> exact Nat.le_of_ble_eq_true rfl

theorem PayloadFits.stepMode {src mode} : PayloadFits.Statement (.stepMode src mode) :=
  payloadFits_of_some rfl fun _ => by cases mode <;> exact Nat.le_of_ble_eq_true rfl

theorem PayloadFits.read {src n} : PayloadFits.Statement (.read src n) :=
  payloadFits_of_some rfl fun _ => by cases n <;> exact Nat.le_of_ble_eq_true rfl

theorem PayloadFits.write {src data} : PayloadFits.Statement (.write src data) :=
  payloadFits_of_some rfl fun w => Nat.succ_le_succ (of_decide_eq_true w)

theorem PayloadFits.bayMode {src mode} : PayloadFits.Statement (.bayMode src mode) :=
  payloadFits_of_some rfl fun _ => by cases mode <;> exact Nat.le_of_ble_eq_true rfl

theorem PayloadFits.profile {src letter} : PayloadFits.Statement (.profile src letter) :=
  payloadFits_of_some rfl fun _ => by cases letter <;> exact Nat.le_of_ble_eq_true rfl

theorem PayloadFits.profileSource {src source} : PayloadFits.Statement (.profileSource src source) :=
  payloadFits_of_some rfl fun _ => by cases source <;> exact Nat.le_of_ble_eq_true rfl

theorem PayloadFits.clockSet {src seconds} : PayloadFits.Statement (.clockSet src seconds) :=
  payloadFits_of_some rfl fun _ => by cases seconds <;> exact Nat.le_of_ble_eq_true rfl

theorem PayloadFits.lineRate {src code} : PayloadFits.Statement (.lineRate src code) :=
  payloadFits_of_some rfl fun _ => by cases code <;> exact Nat.le_of_ble_eq_true rfl

theorem PayloadFits.counterSelect {src args} : PayloadFits.Statement (.counterSelect src args) :=
  payloadFits_of_some rfl fun _ => by cases args <;> exact Nat.le_of_ble_eq_true rfl

theorem PayloadFits.counterRead {src port} : PayloadFits.Statement (.counterRead src port) :=
  payloadFits_of_some rfl fun _ => by cases port <;> exact Nat.le_of_ble_eq_true rfl

theorem PayloadFits.stockSet {src args} : PayloadFits.Statement (.stockSet src args) :=
  payloadFits_of_some rfl fun _ => by cases args <;> exact Nat.le_of_ble_eq_true rfl

theorem PayloadFits.deliveryStart {src args} : PayloadFits.Statement (.deliveryStart src args) :=
  payloadFits_of_some rfl fun _ => by cases args <;> exact Nat.le_of_ble_eq_true rfl

theorem PayloadFits.deliveryEnd {src tank} : PayloadFits.Statement (.deliveryEnd src tank) :=
  payloadFits_of_some rfl fun _ => by cases tank <;> exact Nat.le_of_ble_eq_true rfl

theorem PayloadFits.tripZone {src zone} : PayloadFits.Statement (.tripZone src zone) :=
  payloadFits_of_some rfl fun _ => by cases zone <;> exact Nat.le_of_ble_eq_true rfl

theorem PayloadFits.tripReset {src zone} : PayloadFits.Statement (.tripReset src zone) :=
  payloadFits_of_some rfl fun _ => by cases zone <;> exact Nat.le_of_ble_eq_true rfl

theorem PayloadFits.hoseServiceOut {src args} : PayloadFits.Statement (.hoseServiceOut src args) :=
  payloadFits_of_some rfl fun _ => by cases args <;> exact Nat.le_of_ble_eq_true rfl

theorem PayloadFits.hoseServiceIn {src hose} : PayloadFits.Statement (.hoseServiceIn src hose) :=
  payloadFits_of_some rfl fun _ => Nat.le_of_ble_eq_true rfl

theorem PayloadFits.tankServiceIn {src tank} : PayloadFits.Statement (.tankServiceIn src tank) :=
  payloadFits_of_some rfl fun _ => Nat.le_of_ble_eq_true rfl

theorem PayloadFits.tankServiceOut {src args} : PayloadFits.Statement (.tankServiceOut src args) :=
  payloadFits_of_some rfl fun _ => by cases args <;> exact Nat.le_of_ble_eq_true rfl

theorem PayloadFits.machineStateBarred {src slot} : PayloadFits.Statement (.machineStateBarred src slot) :=
  payloadFits_of_some rfl fun _ => Nat.le_of_ble_eq_true rfl

theorem PayloadFits.machineStateOpen {src args} : PayloadFits.Statement (.machineStateOpen src args) :=
  payloadFits_of_some rfl fun _ => by cases args <;> exact Nat.le_of_ble_eq_true rfl

theorem PayloadFits.serviceDone {src args} : PayloadFits.Statement (.serviceDone src args) :=
  payloadFits_of_some rfl fun _ => by cases args <;> exact Nat.le_of_ble_eq_true rfl

theorem PayloadFits.take {src serial} : PayloadFits.Statement (.take src serial) :=
  payloadFits_of_some rfl fun _ => by cases serial <;> exact Nat.le_of_ble_eq_true rfl

theorem PayloadFits.noticeRead {src} : PayloadFits.Statement (.noticeRead src) := payloadFits_of_some rfl fun _ => by decide

theorem PayloadFits.noticeMask {src set} : PayloadFits.Statement (.noticeMask src set) :=
  payloadFits_of_some rfl fun _ => by cases set <;> exact Nat.le_of_ble_eq_true rfl

theorem PayloadFits.topNotice {src} : PayloadFits.Statement (.topNotice src) := payloadFits_of_some rfl fun _ => by decide

theorem PayloadFits.proveStart {src args} : PayloadFits.Statement (.proveStart src args) :=
  payloadFits_of_some rfl fun _ => by cases args <;> exact Nat.le_of_ble_eq_true rfl

theorem PayloadFits.proveResult {src args} : PayloadFits.Statement (.proveResult src args) :=
  payloadFits_of_some rfl fun _ => by cases args <;> exact Nat.le_of_ble_eq_true rfl

theorem PayloadFits.proveEndAccept {src args} : PayloadFits.Statement (.proveEndAccept src args) :=
  payloadFits_of_some rfl fun _ => by cases args <;> exact Nat.le_of_ble_eq_true rfl

theorem PayloadFits.proveEndAbandon {src hose} : PayloadFits.Statement (.proveEndAbandon src hose) :=
  payloadFits_of_some rfl fun _ => Nat.le_of_ble_eq_true rfl

theorem PayloadFits.lineTestSingle {src args} : PayloadFits.Statement (.lineTestSingle src args) :=
  payloadFits_of_some rfl fun _ => by cases args <;> exact Nat.le_of_ble_eq_true rfl

theorem PayloadFits.lineTestContinuous {src args} : PayloadFits.Statement (.lineTestContinuous src args) :=
  payloadFits_of_some rfl fun _ => by cases args <;> exact Nat.le_of_ble_eq_true rfl

theorem PayloadFits.lineTestRead {src} : PayloadFits.Statement (.lineTestRead src) := payloadFits_of_some rfl fun _ => by decide

theorem PayloadFits.lineTestStop {src mode} : PayloadFits.Statement (.lineTestStop src mode) :=
  payloadFits_of_some rfl fun _ => by cases mode <;> exact Nat.le_of_ble_eq_true rfl

theorem PayloadFits.restart {src} : PayloadFits.Statement (.restart src) := payloadFits_of_some rfl fun _ => by decide

theorem PayloadFits.commandUnknown {src} : PayloadFits.Statement (.commandUnknown src) := payloadFits_of_some rfl fun _ => by decide

theorem PayloadFits.startBitHeard {heard} : PayloadFits.Statement (.startBitHeard heard) := payloadFits_of_none rfl

end Sys2Proof.Laws
end

