-- ==== Sys2Proof/Laws/Window.lean ====
section
/-! SUPPORT. What the fields of the table window read (R169, R177): the values of each kind of field, the halves of a
two-word field, and an entry read word by word. -/

namespace Sys2Proof.Machine

open Sys2Proof

/-! ## The values of a field -/

@[simp] theorem ro_values (v : Word) : (ro v).map (·.value) = [v] := rfl
@[simp] theorem ro2_values (v : Long) : (ro2 v).map (·.value) = [lowerWord v, upperWord v] := rfl
@[simp] theorem rw1_values (v : Word) (f : Word → Part → Except Status Part) : (rw1 v f).map (·.value) = [v] := rfl
@[simp] theorem rw2_values (v : Long) (f : Long → Part → Except Status Part) :
    (rw2 v f).map (·.value) = [lowerWord v, upperWord v] := rfl
@[simp] theorem number_values (v lo hi : Nat) (f : Nat → Part → Part) : (number v lo hi f).map (·.value) = [w16 v] := rfl
@[simp] theorem number2_values (v lo hi : Nat) (f : Nat → Part → Part) :
    (number2 v lo hi f).map (·.value) = [lowerWord (w32 v), upperWord (w32 v)] := rfl
@[simp] theorem zeroOnly_values (v : Nat) (f : Part → Part) : (zeroOnly v f).map (·.value) = [w16 v] := rfl
@[simp] theorem zeroOnly2_values (v : Nat) (f : Part → Part) :
    (zeroOnly2 v f).map (·.value) = [lowerWord (w32 v), upperWord (w32 v)] := rfl
@[simp] theorem throttle_values (v : Nat) (f : Nat → Part → Part) : (throttle v f).map (·.value) = [w16 v] := rfl
@[simp] theorem hourField_values (v : Option Nat) (f : Option Nat → Part → Part) :
    (hourField v f).map (·.value) = [lowerWord (optLong v), upperWord (optLong v)] := rfl
@[simp] theorem gated_values (ok : Bool) (st : Status) (cs : List Cell) :
    (gated ok st cs).map (·.value) = cs.map (·.value) := by
  cases ok <;> simp [gated, Function.comp_def]

/-! ## The halves of a two-word field -/

theorem lowerWord_eq (x : Long) : lowerWord x = BitVec.ofNat 16 x.toNat := by
  apply BitVec.eq_of_toNat_eq; simp [lowerWord]

theorem upperWord_eq (x : Long) : upperWord x = BitVec.ofNat 16 (x.toNat / 65536) := by
  apply BitVec.eq_of_toNat_eq; simp [upperWord, Nat.shiftRight_eq_div_pow]

theorem lowerWord_w32 (n : Nat) : lowerWord (w32 n) = BitVec.ofNat 16 n := by
  apply BitVec.eq_of_toNat_eq; simp [lowerWord, w32]

theorem upperWord_w32 (n : Nat) : upperWord (w32 n) = BitVec.ofNat 16 (n / 65536) := by
  rw [upperWord_eq]; apply BitVec.eq_of_toNat_eq; simp [w32]; omega

/-! ## An entry read word by word -/

theorem readWord_eq_value {sel : Selection} {k : Nat} {p : Part} (h : k < (cells sel p).length) :
    readWord sel k p = ((cells sel p)[k]).value := by
  simp [readWord, List.getElem?_eq_getElem h]

/-- An entry's words, read at every offset, are its fields' values in order. -/
theorem readWords_eq_values {sel : Selection} {p : Part} (h : (cells sel p).length = sel.words) :
    ((List.range sel.words).map fun k => readWord sel k p) = (cells sel p).map (·.value) := by
  refine List.ext_getElem (by simp [h]) fun i h1 h2 => ?_
  rw [List.length_map] at h2
  simp [readWord_eq_value h2]

end Sys2Proof.Machine
end

