-- ==== Sys2Proof/Tests/Slice0.lean ====
section
/-! SUPPORT. Tests. First what WellFormed refuses, then the manual's worked figures (each test names its source), then
one command or event on a small state, and last, for every statement with hypotheses, a state and operands that meet
them. -/

namespace Sys2Proof.Tests

open Sys2Proof Sys2Proof.Machine

set_option Elab.async false

/-! ## A small plant: hose 1 on tank 1 in zone 1, every device GOOD -/

/-- The state an event leads to. -/
def after (i : Instr) (s : State) : State :=
  match exec i s with
  | .next t => t
  | _ => s

/-- The state a step leads to. -/
def stepped (s : State) : State :=
  match step s with
  | .next t => t
  | _ => s

/-- A telegram of a field node. -/
def hd (src : Node) : Header := { dst := 0, cls := 0, src := src, rsv := 0 }

/-- A telegram from the bay computer, node 1. -/
def fromBay (dst : Node) (kind : Byte) (payload : List Byte) : Telegram :=
  { head := { dst := dst, cls := 1, src := 1, rsv := 0 }, kind := kind, payload := payload }

def word (n : Nat) : List Byte := bytes16 (BitVec.ofNat 16 n)

/-- The curve of chapter 2's worked case. -/
def curve : List CurvePoint := [⟨100, 100400⟩, ⟨300, 100100⟩, ⟨600, 99800⟩]

/-- The strapping table of chapter 4's worked gauge reading. -/
def straps : List StrapPoint := [⟨0, 0⟩, ⟨500, 9800⟩, ⟨1000, 21400⟩, ⟨2000, 46000⟩, ⟨2800, 64500⟩]

def hoseConfig : HoseConfig :=
  { Hose.atReset.cfg with
    tank := some 0, pulseWeight := 2500, pointCount := 3
    points := #v[⟨100, 100400⟩, ⟨300, 100100⟩, ⟨600, 99800⟩, ⟨0, 0⟩, ⟨0, 0⟩, ⟨0, 0⟩] }

def tankConfig : TankConfig :=
  { Tank.atReset.cfg with
    product := some 0, capacity := 66000, strapCount := 5, highHigh := 2700, lowCutoff := 2000
    straps := setNth (setNth (setNth (setNth (setNth (fill 32 ⟨0, 0⟩) 0 ⟨0, 0⟩) 1 ⟨500, 9800⟩) 2 ⟨1000, 21400⟩) 3
      ⟨2000, 46000⟩) 4 ⟨2800, 64500⟩ }

/-- A device entry at reset, bound. -/
def bound (b : Binding) : Device := { Device.atReset with binding := b }

/-- Nodes 1 to 9. -/
def devices : Vector Device 62 :=
  setNth (setNth (setNth (setNth (setNth (setNth (setNth (setNth (setNth (fill 62 Device.atReset)
    0 (bound (.meter 0))) 1 (bound (.reader 0))) 2 (bound (.valve 0))) 3 (bound (.starter 0))) 4 (bound (.inlet 0)))
    5 (bound (.gauge 0))) 6 (bound (.sump 0))) 7 (bound (.estop (some 0)))) 8 (bound (.estop none))

def hose1 : Hose := { Hose.atReset with cfg := hoseConfig, mode := .idle }

def tank1 : Tank :=
  { Tank.atReset with
    cfg := tankConfig, state := .inService, book := 39912000, setPoint := 39912000
    gaugeNet := some 39890348, lastLevel := some 1740 }

def machine0 : MachineRec := { MachineRec.empty with tag := 7, allowances := fill 8 4540 }

def plant : State :=
  { State.reset with
    up := Port.atReset 0 62
    devices := devices
    hoses := setNth (fill 8 Hose.atReset) 0 hose1
    tanks := setNth (fill 6 Tank.atReset) 0 tank1
    products := setNth (fill 8 ⟨.none, 0, 150⟩) 0 ⟨.fuel, 830, 150⟩
    machines := setNth (fill 1024 MachineRec.empty) 0 machine0
    zones := fill 4 { Zone.atReset with state := .normal, causes := 0 }
    shutdown := false, bayAlarm := false, pendingNotices := 0, bayMode := .run }

def inLayUp (s : State) : State := { s with bayMode := .layUp }
def withHose (f : Hose → Hose) (s : State) : State := s.on (modHose 0 f)
def withTank (f : Tank → Tank) (s : State) : State := s.on (modTank 0 f)
def withZone (f : Zone → Zone) (s : State) : State := s.on (modZone 0 f)
def withDevice (n : DevNo) (f : Device → Device) (s : State) : State := s.on (modDevice n f)

def txn : Transaction :=
  { tag := 7, slot := 0, hours := some 123610, cap := 20000, allowance := 20000, letter := .a, tank := 0, product := 0,
    cls := .fuel, zone := 0, start := ⟨0, true⟩, tally := { lastCode := 15 } }

/-- The plant with a fill open on hose 1. -/
def filling (ph : Phase) : State :=
  { plant with
    hoses := setNth plant.hoses 0 { hose1 with mode := .fill ph txn, nozzle := .coupled, baseline := some 41000 }
    tanks := setNth plant.tanks 0 { tank1 with openHoses := 1 }
    pumps := setNth plant.pumps 0 ⟨match ph with | .closing _ _ => 0 | _ => 1, false⟩
    machines := setNth plant.machines 0 { machine0 with openHose := some 0 }
    reserved := 1 }

def closing : State := filling (.closing .nozzleOff ⟨5, false⟩)

/-- The three ended runs of chapter 11's worked proving, the first two RESULTED. -/
def run1 : EndedRun :=
  { cause := .capReached, gross := 200012, net := 204162, lastTemp := some (-100), flags := {}, jumps := 0,
    meanRate := 238, factorUsed := 100190, vcf := 1020750, result := none }
def run2 : EndedRun := { run1 with gross := 200006, net := 204156, meanRate := 241 }
def run3 : EndedRun := { run1 with gross := 200010, net := 204160, meanRate := 242 }

def provingWith (ended : List EndedRun) (run : Option ProvingRun) : State :=
  withHose (fun x => { x with mode := .proving { planned := 3, can := 200000, ended := ended, run := run } }) plant

/-- The session of the worked proving after its three results. -/
def proved : State :=
  after (.proveResult 1 (some (1, 3, 199430))) (after (.proveResult 1 (some (1, 2, 199470)))
    (after (.proveResult 1 (some (1, 1, 199450))) (provingWith [run1, run2, run3] none)))

def receiving : State :=
  withTank (fun x => { x with
    state := .receiving
    delivery := some { declared := 30000, startGauge := 39890348, start := ⟨0, true⟩, outflow := 0, closed := none } })
    { plant with reserved := 1 }

def lineTest : LineTest :=
  { continuous := true, gap := 0, pattern := .counting, byte := 0, length := 2, target := 0, counter := 2,
    register := 0xACE1, awaited := some [0, 1], gapRunning := true, waitRunning := false }

def testing : State := { inLayUp plant with test := some lineTest, counts := { sent := 1 } }

def filled (n : Nat) : State :=
  { plant with records := List.replicate n (blankRecord .refusal ⟨0, false⟩ ⟨0, false⟩) }

/-! ## What WellFormed refuses -/

theorem test_wf_refuses_long_payloads :
    Instr.wellFormed (.meterSample (hd 1) (List.replicate 13 0)) = false ∧
    Instr.wellFormed (.fieldTelegramOther (hd 1) 0x99 (List.replicate 13 0)) = false ∧
    Instr.wellFormed (.upTelegramOffered (fromBay 3 0x21 (List.replicate 13 0))) = false := by decide

theorem test_wf_refuses_commands_as_consumed :
    Instr.wellFormed (.upTelegramConsumed (fromBay 62 0x40 [0x23])) = false := by decide

theorem test_wf_refuses_sound_discards :
    Instr.wellFormed (.telegramDiscarded .up (sound (fromBay 62 0x40 [0x23]).bytes)) = false := by decide +kernel

theorem test_wf_refuses_long_writes : Instr.wellFormed (.write 1 (List.replicate 12 0)) = false := by decide

theorem test_wf_refuses_another_rows_form :
    Instr.wellFormed (.hoseServiceOut 1 (some (1, 1))) = false ∧
    Instr.wellFormed (.tankServiceOut 1 (some (1, 1))) = false ∧
    Instr.wellFormed (.machineStateOpen 1 (some (1, 1))) = false ∧
    Instr.wellFormed (.proveEndAccept 1 (some (1, 1))) = false ∧
    Instr.wellFormed (.lineTestStop 1 (some 3)) = false := by decide

/-! ## The lines' bytes -/

/-- R132 gives the check of the nine bytes 31h to 39h. -/
theorem test_crc_of_digits : crc [0x31, 0x32, 0x33, 0x34, 0x35, 0x36, 0x37, 0x38, 0x39] = 0x29B1 := by decide +kernel

/-- R130, R167: SET_CLOCK's code 13h with seconds 12345678h, laid out by hand. -/
theorem test_decode_clock_set :
    decodeCommand 5 [0x13, 0x78, 0x56, 0x34, 0x12] = .clockSet 5 (some 0x12345678) := by decide

/-- R167, R168: WINDOW(HOSE, 4). -/
theorem test_decode_window : decodeCommand 1 [0x01, 0x01, 0x04, 0x00] = .window 1 (some (1, 4)) := by decide

/-- R167: the two forms of HOSE_SERVICE, and a short one. -/
theorem test_decode_hose_service :
    decodeCommand 1 [0x1C, 3, 0] = .hoseServiceOut 1 (some (3, 0)) ∧ decodeCommand 1 [0x1C, 3, 1] = .hoseServiceIn 1 3 ∧
    decodeCommand 1 [0x1C, 3] = .hoseServiceOut 1 none ∧ decodeCommand 1 [0x29] = .commandUnknown 1 := by decide

/-- R131: a wrong check, a bad stop bit, and a length above 12. -/
theorem test_receive_refuses :
    receive (sound [0x3E, 1, 0x40, 1, 0x23, 0, 0]) = .crcError ∧
    receive [⟨0x3E, true⟩, ⟨1, false⟩] = .crcError ∧
    receive (sound [0x3E, 1, 0x40, 13, 0x23, 0, 0]) = .lengthError := by decide +kernel

/-! ## Worked figures -/

/-- R36: the direction of truncation on a falling segment. -/
theorem test_factor_truncates_toward_zero : factorAt curve 101 = 100399 := by decide

/-- Chapter 2, worked case. -/
theorem test_factor_of_the_worked_sample : factorAt curve 240 = 100190 := by decide

/-- R36: at and beyond the ends of the curve. -/
theorem test_factor_at_the_ends :
    factorAt curve 0 = 100400 ∧ factorAt curve 100 = 100400 ∧ factorAt curve 600 = 99800 ∧
    factorAt curve 900 = 99800 := by decide

/-- R40's table. -/
theorem test_vcf_table :
    vcfOf 830 (-184) = 1027722 ∧ vcfOf 5 151 = 999999 ∧ vcfOf 5 149 = 1000001 ∧ vcfOf 750 157 = 999475 ∧
    vcfOf 2000 (-500) = 1100000 ∧ vcfOf 2000 800 = 900000 ∧ vcfOf 0 321 = 1000000 := by decide

/-- Chapter 2, worked case: one sample, from the telegram to the book. -/
theorem test_worked_sample :
    let t := after (.meterSample (hd 1) (word 42600 ++ word 1000 ++ [0x48, 0xFF] ++ [0])) (filling .ready)
    (t.hose 0).mode.tally.map (fun y => (y.gross, y.net, y.meter)) =
      some (4007, 4118, { a := 0, b := 600, c := 687200, d := 698, lastRate := some 240 }) ∧
    (t.tank 0).book = 39912000 - 4118 ∧ (t.hose 0).baseline = some 42600 := by decide +kernel

/-- Chapter 2, worked fill: sample 3, whose count has wrapped, whose interval is 0 and whose temperature is invalid. -/
theorem test_worked_fill_sample_3 :
    workSample (deltaOf 65532 25) 12500 (factorAt [⟨5, 100610⟩, ⟨40, 99910⟩] (rateOf 29 12500 0 (some 20) 5))
      (vcfOf 640 (usedTemp (-32768) 100)) 20 { a := 0, b := 140, c := 865920, d := 570, lastRate := some 20 } =
    { meter := { a := 75000, b := 763, c := 459520, d := 357, lastRate := some 20 }, gross := 363, net := 365 } := by
  decide

/-- R17's worked taper. -/
theorem test_taper_codes :
    let steps : List TaperStep := [⟨200, 10⟩, ⟨50, 6⟩, ⟨10, 3⟩]
    taperCode steps 15 251850 = 15 ∧ taperCode steps 15 191850 = 10 ∧ taperCode steps 15 46850 = 6 := by decide

/-- Chapter 3, worked caps, cases 1 and 2. -/
theorem test_worked_caps :
    let m := { machine0 with burnRate := 235000, hoursAtFull := some 123456, addedSinceFull := 400000 }
    fuelCap Profile.defaultA m 4540 (some 123610) = 3701850 ∧
    fuelCap Profile.defaultB m 4540 (some 123610) = 3476520 ∧ overrunAllowance 3701850 = 74037 := by decide +kernel

/-- Chapter 3, worked learning: fills 3, 4 and 8. -/
theorem test_worked_learning :
    MachineRec.learned { MachineRec.empty with burnRate := 200000 } 189565 = (189565, false) ∧
    MachineRec.learned { MachineRec.empty with burnRate := 189565, learnCount := 1 } 197777 = (191618, false) ∧
    MachineRec.learned { MachineRec.empty with burnRate := 194236, learnCount := 4 } 347000 = (194236, true) := by
  decide

/-- Chapter 4, worked gauge reading. -/
theorem test_worked_gauge_reading :
    let t := after (.levelReport (hd 6) (word 1740 ++ word 30 ++ [0x88, 0xFF] ++ [0])) plant
    (t.tank 0).gaugeNet = some 39890348 ∧ (t.tank 0).gaugeTemp = some (-120) := by decide +kernel

/-- Chapter 4, worked delivery: the settled reading, and DELIVERY_END's figures. -/
theorem test_worked_delivery_end :
    gaugeNetOf straps 2704 30 830 (-60) = 62767291 ∧
    (let d : Delivery := { declared := 30000, startGauge := 39890348, start := ⟨0, false⟩, outflow := 1250400,
                           closed := some .highHigh }
     let t := after (.deliveryEnd 1 (some 1)) (withTank (fun x => { x with
       gaugeNet := some 62767291, book := 38661600, delivery := some d }) receiving)
     (t.tank 0).book = 62788943 ∧ t.records.map (·.cause) = [21] ∧
     Notice.deliveryVariance.isIn t.pendingNotices = true) := by decide +kernel

/-- Chapter 11, worked proving: the run factors and credits, and the point that accept inserts. -/
theorem test_worked_proving :
    run1.resultOf 199450 = some ⟨199450, 99908, 203588⟩ ∧ run2.resultOf 199470 = some ⟨199470, 99921, 203609⟩ ∧
    run3.resultOf 199430 = some ⟨199430, 99899, 203568⟩ ∧
    ((after (.proveEndAccept 1 (some (1, 0))) proved).hose 0).cfg.curve =
      [⟨100, 100400⟩, ⟨240, 99909⟩, ⟨300, 100100⟩, ⟨600, 99800⟩] := by decide +kernel

/-- Chapter 10, worked sequence: a hose's factor curve written at offset 12 in STEP mode. -/
theorem test_worked_curve_write :
    let t := after (.write 1 [2, 0, 120, 0, 0x9A, 0x87, 1, 0, 0xE0, 1]) { plant with
      cursor := { sel := .hose 3, offset := 12, mode := .step, kept := [(14, 0), (17, 0x1234)] } }
    let u := after (.write 1 [0x3C, 0x86, 1, 0]) t
    t.cursor.offset = 17 ∧ u.cursor.offset = 19 ∧ (u.hose 3).cfg.curve = [⟨120, 100250⟩, ⟨480, 99900⟩] := by
  decide +kernel

/-- Chapter 8, worked sequence: rule 0 thins meter samples one in ten; the default drops a sump report. -/
theorem test_worked_pass_table :
    let rule : PassRule := { PassRule.atReset with inUse := true, kindValue := 0x10, kindMask := 0xFF, action := .thin 5 }
    let s : State := { plant with
      rules := setNth plant.rules 0 rule
      filter := { FilterEntry.atReset with dropUpward := true }
      fp := { plant.fp with select := .droppedTable } }
    let one := offer .fieldToUp ⟨hd 1, 0x10, []⟩ s.toPart
    let two := offer .fieldToUp ⟨hd 1, 0x10, []⟩ one
    let three := offer .fieldToUp ⟨hd 7, 0x13, [1]⟩ two
    one.up.forwarded.length = 1 ∧ two.up.forwarded.length = 1 ∧ two.fp.count = 1 ∧ three.fp.count = 2 ∧
    (nth three.rules 0).thinCount = 2 ∧ (nth three.rules 0).hits = 2 := by decide +kernel

/-- Chapter 7, worked sequence: RUN 0 to another starter displaces the youngest forwarded telegram of a full queue. -/
theorem test_worked_full_queue :
    let q : Port := { Port.atReset 1 0 with
      own := [orderTelegram 0x21 2 [15], orderTelegram 0x22 1 [1], orderTelegram 0x20 19 [1]]
      forwarded := List.replicate 29 (fromBay 40 0x50 []), select := .queueDrop, count := 1 }
    let a := Port.queueOrder (orderTelegram 0x21 2 [0]) q
    let b := Port.queueOrder (orderTelegram 0x20 29 [0]) a
    a.own.map (·.payload) = [[1], [1], [0]] ∧ a.forwarded.length = 29 ∧ b.own.length = 4 ∧ b.forwarded.length = 28 ∧
    b.count = 2 := by decide +kernel

/-- R185: PSEUDO's register after its seed ACE1h, eight steps by hand: 0, 1, 1, 1, 0, 0, 1, 0 enter from the left. -/
theorem test_pseudo_first_bits : pseudoStep 0xACE1 = 0x5670 ∧ pseudoStep 0x5670 = 0xAB38 := by decide

/-! ## Single events -/

/-- Chapter 1, two hoses on one pump: the first coupling claims the pump and queues SET, LAMP and RUN in that order. -/
theorem test_coupling_orders :
    let t := after (.tagReport (hd 2) [2, 7, 0, 0, 0, 0xDA, 0xE2, 1, 0]) plant
    t.fp.own.map (fun u => (u.head.dst, u.kind, u.payload)) =
      [(3, 0x21, [15]), (2, 0x22, [1]), (4, 0x20, [1])] ∧ (t.pump 0).count = 1 ∧ t.reserved = 1 := by decide +kernel

/-- Chapter 1, requests that cross in CLOSING: a trip keeps the end cause. -/
theorem test_trip_keeps_the_end_cause :
    ((after (.sumpReport (hd 7) [1]) closing).hose 0).mode = (closing.hose 0).mode ∧
    ((after (.sumpReport (hd 7) [1]) closing).zone 0).state = .tripped := by decide +kernel

/-- Chapter 9, a queue near its mark: the placing that takes the count from 47 to 48 raises QUEUE_HIGH. -/
theorem test_queue_high :
    Notice.queueHigh.isIn (placeRecord (blankRecord .refusal ⟨0, false⟩ ⟨0, false⟩) (filled 47).toPart).pendingNotices
      = true ∧
    Notice.queueHigh.isIn (placeRecord (blankRecord .refusal ⟨0, false⟩ ⟨0, false⟩) (filled 48).toPart).pendingNotices
      = false := by decide +kernel

/-- R82: the loss check's threshold, and half of it while recovering. -/
theorem test_loss_threshold :
    lossThreshold 80 1000000 false = 80000 ∧ lossThreshold 80 4000000 false = 120000 ∧
    lossThreshold 80 4000000 true = 60000 ∧ lossThreshold 80 (-5) false = 80000 := by decide

/-- R103: a reset is blocked by a wet sump and by a hose in CLOSING. -/
theorem test_reset_blocked :
    Part.resetBlocked (withDevice 6 (fun d => { d with wet := true }) plant).toPart 0 = true ∧
    Part.resetBlocked closing.toPart 0 = true ∧ Part.resetBlocked plant.toPart 0 = false := by decide +kernel

/-- R173: the clock wraps. -/
theorem test_clock_wraps : (after .bayClockTick { plant with clock := 0xFFFFFFFF }).clock = 0 := by decide +kernel

/-- R175, R26: RESTART ends a fill with its record and leaves LAY_UP. -/
theorem test_restart_ends_a_fill :
    let t := after (.restart 1) (filling .flowing)
    t.records.map (·.cause) = [11] ∧ t.reserved = 0 ∧ t.bayMode = .layUp ∧ (t.hose 0).mode = .idle := by decide +kernel

/-! ## Witnesses: a state and operands that meet each statement's hypotheses -/

/-- The plant with an event waiting. -/
def waiting (i : Instr) (s : State) : State := { s with pending := [i] }

/-- The upstream queue with `n` forwarded telegrams. -/
def crowded (n : Nat) (s : State) : State :=
  { s with up := { s.up with forwarded := List.replicate n (fromBay 40 0x50 []) } }

/-- The field port with a telegram in flight. -/
def sending (t : Telegram) (ours : Bool) (s : State) : State :=
  { s with fp := { s.fp with rx := .idle, flight := some ⟨t, ours⟩ } }

/-- Zone 1 TRIPPED, as a wet sump leaves it. -/
def tripped : State := after (.sumpReport (hd 7) [1]) plant

/-- Zone 1 in RECOVERY after a trip by command. -/
def recovering : State := after (.tripReset 1 (some 1)) (after (.tripZone 1 (some 1)) plant)

/-- Hose 1 OUT. -/
def hoseOut : State := withHose (fun x => { x with mode := .out }) plant

/-- One record, under serial 9. -/
def headed (s : State) : State :=
  { s with records := [{ blankRecord .refusal ⟨0, false⟩ ⟨0, false⟩ with serial := 9 }] }

/-- A run just begun. -/
def oneRun : ProvingRun := { start := ⟨0, false⟩, tally := { lastCode := 15 } }

/-- A node of the plant at a score and in a health state. -/
def scored (n : DevNo) (score : Nat) (health : Health) : State :=
  withDevice n (fun d => { d with score := score, health := health }) plant

/-- A session with a run in progress, with the pump's claim. -/
def running (r : ProvingRun) : State :=
  { provingWith [run1] (some r) with pumps := setNth plant.pumps 0 ⟨1, true⟩ }

/-- Whether a node is heard in a role, as a test can work it. -/
def heardAs (p : Part) (n : DevNo) (b : Binding) : Bool :=
  let d := p.device n
  decide (d.binding = b) && decide (d.score ≤ 128) &&
    decide (d.binding = .unbound → d.score = 0 ∧ d.health = .good) && decide (d.health = .good → d.score < 32) &&
    decide (d.health = .doubtful → 32 ≤ d.score ∧ d.score < 96) && decide (d.health = .lost → 16 ≤ d.score)

theorem hears_iff (p : Part) (n : DevNo) (b : Binding) : p.Hears n b ↔ heardAs p n b = true := by
  unfold Part.Hears Device.Scored heardAs
  simp only [Bool.and_eq_true, decide_eq_true_eq, and_assoc]

/-- A hose in one mode is in no other. -/
theorem not_proving_of_idle {x : Hose} (hx : x.mode = .idle) (ses : Session) : x.mode ≠ .proving ses := by
  rw [hx]; exact nofun

theorem not_proving_of_fill {x : Hose} {ph : Phase} {t : Transaction} (hx : x.mode = .fill ph t) (ses : Session) :
    x.mode ≠ .proving ses := by
  rw [hx]; exact nofun

theorem not_flowing_of_idle {x : Hose} (hx : x.mode = .idle) (t : Transaction) : x.mode ≠ .fill .flowing t := by
  rw [hx]; exact nofun

/-! ### The step and the promises -/

theorem witness_StepRunsTheFrontCommandOrIdles :
    (waiting .bayClockTick plant).pending = .bayClockTick :: [] ∧ plant.pending = [] := by decide

theorem witness_TheResetStateIsSafe : (filling .flowing).freeUses = 0 ∧ (filling .flowing).pending = [] := by decide

/-- A fill in progress, with a wet sump's report waiting: the state of every invariant's witness. -/
def trial : State := waiting (.sumpReport (hd 7) [1]) (filling .flowing)

theorem trial_step : step trial = .next (stepped trial) := rfl

theorem witness_LinesAndTripNoticesFollowTheZones :
    trial.LinesFollow ∧ trial.TripNoticesPend ∧ step trial = .next (stepped trial) := by
  refine ⟨?_, ?_, rfl⟩
  · unfold Part.LinesFollow; decide +kernel
  · unfold Part.TripNoticesPend; decide +kernel

theorem witness_TransmitQueuesNeverPassThirtyTwo :
    (crowded 32 trial).QueuesFit ∧ step (crowded 32 trial) = .next (stepped (crowded 32 trial)) := by
  refine ⟨?_, rfl⟩
  unfold Part.QueuesFit Port.Fits; decide +kernel

theorem witness_TheCursorAndTheThinCountersStayInside :
    trial.CursorInside ∧ trial.ThinInside ∧ step trial = .next (stepped trial) := by
  refine ⟨?_, ?_, rfl⟩
  · unfold Part.CursorInside; decide +kernel
  · have e : ∀ r, nth trial.rules r = PassRule.atReset := by decide +kernel
    intro r; rw [e r]; rfl

theorem witness_HealthScoresAndStatesAgree : trial.DevicesScored ∧ step trial = .next (stepped trial) := by
  refine ⟨?_, rfl⟩
  unfold Part.DevicesScored Device.Scored; decide +kernel

theorem witness_BookStockEqualsItsAccounts : trial.BooksBalance ∧ step trial = .next (stepped trial) := by
  refine ⟨?_, rfl⟩
  unfold Part.BooksBalance Tank.Balanced; decide +kernel

theorem trial_recordsFit : trial.RecordsFit := by
  refine ⟨by decide +kernel, by decide +kernel, by decide +kernel, ?_⟩
  intro h
  have e : ∀ h, (trial.hose h).mode = .fill .flowing txn ∨ (trial.hose h).mode = .out := by decide +kernel
  rcases e h with e | e <;> rw [e] <;> trivial

theorem witness_RecordsAndReservationsNeverPassSixtyFour :
    trial.RecordsFit ∧ step trial = .next (stepped trial) := ⟨trial_recordsFit, rfl⟩

theorem plant_machine {m : SlotNo} (e : m ≠ 0) : plant.machine m = MachineRec.empty :=
  (nth_setNth_other _ _ (Ne.symm e)).trans (nth_fill _ _ _)

theorem trial_machine {m : SlotNo} (e : m ≠ 0) : trial.machine m = MachineRec.empty :=
  (nth_setNth_other _ _ (Ne.symm e)).trans (plant_machine e)

theorem trial_machinesAgree : trial.MachinesAgree := by
  have hm : ∀ m, (trial.machine m).openHose = if m = 0 then some 0 else none := by
    intro m
    by_cases e : m = 0
    · rw [e]; decide +kernel
    · rw [if_neg e, trial_machine e]; rfl
  have hh : ∀ h, (trial.hose h).mode = if h = 0 then .fill .flowing txn else .out := by decide +kernel
  intro m h
  rw [hm, hh]
  by_cases a : m = 0 <;> by_cases b : h = 0 <;> simp only [a, b, if_true, if_false]
  · exact iff_of_true trivial rfl
  · exact iff_of_false (fun e => b (Option.some.inj e).symm) Bool.false_ne_true
  · exact iff_of_false nofun fun e => a (eq_of_beq e).symm
  · exact iff_of_false nofun Bool.false_ne_true

theorem witness_MachinesAndOpenTransactionsNameEachOther :
    trial.MachinesAgree ∧ step trial = .next (stepped trial) := ⟨trial_machinesAgree, rfl⟩

theorem witness_PumpAndOpenHoseCountsCountTheirHoses :
    trial.PumpsAgree ∧ trial.OpenHosesAgree ∧ step trial = .next (stepped trial) := by
  refine ⟨?_, ?_, rfl⟩
  · unfold Part.PumpsAgree; decide +kernel
  · unfold Part.OpenHosesAgree; decide +kernel

theorem witness_NoHoseOfATrippedZoneDispenses :
    trial.OpenHosesAgree ∧ trial.FillsOnOwnTank ∧ trial.OutTanksClosed ∧ trial.TrippedHosesShut ∧ trial.OrdersHeld ∧
    step trial = .next (stepped trial) := by
  refine ⟨?_, ?_, ?_, ?_, ?_, rfl⟩
  · unfold Part.OpenHosesAgree; decide +kernel
  · have e : ∀ h, (trial.hose h).mode = .fill .flowing txn ∧ (trial.hose h).cfg.tank = some 0 ∨
        (trial.hose h).mode = .out := by decide +kernel
    intro h ph t hm
    rcases e h with ⟨e, c⟩ | e <;> rw [e] at hm <;> cases hm
    exact c
  · unfold Part.OutTanksClosed; decide +kernel
  · unfold Part.TrippedHosesShut; decide +kernel
  · have e : trial.up.own ++ trial.up.forwarded ++ trial.fp.own ++ trial.fp.forwarded = [] := by decide +kernel
    intro t h
    simp_all

/-- R98: a fill in CLOSING whose net is 1 mL above its cap and allowance, in a TRIPPED zone, and a reset that waits. -/
def overrun : State :=
  waiting (.tripReset 1 (some 1)) (withHose (fun x => { x with
    mode := .fill (.closing .capReached ⟨5, false⟩) { txn with tally := { lastCode := 0, net := 40001 } } })
    (withZone (fun x => { x with state := .tripped, firstCause := .overrun }) closing))

theorem witness_NoHoseOfATrippedZoneDispenses_overrun :
    overrun.OpenHosesAgree ∧ overrun.FillsOnOwnTank ∧ overrun.OutTanksClosed ∧ overrun.TrippedHosesShut ∧
    overrun.OverrunsTripped ∧ trial.OverrunsTripped ∧ step overrun = .next (stepped overrun) := by
  have e : ∀ h, (overrun.hose h).cfg.tank = some 0 ∧ overrun.hoseTripped h = true ∧ (overrun.hose h).mode =
      .fill (.closing .capReached ⟨5, false⟩) { txn with tally := { lastCode := 0, net := 40001 } } ∨
      (overrun.hose h).mode = .out := by decide +kernel
  refine ⟨?_, ?_, ?_, ?_, ?_, ?_, rfl⟩
  · unfold Part.OpenHosesAgree; decide +kernel
  · intro h ph t hm
    rcases e h with ⟨c, -, e⟩ | e <;> rw [e] at hm <;> cases hm
    exact c
  · unfold Part.OutTanksClosed; decide +kernel
  · unfold Part.TrippedHosesShut; decide +kernel
  · intro h ph t hm _
    rcases e h with ⟨-, c, -⟩ | e
    · exact c
    · rw [e] at hm; cases hm
  · have d : ∀ h, (trial.hose h).mode = .fill .flowing txn ∨ (trial.hose h).mode = .out := by decide +kernel
    intro h ph t hm hov
    rcases d h with d | d <;> rw [d] at hm <;> cases hm
    exact absurd hov (by decide)

/-- R16, R98: a sample of 4,118 mL takes a fill of cap and allowance 40,000 mL from 36,000 past the figure, and its zone trips
in that event; the reset is then refused while the fill is in CLOSING. -/
theorem test_overrun_trips_its_zone :
    let s := withHose (fun x => { x with mode := .fill .flowing { txn with tally := { lastCode := 15, net := 36000 } } })
      (filling .flowing)
    let t := after (.meterSample (hd 1) (word 42600 ++ word 1000 ++ [0x48, 0xFF, 0])) s
    (t.hose 0).mode.tally.map (·.net) = some 40118 ∧ (t.zone 0).state = .tripped ∧ (t.zone 0).firstCause = .overrun ∧
    (t.hose 0).mode.isClosing = true ∧ ((stepped overrun).zone 0).state = .tripped := by decide +kernel

/-! ### Telegrams and COMMANDs -/

theorem witness_TelegramBytesReadBack :
    ({ head := ⟨63, 3, 63, 3⟩, kind := 0xFF, payload := List.replicate 12 0xFF } : Telegram).payload.length ≤ 12 := by
  decide

theorem witness_CommandPayloadsReadBack :
    Instr.wellFormed (.write 63 (List.replicate 11 0xFF)) = true ∧
    encodeCommand (.write 63 (List.replicate 11 0xFF)) = some (63, 0x04 :: List.replicate 11 0xFF) := by decide

theorem witness_ARawCommandRunsAsItsRow :
    let t := fromBay 62 0x40 [0x28]
    t.head.dst = plant.up.node ∧ t.head.cls = 1 ∧ t.kind = 0x40 := by decide

theorem witness_EveryCommandGetsExactlyOneReply :
    let s := crowded 30 (inLayUp plant)
    encodeCommand (.restart 1) = some (1, [0x28]) ∧ s.up.own.length + s.up.forwarded.length ≤ 30 := by decide

theorem witness_ShortCommandsAndBadNumbersHaveNoEffect :
    ((9 : Byte) = 0 ∨ 8 < (9 : Byte).toNat) ∧ ((7 : Byte) = 0 ∨ 6 < (7 : Byte).toNat) := by decide

/-! ### The ports -/

theorem witness_PortsTakeWhatTheLineBrings_receipts :
    receive [⟨0x3E, true⟩, ⟨1, false⟩] = .crcError ∧ receive (sound [0x3E, 1, 0x40, 13, 0x23, 0, 0]) = .lengthError ∧
    (fromBay 3 0x21 []).head.dst ≠ plant.up.node ∧ (fromBay 62 0x40 []).head.dst = plant.up.node ∧
    (let t : Telegram := ⟨⟨62, 2, 1, 0⟩, 0x40, []⟩
     t.head.dst = plant.up.node ∧ ¬(t.head.cls = 1 ∧ t.kind = 0x40)) := by decide +kernel

theorem witness_PortsTakeWhatTheLineBrings_states :
    let heard (n : Nat) : State := { plant with up := { plant.up with rx := .receiving (List.replicate n 0xAA) } }
    (plant.port .up).rx = .idleWait ∧ (plant.port .up).flight = none ∧
    (plant.port .up).own = [] ∧ (plant.port .up).forwarded = [] ∧
    ((crowded 1 plant).port .up).flight = none ∧ ((crowded 1 plant).port .up).rx = .idleWait ∧
    (((crowded 1 plant).port .up).own ≠ [] ∨ ((crowded 1 plant).port .up).forwarded ≠ []) ∧
    ((heard 17).port .up).flight = none ∧ ((heard 17).port .up).rx = .receiving (List.replicate 17 0xAA) ∧
    ((heard 18).port .up).rx = .receiving (List.replicate 18 0xAA) ∧
    ((sending (fromBay 40 0x50 []) false plant).port .fp).flight ≠ none := by decide

theorem witness_SendingTakesTheHeadAndEndsInIdleWait_start :
    let t := fromBay 40 0x50 []
    let s := after (.idleWaitExpiry .up) (crowded 1 plant)
    let u : State := { s with up := { s.up with own := [t] } }
    (s.port .up).rx = .idle ∧ (s.port .up).flight = none ∧ (s.port .up).own = [] ∧ (s.port .up).forwarded = t :: [] ∧
    (u.port .up).rx = .idle ∧ (u.port .up).flight = none ∧ (u.port .up).own = t :: [] := by decide

theorem witness_SendingTakesTheHeadAndEndsInIdleWait_end :
    let t := orderTelegram 0x21 2 [15]
    let e := orderTelegram 0x23 0 [2, 3]
    let f : Flight := ⟨t, true⟩
    ((sending t true plant).port .fp).flight = some f ∧
    ¬((PortId.fp = .fp) ∧ f.ours = true ∧ f.telegram.kind = 0x23) ∧
    (sending e true testing).test = some lineTest ∧ e.kind = 0x23 ∧
    (sending e true testing).fp.flight = some { telegram := e, ours := true } := by decide

/-- With 31 orders waiting and one to be replaced, there is room; with one that stays, it is displaced; with 32, the new
one is lost. -/
theorem witness_AnOrderReplacesWhatWaitsForItsNode :
    let t := orderTelegram 0x20 3 [0]
    let own (n : Nat) := List.replicate n (orderTelegram 0x21 4 [1])
    let keeps (n : Nat) := (own n).filter (fun u => decide ¬(u.kind = t.kind ∧ u.head.dst = t.head.dst)) = own n
    let kept (ts : List Telegram) := ts.filter (fun u => decide ¬(u.kind = t.kind ∧ (u.head.dst = t.head.dst ∨
      (t.kind = 0x20 ∨ t.kind = 0x21) ∧ u.head.dst = 63)))
    keeps 31 ∧ kept [fromBay 63 0x20 [1]] = [] ∧ 31 + 0 < 32 ∧
    kept [fromBay 40 0x50 []] = [] ++ [fromBay 40 0x50 []] ∧ 32 ≤ 31 + 1 ∧ keeps 32 ∧ kept [] = [] ∧ 32 ≤ 32 := by
  decide +kernel

/-! ### The Pass filter -/

theorem witness_TheFirstMatchingRuleDecidesAndOnlyTheFilterChanges :
    let rule : PassRule := { PassRule.atReset with inUse := true, action := .thin 5, thinCount := 9, hits := 65535 }
    let s : State := { plant with rules := setNth plant.rules 31 rule }
    let t : Telegram := ⟨hd 1, 0x10, []⟩
    t.kind ≠ 0x20 ∧ t.kind ≠ 0x21 ∧ s.isolated (comparedNode .fieldToUp t) = false ∧
    s.filter.acceptAll .fieldToUp = false ∧ (nth s.rules 31).matches .fieldToUp t = true ∧
    (∀ j, j < 31 → (nth s.rules j).matches .fieldToUp t = false) := by decide +kernel

theorem witness_TheFirstMatchingRuleDecidesAndOnlyTheFilterChanges_others :
    let isolated := withHose (fun x => { x with mode := .out, cfg := { x.cfg with handling := .isolate } }) plant
    let open_ : State := { plant with filter := { plant.filter with acceptUpward := true } }
    let t : Telegram := ⟨hd 1, 0x10, []⟩
    deviceOf t.head.src = some 0 ∧ (isolated.device 0).binding = .meter 0 ∧ (isolated.hose 0).mode = .out ∧
    (isolated.hose 0).cfg.handling = .isolate ∧
    (∀ h, (open_.device 0).binding = .meter h → (open_.hose h).mode ≠ .out) ∧
    (open_.device 0).binding ≠ .reader 0 ∧ open_.filter.acceptUpward = true ∧ plant.filter.acceptUpward = false ∧
    (∀ j, (nth plant.rules j).matches .fieldToUp t = false) ∧
    plant.guardFor 40 = none := by decide +kernel

/-- A rule for kinds 10h to 1Fh from node 2 matches kind 12h from it, and not kind 21h nor node 6; a queue of 31 has room
for a forwarded telegram, and one of 32 has none. -/
theorem witness_TheFirstMatchingRuleDecidesAndOnlyTheFilterChanges_matching :
    let r : PassRule := { PassRule.atReset with inUse := true, kindValue := 0x1A, kindMask := 0xF0, nodeValue := 2, nodeMask := 63 }
    let q (n : Nat) : Port := (crowded n plant).up
    r.matches .fieldToUp ⟨hd 2, 0x12, []⟩ = true ∧ r.matches .fieldToUp ⟨hd 2, 0x21, []⟩ = false ∧
    r.matches .fieldToUp ⟨hd 6, 0x12, []⟩ = false ∧ r.matches .upToField (fromBay 2 0x12 []) = false ∧
    (q 31).own.length + (q 31).forwarded.length < 32 ∧ 32 ≤ (q 32).own.length + (q 32).forwarded.length ∧
    ((q 31).placeForwarded (fromBay 9 1 [])).forwarded.getLast? = some (fromBay 9 1 []) ∧
    (q 32).placeForwarded (fromBay 9 1 []) = q 32 := by decide +kernel

/-- What the guard's statement asks of a telegram and a state, but for the condition. -/
def ordered (t : Telegram) (n : DevNo) (s : State) : Prop :=
  t.head.dst ≠ s.up.node ∧ (t.kind = 0x20 ∨ t.kind = 0x21) ∧ deviceOf t.head.dst = some n ∧ t.head.dst ≠ 63

theorem witness_TheGuardDropsOrdersWhereThePartControls_valve :
    ordered (fromBay 3 0x21 [15]) 2 tripped ∧ (tripped.device 2).binding = .valve 0 ∧ tripped.hoseTripped 0 = true ∧
    ordered (fromBay 3 0x21 [15]) 2 (filling .ready) ∧ ((filling .ready).device 2).binding = .valve 0 ∧
    (filling .ready).hoseTripped 0 = false ∧ ((filling .ready).hose 0).mode ≠ .idle ∧
    ((filling .ready).hose 0).mode ≠ .out := by
  unfold ordered; decide +kernel

theorem witness_TheGuardDropsOrdersWhereThePartControls_tank :
    ordered (fromBay 4 0x20 [1]) 3 tripped ∧ (tripped.device 3).binding = .starter 0 ∧
    (tripped.zone (tripped.tank 0).cfg.zone).state = .tripped ∧
    ordered (fromBay 4 0x20 [1]) 3 (filling .ready) ∧ ((filling .ready).device 3).binding = .starter 0 ∧
    ((filling .ready).zone ((filling .ready).tank 0).cfg.zone).state ≠ .tripped ∧
    0 < ((filling .ready).tank 0).openHoses ∧
    ordered (fromBay 5 0x21 [0]) 4 receiving ∧ (receiving.device 4).binding = .inlet 0 ∧
    (receiving.zone (receiving.tank 0).cfg.zone).state ≠ .tripped ∧ ¬(0 < (receiving.tank 0).openHoses) ∧
    (receiving.tank 0).state = .receiving := by
  unfold ordered; decide +kernel

/-- To all nodes, node 3 is the lowest covered one in a TRIPPED zone; nothing of the plant at rest is covered. -/
theorem witness_TheGuardDropsOrdersWhereThePartControls_all :
    (fromBay 63 0x21 [15]).head.dst = 63 ∧ (tripped.device 2).binding = .valve 0 ∧ tripped.hoseTripped 0 = true ∧
    (tripped.device 0).binding = .meter 0 ∧ (tripped.device 1).binding = .reader 0 ∧
    (fromBay 3 0x21 [15]).head.dst ≠ 63 ∧ deviceOf 3 = some 2 ∧ (plant.device 2).binding = .valve 0 ∧
    plant.hoseTripped 0 = false ∧ (plant.hose 0).mode = .idle := by decide +kernel

/-! ### Field telegrams -/

theorem plant_hears :
    plant.Hears 0 (.meter 0) ∧ plant.Hears 1 (.reader 0) ∧ plant.Hears 2 (.valve 0) ∧ plant.Hears 3 (.starter 0) ∧
    plant.Hears 4 (.inlet 0) ∧ plant.Hears 5 (.gauge 0) ∧ plant.Hears 6 (.sump 0) ∧ plant.Hears 7 (.estop (some 0)) ∧
    plant.Hears 8 (.estop none) := by
  simp only [hears_iff]; decide +kernel

/-- Every role is heard in every health state, at the ends of its scores: GOOD at 0 and 31, DOUBTFUL at 32, where the
telegram makes it GOOD, and at 95, LOST at 16, where it makes it GOOD, and at 128. An unbound node is heard too. -/
theorem scored_hears :
    (∀ n : DevNo, n.val < 9 → (scored n 31 .good).Hears n (plant.device n).binding ∧
      (scored n 32 .doubtful).Hears n (plant.device n).binding ∧ (scored n 95 .doubtful).Hears n (plant.device n).binding ∧
      (scored n 16 .lost).Hears n (plant.device n).binding ∧ (scored n 128 .lost).Hears n (plant.device n).binding) ∧
    plant.Hears 61 .unbound ∧
    ((scored 0 32 .doubtful).device 0).heardHealth = .good ∧ ((scored 0 33 .doubtful).device 0).heardHealth = .doubtful ∧
    ((scored 0 16 .lost).device 0).heardHealth = .good ∧ ((scored 0 17 .lost).device 0).heardHealth = .lost ∧
    (plant.device 0).heardHealth = .good := by
  simp only [hears_iff]; decide +kernel

/-- R120: the telegram at score 32, and at 16, makes the node GOOD; the one before does not. -/
theorem test_health_returns :
    let heard (score : Nat) (h : Health) := ((after (.sumpReport (hd 7) [0]) (scored 6 score h)).device 6).health
    heard 32 .doubtful = .good ∧ heard 33 .doubtful = .doubtful ∧ heard 16 .lost = .good ∧ heard 17 .lost = .lost := by
  decide +kernel

/-- R31, R122: METER and LEVEL of a LOST node change nothing but the entry; a wet sump trips from a LOST sensor too. -/
theorem test_lost_nodes :
    let level := word 1740 ++ word 30 ++ [0x88, 0xFF, 0]
    ((after (.meterSample (hd 1) (word 42600 ++ word 1000 ++ [0x48, 0xFF, 0])) (scored 0 17 .lost)).hose 0) = plant.hose 0 ∧
    ((after (.levelReport (hd 6) level) (scored 5 128 .lost)).tank 0) = plant.tank 0 ∧
    ((after (.sumpReport (hd 7) [1]) (scored 6 128 .lost)).zone 0).state = .tripped := by decide +kernel

theorem witness_ValveInletAndStarterReportsAreTaken :
    deviceOf (hd 3).src = some 2 ∧ plant.Hears 2 (.valve 0) ∧ deviceOf (hd 5).src = some 4 ∧ plant.Hears 4 (.inlet 0) ∧
    deviceOf (hd 4).src = some 3 ∧ plant.Hears 3 (.starter 0) ∧
    ((filling .ready).device 3).binding = .starter 0 ∧ 0 < ((filling .ready).pump 0).count ∧
    (plant.hose 0).cfg.tank = some 0 ∧ (plant.hose 1).cfg.tank ≠ some 0 := by
  simp only [hears_iff]; decide +kernel

theorem witness_ValveInletAndStarterReportsAreTaken_stop :
    (plant.pump 0).count = 0 ∧ 0 < ((filling .paused).pump 0).count ∧
    ((filling .paused).hose 0).cfg.tank = some 0 ∧ ((filling .paused).hose 0).mode = .fill .paused txn ∧
    ((filling .paused).hose 0).mode.isClosing = false ∧
    0 < ((running oneRun).pump 0).count ∧ ((running oneRun).hose 0).cfg.tank = some 0 ∧
    ((running oneRun).hose 0).mode = .proving { planned := 3, can := 200000, ended := [run1], run := some oneRun } ∧
    ((running oneRun).hose 7).cfg.tank ≠ some 0 := by decide +kernel

/-- R12: running confirms the pump and ends the wait of a fill, and of a run. -/
theorem test_pump_confirmed :
    let s := withHose (fun x => { x with mode := .fill .ready { txn with tally := { lastCode := 15, pumpWait := true } } })
      (filling .ready)
    let t := after (.starterStatus (hd 4) [1]) s
    let u := after (.starterStatus (hd 4) [1]) (running { oneRun with tally := { lastCode := 15, pumpWait := true } })
    t.hose 0 = (filling .ready).hose 0 ∧ t.pump 0 = ⟨1, true⟩ ∧ (u.hose 0).mode = ((running oneRun).hose 0).mode ∧
    t.pump 1 = s.pump 1 := by decide +kernel

/-- R29, R72, R94, R136: payloads one byte too short, a nozzle state of 4 and empty reports change nothing but the entry. -/
theorem test_short_payloads :
    (([0, 1, 2, 3, 4, 5] : List Byte).length < 7 ∧ ([2, 7, 0, 0, 0, 0xDA, 0xE2, 1] : List Byte).length < 9 ∧
      3 < (4 : Byte).toNat) ∧
    (∀ c ∈ ([.meterSample (hd 1) [0, 1, 2, 3, 4, 5], .levelReport (hd 6) [0, 1, 2, 3, 4, 5],
        .tagReport (hd 2) [2, 7, 0, 0, 0, 0xDA, 0xE2, 1], .tagReport (hd 2) [4, 7, 0, 0, 0, 0xDA, 0xE2, 1, 0],
        .sumpReport (hd 7) [], .estopReport (hd 8) [], .valveStatus (hd 3) [], .inletStatus (hd 5) [],
        .starterStatus (hd 4) []] : List Instr),
      (after c plant).hoses = plant.hoses ∧ (after c plant).tanks = plant.tanks ∧ (after c plant).zones = plant.zones ∧
      (after c plant).pumps = plant.pumps ∧ (after c plant).records = [] ∧
      (after c plant).up.forwarded.length = 1) := by decide +kernel

theorem witness_SumpAndEstopReportsTripOnTheirChange :
    deviceOf (hd 7).src = some 6 ∧ plant.Hears 6 (.sump 0) ∧ deviceOf (hd 8).src = some 7 ∧
    plant.Hears 7 (.estop (some 0)) ∧ deviceOf (hd 9).src = some 8 ∧ plant.Hears 8 (.estop none) := by
  simp only [hears_iff]; decide +kernel

theorem witness_BaselineSamplesAndStrayFlowAreWorked_baseline :
    deviceOf (hd 1).src = some 0 ∧ plant.Hears 0 (.meter 0) ∧ (plant.hose 0).baseline = none ∧
    (plant.hose 0).mode.tally = none := by
  simp only [hears_iff]; decide +kernel

/-- A pulse delta at the ceiling: count 39000 after 35000. -/
theorem witness_BaselineSamplesAndStrayFlowAreWorked_stray :
    let s := withHose (fun x => { x with nozzle := .coupled, baseline := some 35000 }) plant
    deviceOf (hd 1).src = some 0 ∧ s.Hears 0 (.meter 0) ∧ (s.hose 0).baseline = some 35000 ∧
    (s.hose 0).mode.tally = none ∧ (s.hose 0).cfg.tank = some 0 ∧ s.tankProduct 0 = some (0, ⟨.fuel, 830, 150⟩) ∧
    ProductClass.fuel ≠ .none ∧ 0 < (s.hose 0).cfg.pulseWeight ∧ curveOk (s.hose 0).cfg.curve = true ∧
    ((s.hose 0).nozzle = .coupled ∨ (s.hose 0).nozzle = .coupledShut) ∧
    ((join16 0x58 0x98).toNat + 65536 - 35000) % 65536 = (s.hose 0).cfg.pulseCeiling := by
  simp only [hears_iff]; decide +kernel

/-- A delta at the ceiling and one above it. -/
theorem witness_BaselineSamplesAndStrayFlowAreWorked_samples :
    let s := withHose (fun x => { x with baseline := some 41000 }) plant
    deviceOf (hd 1).src = some 0 ∧ s.Hears 0 (.meter 0) ∧ (s.device 0).health = .good ∧
    (0xFE : Byte).getLsbD 0 = false ∧ (1 : Byte).getLsbD 0 = true ∧ (s.hose 0).baseline = some 41000 ∧
    (s.meterContext 0).map (fun c => (c.tank, c.product, c.weight, c.ceiling, c.curve)) =
      some (0, ⟨.fuel, 830, 150⟩, 2500, 4000, (s.hose 0).cfg.curve) ∧
    4000 < (45001 + 65536 - 41000) % 65536 ∧ (45000 + 65536 - 41000) % 65536 ≤ 4000 ∧
    ((withHose (fun x => { x with cfg := { x.cfg with tank := none } }) s).meterContext 0).isNone = true := by
  simp only [hears_iff]; decide +kernel

theorem witness_BaselineSamplesAndStrayFlowAreWorked_contexts :
    let s := withHose (fun x => { x with cfg := { x.cfg with pulseWeight := 0 } }) plant
    let u := withHose (fun x => { x with cfg := { x.cfg with pointCount := 0 } }) plant
    let v := withTank (fun x => { x with cfg := { x.cfg with product := some 1 } }) plant
    let w := withTank (fun x => { x with cfg := { x.cfg with product := none } }) plant
    (∀ k, (plant.hose 7).cfg.tank ≠ some k) ∧ (plant.hose 0).cfg.tank = some 0 ∧ (s.hose 0).cfg.tank = some 0 ∧
    (s.hose 0).cfg.pulseWeight = 0 ∧ (u.hose 0).cfg.pointCount = 0 ∧ w.tankProduct 0 = none ∧
    v.tankProduct 0 = some (1, ⟨.none, 0, 150⟩) ∧ plant.tankProduct 0 = some (0, ⟨.fuel, 830, 150⟩) ∧
    0 < (plant.hose 0).cfg.pulseWeight ∧ 0 < (plant.hose 0).cfg.pointCount := by decide +kernel

/-- The third jump of a fill and of a run. -/
theorem witness_BaselineSamplesAndStrayFlowAreWorked_jumps :
    let t : Transaction := { txn with tally := { txn.tally with jumps := 2 } }
    let s := withHose (fun x => { x with mode := .fill .flowing t }) (filling .flowing)
    let u := withHose (fun x => { x with mode := .fill (.closing .full ⟨1, false⟩) t }) (filling .flowing)
    let r : ProvingRun := { oneRun with tally := { oneRun.tally with jumps := 2 } }
    (plant.hose 0).mode.tally = none ∧ (s.hose 0).mode = .fill .flowing t ∧ t.tally.jumps = 2 ∧
    (s.hose 0).mode.isClosing = false ∧ (u.hose 0).mode.isClosing = true ∧ txn.tally.jumps ≠ 2 ∧
    ((running r).hose 0).mode = .proving { planned := 3, can := 200000, ended := [run1], run := some r } ∧
    r.tally.jumps = 2 ∧ oneRun.tally.jumps ≠ 2 := by decide +kernel

theorem witness_ResiduesCarryRemaindersAndFactorsStayInRange :
    let m : MeterSet := { a := 99999, b := 999, c := 999999, d := 999 }
    m.a < 100000 ∧ m.b < 1000 ∧ m.c < 1000000 ∧ m.d < 1000 ∧ curveOk curve = true := by decide

theorem witness_ACountedSampleMovesFillAndBookAlike :
    ((filling .flowing).hose 0).mode = .fill .flowing txn ∧ ((filling .flowing).hose 0).nozzle = .coupled ∧
    curveOk ((filling .flowing).hose 0).cfg.curve = true := by decide +kernel

theorem witness_ACountedSampleMovesFillAndBookAlike_run :
    let s := withHose (fun x => { x with nozzle := .coupledShut }) (running oneRun)
    (s.hose 0).nozzle = .coupledShut ∧ curveOk curve = true ∧
    (s.hose 0).mode = .proving { planned := 3, can := 200000, ended := [run1], run := some oneRun } := by decide +kernel

/-- The nozzle LIFTED and 4,118 mL worked under a drip limit of 5 L: 882 mL before it stay at the limit, 883 mL pass it. -/
def dripping (before : Nat) (s : State) : State :=
  withHose (fun x => { x with nozzle := .lifted, uncoupled := before, baseline := some 41000,
                              cfg := { x.cfg with dripLimit := 5 } }) s

theorem witness_ACountedSampleMovesFillAndBookAlike_uncoupled :
    let sample : Instr := .meterSample (hd 1) (word 42600 ++ word 1000 ++ [0x48, 0xFF, 0])
    let below := after sample (dripping 882 (filling .ready))
    let above := after sample (dripping 883 (filling .ready))
    let run := after sample (dripping 883 (running oneRun))
    ((dripping 883 (filling .ready)).hose 0).mode = .fill .ready txn ∧
    ((dripping 883 (filling .ready)).hose 0).nozzle = .lifted ∧
    ((dripping 883 (filling .ready)).hose 0).uncoupledRaised = false ∧
    ((dripping 883 (filling .ready)).zone 0).state ≠ .tripped ∧ (dripping 883 (filling .ready)).hoseZone 0 = some 0 ∧
    ((below.hose 0).uncoupled, (below.hose 0).uncoupledRaised, (below.zone 0).state) = (5000, false, .normal) ∧
    ((above.hose 0).uncoupled, (above.hose 0).uncoupledRaised, (above.zone 0).state) = (5001, true, .tripped) ∧
    (above.hose 0).mode.isClosing = true ∧ (above.hose 0).mode.tally.map (·.net) = some 4118 ∧
    (run.zone 0).firstCause = .uncoupledFlow ∧ (run.hose 0).mode.run = none ∧
    run.records.map (·.body) = [.prove 4007 4118 2 (-184)] := by decide +kernel

/-- A fill at its cap, above cap and allowance, and below it at a taper step. -/
def tallied (ph : Phase) (net : Nat) (steps : Nat) : State :=
  withHose (fun x => { x with
    mode := .fill ph { txn with tally := { lastCode := 15, net := net } }
    cfg := { x.cfg with stepCount := steps, steps := setNth x.cfg.steps 0 ⟨5, 6⟩ } }) (filling ph)

theorem witness_ASampleEndsTripsOrThrottlesTheFill_cap :
    (plant.hoseZone 0 = some 0) ∧ txn.cap ≤ 20000 ∧ 40000 ≤ txn.cap + txn.allowance ∧
    txn.cap + txn.allowance < 40001 ∧
    ((tallied .flowing 40001 0).hose 0).mode = .fill .flowing { txn with tally := { lastCode := 15, net := 40001 } } ∧
    (tallied .flowing 40001 0).hoseZone 0 = some 0 := by decide +kernel

theorem witness_ASampleEndsTripsOrThrottlesTheFill_taper :
    let s := tallied .flowing 15000 1
    let r := tallied .ready 0 0
    s.hoseZone 0 = some 0 ∧ (s.hose 0).cfg.taper = [⟨5, 6⟩] ∧ 15000 < txn.cap ∧ txn.cap ≤ 15000 + 5 * 1000 ∧ 6 < 15 ∧
    ((tallied .flowing 14999 1).hose 0).cfg.taper = [⟨5, 6⟩] ∧ 14999 + 5 * 1000 < txn.cap ∧
    (s.hose 0).cfg.openCode = 15 ∧ r.hoseZone 0 = some 0 ∧
    (r.hose 0).mode = .fill .ready { txn with tally := { lastCode := 15, net := 0 } } ∧ (r.hose 0).cfg.taper = [] ∧
    (r.hose 0).cfg.openCode = 15 := by decide +kernel

/-- Every phase, at the cap, at cap and allowance, and above them. -/
theorem witness_ASampleEndsTripsOrThrottlesTheFill_phases :
    let at_ (ph : Phase) (net : Nat) := ((tallied ph net 0).hose 0).mode =
      .fill ph { txn with tally := { lastCode := 15, net := net } }
    at_ .flowing 20000 ∧ txn.cap ≤ 20000 ∧ ¬(txn.cap + txn.allowance < 20000) ∧ at_ .paused 40000 ∧ at_ .paused 40001 ∧
    at_ .flowing 19999 ∧ 19999 < txn.cap ∧ at_ .ready 0 ∧ at_ (.closing .full ⟨1, false⟩) 40001 ∧
    txn.cap + txn.allowance < 40001 ∧ at_ (.closing .full ⟨1, false⟩) 40000 ∧
    ¬(txn.cap + txn.allowance < 40000) := by decide +kernel

/-- A run at its can volume and just below it, and a step whose code is not below the last one sent. -/
theorem witness_ASampleEndsTripsOrThrottlesTheFill_runs :
    let r (gross : Nat) (code : Nat) : ProvingRun :=
      { oneRun with flowed := true, tally := { lastCode := code, gross := gross } }
    let at_ (x : ProvingRun) : State := withHose (fun y => { y with cfg := { y.cfg with
      stepCount := 1, steps := setNth y.cfg.steps 0 ⟨5, 6⟩ } }) (running x)
    ((at_ (r 200000 15)).hose 0).mode =
      .proving { planned := 3, can := 200000, ended := [run1], run := some (r 200000 15) } ∧
    (at_ (r 199999 15)).hoseZone 0 = some 0 ∧ ((at_ (r 199999 6)).hose 0).cfg.taper = [⟨5, 6⟩] ∧ 199999 < 200000 ∧
    (200000 : Int) - 199999 ≤ ((5 * 1000 : Nat) : Int) ∧ 6 < (r 199999 15).tally.lastCode ∧
    (r 199999 6).tally.lastCode ≤ 6 ∧ ¬(200000 : Int) - 194999 ≤ ((5 * 1000 : Nat) : Int) ∧
    (r 194999 15).tally.lastCode ≤ ((at_ (r 194999 15)).hose 0).cfg.openCode ∧ (r 0 15).flowed = true ∧
    oneRun.flowed = false ∧ ((running oneRun).hose 0).mode =
      .proving { planned := 3, can := 200000, ended := [run1], run := some oneRun } ∧
    (plant.hose 0).mode.tally = none := by decide +kernel

theorem witness_ASampleEndsTripsOrThrottlesTheFill_uncoupled :
    let s := withHose (fun x => { x with uncoupled := 1000 }) plant
    s.hoseZone 0 = some 0 ∧ ((s.hose 0).nozzle = .holstered ∨ (s.hose 0).nozzle = .lifted) ∧
    (s.hose 0).uncoupledRaised = false ∧ (s.hose 0).uncoupled + 4294966295 ≤ 4294967295 ∧
    (s.hose 0).cfg.dripLimit * 1000 < (s.hose 0).uncoupled + 1001 ∧
    (s.hose 0).uncoupled + 1000 ≤ (s.hose 0).cfg.dripLimit * 1000 := by decide +kernel

theorem witness_AGoodLevelSetsTheReadingsByTheTable :
    let s := withTank (fun x => { x with state := .outOfService }) plant
    deviceOf (hd 6).src = some 5 ∧ s.Hears 5 (.gauge 0) ∧ (0xFE : Byte).getLsbD 0 = false ∧
    (s.tank 0).state = .outOfService ∧ (s.tank 0).rest = .none ∧ s.tankProduct 0 = some (0, ⟨.fuel, 830, 150⟩) ∧
    ProductClass.fuel ≠ .none ∧ (s.tank 0).cfg.tableValid = true := by
  simp only [hears_iff]; decide +kernel

theorem witness_AGoodLevelSetsTheReadingsByTheTable_telegrams :
    (scored 5 33 .doubtful).Hears 5 (.gauge 0) ∧ (1 : Byte).getLsbD 0 = true ∧ plant.Hears 5 (.gauge 0) ∧
    (plant.tank 0).state ≠ .outOfService ∧ (receiving.tank 0).state ≠ .outOfService ∧
    (plant.tank 1).cfg.tableValid = false ∧
    (withTank (fun x => { x with cfg := { x.cfg with product := none } }) plant).tankProduct 0 = none ∧
    ((withTank (fun x => { x with cfg := { x.cfg with product := none } }) plant).tank 0).cfg.tableValid = true := by
  simp only [hears_iff]; decide +kernel

/-- The gauge's mark: a zone that is NORMAL, one whose timer runs, and one whose last mark this is. -/
theorem witness_AGoodLevelSetsTheReadingsByTheTable_marks :
    let s := withZone (fun x => { x with timer := .expired }) recovering
    let u := withTank (fun x => { x with state := .inService }) s
    (plant.zone (plant.tank 0).cfg.zone).state ≠ .recovery ∧
    (recovering.zone (recovering.tank 0).cfg.zone).state = .recovery ∧
    (recovering.zone 0).timer ≠ .expired ∧ (u.zone (u.tank 0).cfg.zone).state = .recovery ∧ (u.zone 0).timer = .expired ∧
    (∀ j, (u.tank j).cfg.zone = 0 → (u.tank j).state ≠ .outOfService →
      ((u.zone 0).marks ||| ((1 : BitVec 6) <<< (0 : TankNo).val)).getLsbD j.val = true) := by decide +kernel

/-- R82, R106: the LEVEL that takes its zone from RECOVERY to NORMAL is checked for loss at half the threshold: 40 L and
one millilitre trips the zone, 40 L does not. -/
theorem test_loss_while_recovering :
    let s (g0 : Nat) : State := { withTank (fun x => { x with loss := .opened g0 39912000 true, cfg := { x.cfg with lossFloor := 80 } }) plant with
      zones := setNth plant.zones 0 { plant.zone 0 with state := .recovery, timer := .expired } }
    let t (g0 : Nat) := after (.levelReport (hd 6) (word 1740 ++ word 30 ++ [0x88, 0xFF, 0])) (s g0)
    ((t (39890348 + 40000)).zone 0).state = .normal ∧
    ((t (39890348 + 40001)).zone 0).state = .tripped := by decide +kernel

/-- The loss window at and above its threshold of 80 L, and the windows' other cases. -/
theorem witness_AGoodLevelSetsTheReadingsByTheTable_windows :
    let s (net : Nat) := withTank (fun x => { x with
      gaugeNet := some net, loss := .opened 1000000 39912000 true,
      cfg := { x.cfg with lossFloor := 80 } }) plant
    let u := withTank (fun x => { x with loss := .waiting, rest := .running 5 6 false }) plant
    let d := withTank (fun x => { x with cfg := { x.cfg with highHigh := 1740 } }) receiving
    ((s 919999).tank 0).state = .inService ∧ (s 919999).roleGood (.gauge 0) = true ∧
    ((s 919999).tank 0).loss = .opened 1000000 39912000 true ∧ ((s 919999).tank 0).gaugeNet = some 919999 ∧
    (80000 : Int) < ((1000000 : Nat) : Int) - (919999 : Nat) - (39912000 - ((s 919999).tank 0).book) ∧
    ((1000000 : Nat) : Int) - (920000 : Nat) - (39912000 - ((s 920000).tank 0).book) ≤ (80000 : Int) ∧
    (u.tank 0).loss = .waiting ∧ (u.tank 0).gaugeNet = some 39890348 ∧ (plant.tank 0).loss = .none ∧
    (u.tank 0).rest = .running 5 6 false ∧ (plant.tank 0).rest = .none ∧ (plant.tank 0).openHoses = 0 ∧
    (plant.tank 0).gaugeHeld = false ∧ plant.roleGood (.gauge 0) = true ∧ (plant.tank 1).gaugeNet = none ∧
    (plant.tank 1).rest = .none ∧ (d.tank 0).state = .receiving ∧ (d.tank 0).inletOpen = true ∧
    (d.tank 0).cfg.highHigh ≤ 1740 ∧ 1739 < (d.tank 0).cfg.highHigh ∧ (plant.tank 0).inletOpen = false ∧
    (d.tank 0).delivery.map (·.closed) = some none := by decide +kernel

theorem witness_TagReportsThatAreNoEdge :
    let tag : Byte → List Byte := fun nozzle => [nozzle, 7, 0, 0, 0, 0xDA, 0xE2, 1, 0]
    deviceOf (hd 2).src = some 1 ∧ plant.Hears 1 (.reader 0) ∧ (readTag (tag 1)).map (·.nozzle) = some .lifted ∧
    (readTag (tag 0)).map (·.nozzle) = some .holstered ∧ (plant.hose 0).mode = .idle ∧
    (hoseOut.hose 0).mode = .out ∧ hoseOut.Hears 1 (.reader 0) ∧ (readTag (tag 3)).map (·.nozzle) = some .coupledShut ∧
    ((filling .flowing).hose 0).mode = .fill .flowing txn ∧ (filling .flowing).Hears 1 (.reader 0) := by
  simp only [hears_iff]; decide +kernel

theorem witness_TagReportsThatAreNoEdge_others :
    let tag : Byte → List Byte := fun nozzle => [nozzle, 7, 0, 0, 0, 0xDA, 0xE2, 1, 0]
    (readTag (tag 2)).map (·.nozzle) = some .coupled ∧ ((filling .flowing).hose 0).nozzle = .coupled ∧
    (scored 1 33 .doubtful).Hears 1 (.reader 0) ∧ ((filling .flowing).hose 0).mode.isClosing = false ∧
    (running oneRun).Hears 1 (.reader 0) ∧
    ((running oneRun).hose 0).mode = .proving { planned := 3, can := 200000, ended := [run1], run := some oneRun } ∧
    closing.Hears 1 (.reader 0) ∧ (closing.hose 0).mode.isClosing = true ∧
    ((provingWith [run1] none).hose 0).mode =
      .proving { planned := 3, can := 200000, ended := [run1], run := none } := by
  simp only [hears_iff]; decide +kernel

theorem witness_ACouplingIsRefusedOrOpensAFill_refused :
    (hoseOut.hose 0).mode = .out ∧ (filled 63).records.length + (filled 63).reserved < 64 ∧
    ((withHose (fun x => { x with mode := .out }) (filled 64)).hose 0).mode = .out ∧
    64 ≤ (withHose (fun x => { x with mode := .out }) (filled 64)).records.length +
      (withHose (fun x => { x with mode := .out }) (filled 64)).reserved := by decide +kernel

theorem witness_ACouplingIsRefusedOrOpensAFill_edges :
    let s := withHose (fun x => { x with nozzle := .lifted }) (filling .ready)
    deviceOf (hd 2).src = some 1 ∧ plant.Hears 1 (.reader 0) ∧ (scored 1 128 .lost).Hears 1 (.reader 0) ∧
    readTag [2, 7, 0, 0, 0, 0xDA, 0xE2, 1, 0] = some ⟨.coupled, 7, some 123610⟩ ∧
    (plant.hose 0).nozzle = .holstered ∧ (plant.hose 0).mode = .idle ∧
    ((provingWith [] none).hose 0).mode = .proving { planned := 3, can := 200000, ended := [], run := none } ∧
    ((provingWith [] none).hose 0).nozzle = .holstered ∧ (s.hose 0).nozzle = .lifted ∧
    (s.hose 0).mode = .fill .ready txn := by
  simp only [hears_iff]; decide +kernel

/-- Checks 2 to 10, each failing on the plant with one thing changed. -/
theorem witness_ACouplingIsRefusedOrOpensAFill_checks :
    let withMachine (f : MachineRec → MachineRec) : State := plant.on (modMachine 0 f)
    (plant.hose 0).mode = .idle ∧ (inLayUp plant).bayMode = .layUp ∧ plant.bayMode = .run ∧
    tripped.hoseTripped 0 = true ∧ (tripped.hose 0).mode = .idle ∧ plant.hoseTripped 0 = false ∧
    (receiving.tank 0).state ≠ .inService ∧ (receiving.hose 0).cfg.tank = some 0 ∧
    (plant.hose 0).cfg.tank = some 0 ∧ (plant.tank 0).state = .inService ∧
    (scored 0 32 .doubtful).roleGood (.meter 0) = false ∧ (scored 1 96 .lost).roleGood (.reader 0) = false ∧
    plant.roleGood (.meter 0) = true ∧ plant.roleGood (.reader 0) = true ∧ plant.findTag 7 = some 0 ∧
    ((withMachine fun x => { x with state := .barred }).machine 0).state = .barred ∧
    ((withMachine fun x => { x with openHose := some 1 }).machine 0).openHose ≠ none ∧
    nth ((withMachine fun x => { x with allowances := fill 8 0 }).machine 0).allowances 0 = 0 ∧
    (plant.tank 0).cfg.product = some 0 ∧ 0 < nth (plant.machine 0).allowances 0 ∧
    ({ plant.current with fuel := false } : Profile).allows .fuel = false := by decide +kernel

/-- Checks 11 and 12 for a LUBE product: due at 250.0 h of 250 h, held at 312.5 h, held by the lube limit, and left as it
was by a doubtful reading. -/
theorem witness_ACouplingIsRefusedOrOpensAFill_service :
    let m : MachineRec := { machine0 with lastHours := some 120000, hoursAtService := some 120000, serviceInterval := 250 }
    m.trusts (some 122000) = true ∧ m.trusts (some 122001) = false ∧
    ({ m with lastHours := none } : MachineRec).trusts (some 123125) = true ∧
    m.serviceInterval * 10 ≤ 122500 - 120000 ∧ ¬(m.serviceInterval * 10 ≤ 122499 - 120000) ∧
    m.serviceInterval * 1250 ≤ (123125 - 120000) * 100 ∧ ¬(m.serviceInterval * 1250 ≤ (123124 - 120000) * 100) ∧
    (let x : MachineRec := { m with lubeLimit := 40, lubeSinceService := 40 }
     x.lubeLimit ≠ 0 ∧ x.lubeLimit ≤ x.lubeSinceService) ∧
    (m.trusts none = false ∧ ({ m with hold := true } : MachineRec).hold = true) ∧
    plant.current.allows .lube = true ∧ 64 ≤ (filled 64).records.length + (filled 64).reserved ∧
    (filled 63).records.length + (filled 63).reserved < 64 := by decide +kernel

/-- The caps of the other classes and readings by hand: LUBE with 12 L left of a limit of 40 L and with none; COOLANT; an
untrusted FUEL reading at profile A's blind share; a zone in RECOVERY at its recovery cap. -/
theorem test_class_caps :
    let m := { machine0 with lastHours := some 123610, hoursAtFull := some 123456, lubeLimit := 40, lubeSinceService := 28 }
    let cap (cls : ProductClass) (hours : Option Nat) := classCap Profile.defaultA m cls 4540 hours
    cap .lube (some 123610) = 12000 ∧ classCap Profile.defaultA machine0 .lube 4540 none = 4540000 ∧
    cap .coolant none = 4540000 ∧ cap .fuel (some 123609) = 4540000 * Profile.defaultA.blindPct / 100 ∧
    cap .fuel none = 4540000 * Profile.defaultA.blindPct / 100 ∧
    profileBound Profile.defaultA true 4540000 = min 4540000 (Profile.defaultA.recoveryCap * 1000) := by decide +kernel

/-- A first and a second claim on a pump with a starter, and a pump with none. -/
theorem test_a_fill_opens :
    let one := openFill 0 txn plant.toPart
    let two := openFill 0 txn (plant.on (modPump 0 fun _ => ⟨1, true⟩)).toPart
    let bare := openFill 0 txn (withDevice 3 (fun _ => Device.atReset) plant).toPart
    (one.pump 0, (one.hose 0).mode.tally.map (·.pumpWait), one.fp.own.length) = (⟨1, false⟩, some true, 3) ∧
    (two.pump 0, (two.hose 0).mode.tally.map (·.pumpWait), two.fp.own.length) = (⟨2, true⟩, some false, 2) ∧
    (bare.pump 0, (bare.hose 0).mode.tally.map (·.pumpWait), bare.fp.own.length) = (⟨1, true⟩, some false, 2) ∧
    (one.tank 0).loss = .waiting := by decide +kernel

/-- A cap of 1,000 mL and one of 999 mL, by the tank's bound. -/
theorem witness_ACouplingIsRefusedOrOpensAFill_caps :
    let s (book : Int) := withTank (fun x => { x with book := book }) plant
    let room (u : State) := profileBound u.current ((u.zone (u.tank 0).cfg.zone).state == .recovery)
      (classCap u.current (u.machine 0) (u.product 0).cls (nth (u.machine 0).allowances 0) (some 123610))
    min (room (s 2000999) : Int) (((s 2000999).tank 0).book - (((s 2000999).tank 0).cfg.lowCutoff * 1000 : Nat)) < 1000 ∧
    1000 ≤ min (room (s 2001000) : Int) (((s 2001000).tank 0).book - (((s 2001000).tank 0).cfg.lowCutoff * 1000 : Nat)) := by
  decide +kernel

theorem witness_ACouplingIsRefusedOrOpensAFill_runs :
    let s := provingWith [run1, run2] none
    let x : Session := { planned := 3, can := 200000, ended := [run1, run2], run := none }
    x.ended.length < x.planned ∧ x.run = none ∧ (s.hose 0).cfg.tank = some 0 ∧
    (s.zone (s.tank 0).cfg.zone).state = .normal ∧ (s.tank 0).state = .inService ∧ s.roleGood (.meter 0) = true ∧
    s.roleGood (.reader 0) = true ∧ ¬([run1, run2, run3].length < x.planned) := by decide +kernel

/-- R9, R10, R180: LAMP refused at a refusal, kept back in a TRIPPED zone, with the tank and the product in the record; and
the orders and the loss window of a run that begins. -/
theorem test_refusal_and_run_orders :
    let sent (p : Part) := p.fp.own.map fun u => (u.head.dst, u.kind, u.payload)
    let r := refuseFill 0 .barred 7 none none {} plant.toPart
    let bare := refuseFill 7 .hoseOut 7 none none {} plant.toPart
    let b := beginRun 0 { planned := 3, can := 200000, ended := [], run := none } (provingWith [] none).toPart
    sent r = [(2, 0x22, [3])] ∧ r.records.map (fun x => (x.tank, x.product)) = [(1, 1)] ∧ sent bare = [] ∧
    bare.records.map (fun x => (x.tank, x.product)) = [(0, 0)] ∧
    (refuseFill 0 .zoneTripped 7 none none {} tripped.toPart).fp = tripped.fp ∧
    sent b = [(3, 0x21, [15]), (2, 0x22, [1]), (4, 0x20, [1])] ∧ (b.tank 0).loss = .waiting ∧ b.pump 0 = ⟨1, false⟩ := by
  decide +kernel

/-- 63 records, an allowance of 4,540 mL and a machine never read before: a cap of 4,540 mL. -/
theorem witness_ACouplingIsRefusedOrOpensAFill_opened :
    let p := (filled 63).toPart
    (p.hose 0).mode = .idle ∧ p.bayMode = .run ∧ (p.hose 0).cfg.tank = some 0 ∧ (p.tank 0).state = .inService ∧
    (p.zone (p.tank 0).cfg.zone).state = .normal ∧ p.roleGood (.meter 0) = true ∧ p.roleGood (.reader 0) = true ∧
    p.findTag 7 = some 0 ∧ (p.machine 0).state = .opened ∧ (p.machine 0).openHose = none ∧
    (p.tank 0).cfg.product = some 0 ∧ (p.product 0).cls = .fuel ∧ 0 < nth (p.machine 0).allowances 0 ∧
    p.current.fuel = true ∧ p.records.length + p.reserved < 64 ∧ (p.machine 0).trusts (some 123610) = true ∧
    1000 ≤ min ((min (fuelCap p.current (p.machine 0) (nth (p.machine 0).allowances 0) (some 123610))
      (p.current.ceiling * 1000) : Nat) : Int) ((p.tank 0).book - ((p.tank 0).cfg.lowCutoff * 1000 : Nat)) := by
  decide +kernel

theorem witness_EchoBacksAndOtherFieldTelegrams :
    deviceOf (hd 1).src = some 0 ∧ testing.Hears 0 (.meter 0) ∧
    testing.test = some lineTest ∧ lineTest.awaited = some [0, 1] ∧ lineTest.target = 0 ∧ plant.test = none ∧
    deviceOf (hd 62).src = some 61 ∧ (0x12 : Byte) ≠ 0x24 ∧ (plant.device 61).binding = .unbound ∧
    plant.Hears 0 (.meter 0) ∧ (Binding.meter 0).kind ≠ some 0x12 ∧ plant.Hears 61 .unbound ∧
    deviceOf (hd 0).src = none ∧ deviceOf (hd 63).src = none := by
  simp only [hears_iff]; decide +kernel

/-! ### Timers -/

theorem witness_TimersEndOrPauseTheFill :
    ((filling .paused).hose 0).mode = .fill .paused txn ∧ ((filling .flowing).hose 0).mode = .fill .flowing txn ∧
    (plant.hose 0).mode = .idle ∧ (hoseOut.hose 0).mode = .out ∧
    (let t : Transaction := { txn with tally := { txn.tally with pumpWait := true } }
     let s := withHose (fun x => { x with mode := .fill .ready t }) (filling .ready)
     (s.hose 0).mode = .fill .ready t ∧ (s.hose 0).mode.isClosing = false ∧ t.tally.pumpWait = true) := by
  decide +kernel

/-- A run whose pump is not confirmed, one whose pump is, and what the end of a run needs. -/
theorem witness_TimersEndOrPauseTheFill_runs :
    let r : ProvingRun := { oneRun with tally := { oneRun.tally with pumpWait := true } }
    ((running r).hose 0).mode = .proving { planned := 3, can := 200000, ended := [run1], run := some r } ∧
    r.tally.pumpWait = true ∧ oneRun.tally.pumpWait = false ∧
    ((running oneRun).hose 0).mode = .proving { planned := 3, can := 200000, ended := [run1], run := some oneRun } ∧
    ((running r).hose 0).cfg.tank = some 0 ∧ (running r).tankProduct 0 = some (0, ⟨.fuel, 830, 150⟩) := by decide +kernel

/-- R181: START_FAIL of a run, by hand: 60 L in 15,000 ms are 240 L/min, at a mean factor of 100,190. -/
theorem test_a_run_ends :
    let r : ProvingRun := { oneRun with
      tally := { oneRun.tally with pumpWait := true, gross := 60000, net := 61000, lastTemp := some (-184) }
      sumVolume := 60000000, sumInterval := 15000, sumFactored := 60000000 * 100190 }
    let s := withTank (fun x => { x with openHoses := 1, loss := .waiting }) { running r with reserved := 2 }
    let t := after (.confirmTimerExpiry 0) s
    (t.hose 0).mode = .proving { planned := 3, can := 200000, run := none, ended := [run1,
      { cause := .startFail, gross := 60000, net := 61000, lastTemp := some (-184), flags := {}, jumps := 0,
        meanRate := 240, factorUsed := 100190, vcf := 1027722, result := none }] } ∧
    t.fp.own.map (fun u => (u.head.dst, u.kind, u.payload)) = [(3, 0x21, [0]), (2, 0x22, [0]), (4, 0x20, [0])] ∧
    t.pump 0 = ⟨0, false⟩ ∧ (t.tank 0).openHoses = 0 ∧ (t.tank 0).loss = .none ∧ t.reserved = 1 ∧
    t.records.map (·.body) = [.prove 60000 61000 2 (-184)] := by decide +kernel

theorem witness_TimersEndOrPauseTheFill_notFlowing : ∀ t, (plant.hose 0).mode ≠ .fill .flowing t :=
  not_flowing_of_idle (by decide +kernel)

theorem witness_TheDrainWindowEndsWithAFillRecord :
    (closing.hose 0).mode = .fill (.closing .nozzleOff ⟨5, false⟩) txn ∧ EndCause.nozzleOff ≠ .full := by decide +kernel

/-- R5, R21: the FILL record's tank, product and hour reading, and the orders of a hose that goes OUT at a pending out. -/
theorem test_drain_orders :
    let s := withHose (fun x => { x with pendingOut := true }) closing
    let t := after (.drainWindowExpiry 0) s
    (s.hose 0).pendingOut = true ∧ (t.hose 0).mode = .out ∧
    t.records.map (fun x => (x.tank, x.product, x.hours)) = [(1, 1, 123610)] ∧
    t.fp.own.map (fun u => (u.head.dst, u.kind, u.payload)) = [(3, 0x21, [0]), (2, 0x22, [0])] ∧
    (after (.drainWindowExpiry 0) closing).fp = closing.fp ∧ (t.tank 0).openHoses = 0 := by decide +kernel

/-- Learning from 2.0 h on, and the abnormal fill of chapter 3's worked sequence. -/
theorem witness_TheDrainWindowEndsWithAFillRecord_learning :
    let m : MachineRec := { machine0 with hoursAtFull := some 80700, burnRate := 194236, learnCount := 4, addedSinceFull := 4100000 }
    m.hoursAtFull = some 80700 ∧ 80719 < 80700 + 20 ∧ 80700 + 20 ≤ 80720 ∧ 4 ≤ m.learnCount ∧
    3 * m.burnRate < 2 * ((m.addedSinceFull + 64000) * 10 / (80820 - 80700)) ∧ machine0.hoursAtFull = none ∧
    ({ m with learnCount := 0 } : MachineRec).learnCount = 0 ∧ m.learnCount ≠ 0 ∧
    2 * ((0 + 64000) * 10 / (80820 - 80700)) ≤ 3 * m.burnRate := by decide

/-- Each state at the ends of the scores in which it stays. -/
theorem witness_ASilentNodeLosesItsHealth :
    ((scored 0 27 .good).device 0).binding ≠ .unbound ∧ ((scored 0 27 .good).device 0).health = .good ∧
    ((scored 0 27 .good).device 0).score + 4 < 32 ∧
    ((scored 0 28 .doubtful).device 0).health = .doubtful ∧ 32 ≤ ((scored 0 28 .doubtful).device 0).score + 4 ∧
    ((scored 0 91 .doubtful).device 0).score + 4 < 96 ∧
    ((scored 0 128 .lost).device 0).health = .lost ∧ 16 ≤ ((scored 0 12 .lost).device 0).score + 4 ∧
    (plant.device 61).binding = .unbound := by decide +kernel

/-- Every role, about to become DOUBTFUL and about to become LOST. -/
theorem witness_ASilentNodeLosesItsHealth_changes :
    let b : DevNo → Binding := fun n => (plant.device n).binding
    (b 0 = .meter 0 ∧ b 1 = .reader 0 ∧ b 2 = .valve 0 ∧ b 3 = .starter 0 ∧ b 4 = .inlet 0 ∧ b 5 = .gauge 0 ∧
     b 6 = .sump 0 ∧ b 7 = .estop (some 0) ∧ b 8 = .estop none) ∧
    (∀ n : DevNo, n.val < 9 → ((scored n 28 .good).device n).binding = b n ∧ ((scored n 28 .good).device n).health = .good ∧
      ((scored n 31 .good).device n).score ≤ 91 ∧ 28 ≤ ((scored n 28 .good).device n).score ∧
      ((scored n 92 .doubtful).device n).health = .doubtful ∧ 92 ≤ ((scored n 92 .doubtful).device n).score) ∧
    (plant.hose 0).mode = .idle ∧ (hoseOut.hose 0).mode = .out ∧ ((filling .paused).hose 0).mode = .fill .paused txn ∧
    ((filling .paused).hose 0).mode.isClosing = false ∧ (closing.hose 0).mode.isClosing = true ∧
    ((running oneRun).hose 0).mode = .proving { planned := 3, can := 200000, ended := [run1], run := some oneRun } ∧
    ((provingWith [] none).hose 0).mode = .proving { planned := 3, can := 200000, ended := [], run := none } := by
  decide +kernel

theorem witness_SettleAndRestTimersActOnTheirWindows :
    let s := withTank (fun x => { x with loss := .opened 5000 6000 false, rest := .running 39931000 39912000 true }) plant
    (s.tank 0).loss = .opened 5000 6000 false ∧ (plant.tank 0).loss = .none ∧ (plant.tank 0).rest = .none ∧
    (s.tank 0).rest = .running 39931000 39912000 true ∧ (s.tank 0).gaugeNet = some 39890348 ∧
    ((39890348 : Nat) : Int) - (39931000 : Nat) < -((s.tank 0).cfg.restThreshold * 1000 : Nat) := by decide +kernel

theorem witness_RecoveryTimersAndTheBayClockCount :
    let s := withTank (fun x => { x with state := .outOfService }) recovering
    (s.zone 0).timer = .running 30 ∧ (s.zone 0).state = .recovery ∧
    (∀ k, (s.tank k).cfg.zone = 0 → (s.tank k).state ≠ .outOfService → (s.zone 0).marks.getLsbD k.val = true) ∧
    (recovering.zone 0).timer = .running 30 ∧ (recovering.tank 0).cfg.zone = 0 ∧
    (recovering.tank 0).state ≠ .outOfService ∧ (recovering.zone 0).marks.getLsbD 0 = false ∧
    (plant.zone 1).timer = .stopped := by decide +kernel

theorem witness_RecoveryTimersAndTheBayClockCount_still : ∀ n, (plant.zone 3).timer ≠ .running n := by
  have e : (plant.zone 3).timer = .stopped := by decide +kernel
  rw [e]; exact nofun

/-! ### Zones -/

/-- The trip's closing orders wait at the field port, in R99's order; a forwarded SET that waited upstream is gone. -/
theorem witness_ATripSourceTripsTheZone :
    let s : State := { plant with up := { plant.up with forwarded := [fromBay 3 0x21 [15]] } }
    (receiving.zone 0).state ≠ .tripped ∧ receiving.hoseZone 0 = some 0 ∧ receiving.hoseZone 7 ≠ some 0 ∧
    (receiving.tank 0).cfg.zone = 0 ∧ (receiving.tank 0).delivery.isSome = true ∧
    ((withTank (fun x => { x with cfg := { x.cfg with zone := 3 } }) plant).tank 0).cfg.zone ≠ 0 ∧
    tripped.fp.own.map (fun u => (u.head.dst, u.kind, u.payload)) =
      [(3, 0x21, [0]), (5, 0x21, [0]), (4, 0x20, [0]), (2, 0x22, [4])] ∧
    (tripSource .sumpWet 0 s.toPart).up.forwarded = [] := by decide +kernel

/-- A fill, one in CLOSING and a run in the zone, and hoses with no tally. -/
theorem witness_ATripSourceTripsTheZone_hoses :
    ((filling .flowing).zone 0).state ≠ .tripped ∧ (filling .flowing).hoseZone 0 = some 0 ∧
    ((filling .flowing).hose 0).mode = .fill .flowing txn ∧ ((filling .flowing).hose 0).mode.isClosing = false ∧
    (closing.hose 0).mode.isClosing = true ∧ closing.hoseZone 0 = some 0 ∧ (running oneRun).hoseZone 0 = some 0 ∧
    ((running oneRun).hose 0).mode = .proving { planned := 3, can := 200000, ended := [run1], run := some oneRun } ∧
    (plant.hose 0).mode.tally = none ∧ ((provingWith [] none).hose 0).mode.tally = none ∧
    ((tripSource .sumpWet 0 (filling .flowing).toPart).hose 0).mode = .fill (.closing .trip ⟨0, true⟩)
      { txn with tally := { txn.tally with lastCode := 0, pumpWait := false } } ∧
    ((tripSource .sumpWet 0 (running oneRun).toPart).hose 0).mode.run = none := by decide +kernel

theorem witness_ASourceInATrippedZoneOnlyCounts : (tripped.zone 0).state = .tripped := by decide +kernel

theorem witness_TripZoneRaisesTheCommandSource :
    (0 : Byte) = 0 ∧ (4 : Byte).toNat = (3 : ZoneNo).val + 1 ∧ (1 : Byte).toNat = (0 : ZoneNo).val + 1 ∧
    (tripped.zone 0).state = .tripped ∧ 4 < (5 : Byte).toNat := by decide +kernel

theorem witness_TripResetAsksForRecovery :
    ((5 : Byte) = 0 ∨ 4 < (5 : Byte).toNat) ∧ (1 : Byte).toNat = (0 : ZoneNo).val + 1 ∧
    (plant.zone 0).state ≠ .tripped ∧ (tripped.zone 0).state = .tripped ∧ tripped.ResetBlocked 0 ∧
    (let s := after (.tripZone 1 (some 1)) plant
     (s.zone 0).state = .tripped ∧ ¬s.ResetBlocked 0) := by
  unfold Part.ResetBlocked; decide +kernel

theorem witness_RaisingANoticeMakesItPendingOnce :
    let p : Part := { plant.toPart with pendingNotices := 1, noticeMask := 2 }
    (Notice.trip 0).isIn p.pendingNotices = true ∧ (Notice.trip 1).isIn p.pendingNotices = false ∧
    (Notice.trip 1).isIn p.noticeMask = true ∧ (Notice.trip 2).isIn p.pendingNotices = false ∧
    (Notice.trip 2).isIn p.noticeMask = false := by decide +kernel

/-! ### Tanks, deliveries and service -/

theorem witness_StockSetPutsTheBookAndRecordsIt :
    let s := inLayUp (filled 63)
    (1 : Byte).toNat = (0 : TankNo).val + 1 ∧ (plant.tank 0).cfg.capacity * 1000 < (66000001 : Long).toNat ∧
    (66000000 : Long).toNat ≤ (plant.tank 0).cfg.capacity * 1000 ∧ (receiving.tank 0).state = .receiving ∧
    (66000000 : Long).toNat ≤ (receiving.tank 0).cfg.capacity * 1000 ∧
    (plant.tank 0).state = .inService ∧ plant.bayMode = .run ∧
    (66000000 : Long).toNat ≤ (s.tank 0).cfg.capacity * 1000 ∧
    ((s.tank 0).state = .outOfService ∨ (s.tank 0).state = .inService ∧ s.bayMode = .layUp) ∧
    s.records.length + s.reserved < 64 ∧
    (let u := inLayUp (filled 64)
     (66000000 : Long).toNat ≤ (u.tank 0).cfg.capacity * 1000 ∧
     ((u.tank 0).state = .outOfService ∨ (u.tank 0).state = .inService ∧ u.bayMode = .layUp) ∧
     64 ≤ u.records.length + u.reserved) := by decide +kernel

theorem witness_DeliveriesOpenAndEndByCommand_start :
    let s := withTank (fun x => { x with lastLevel := some 2699 }) (filled 63)
    let x := s.tank 0
    (1 : Byte).toNat = (0 : TankNo).val + 1 ∧ (66000#16) ≠ 0 ∧ (66000#16).toNat ≤ x.cfg.capacity ∧
    (s.boundNode (.gauge 0)).isSome = true ∧ s.boundNode (.inlet 0) = some 4 ∧ s.roleGood (.gauge 0) = true ∧
    x.gaugeHeld = false ∧ x.gaugeNet = some 39890348 ∧ x.lastLevel = some 2699 ∧ 2699 < x.cfg.highHigh ∧
    x.state = .inService ∧ (s.zone x.cfg.zone).state = .normal ∧ s.records.length + s.reserved < 64 ∧
    64 ≤ (filled 64).records.length + (filled 64).reserved := by decide +kernel

/-- Each refusal of R85. -/
theorem witness_DeliveriesOpenAndEndByCommand_refused :
    let s (f : Tank → Tank) := withTank f plant
    (plant.tank 0).cfg.capacity = 66000 ∧ ((s fun x => { x with cfg := { x.cfg with capacity := 100 } }).tank 0).cfg.capacity <
      (101#16).toNat ∧ plant.boundNode (.gauge 1) = none ∧ plant.boundNode (.inlet 1) = none ∧
    (receiving.tank 0).state = .receiving ∧ (receiving.boundNode (.gauge 0)).isSome = true ∧
    receiving.boundNode (.inlet 0) = some 4 ∧ ((s fun x => { x with state := .outOfService }).tank 0).state = .outOfService ∧
    (scored 5 32 .doubtful).roleGood (.gauge 0) = false ∧ ((s fun x => { x with gaugeHeld := true }).tank 0).gaugeHeld = true ∧
    ((s fun x => { x with gaugeNet := none }).tank 0).gaugeNet = none ∧
    ((s fun x => { x with lastLevel := some 2700 }).tank 0).lastLevel = some 2700 ∧ (plant.tank 0).cfg.highHigh ≤ 2700 ∧
    (recovering.zone (recovering.tank 0).cfg.zone).state ≠ .normal ∧ (recovering.tank 0).state = .inService := by
  decide +kernel

theorem witness_DeliveriesOpenAndEndByCommand_end :
    (1 : Byte).toNat = (0 : TankNo).val + 1 ∧ (plant.tank 0).state ≠ .receiving ∧
    (receiving.tank 0).state = .receiving ∧ (receiving.tank 0).gaugeNet = some 39890348 ∧
    (receiving.tank 0).delivery =
      some { declared := 30000, startGauge := 39890348, start := ⟨0, true⟩, outflow := 0, closed := none } ∧
    ((30000 * (receiving.tank 0).cfg.tolerance : Nat) : Int) <
      |((39890348 : Nat) : Int) - (39890348 : Nat) + (0 : Nat) - (30000 : Nat) * 1000| := by decide +kernel

/-- A delivery that leaves the book at the cutoff, with a fill open, and one whose inlet has closed. -/
theorem witness_DeliveriesOpenAndEndByCommand_low :
    let s := withTank (fun x => { x with
      state := .receiving, book := 2000000
      delivery := some { declared := 1, startGauge := 39890348, start := ⟨0, true⟩, outflow := 0, closed := some .gauge } })
      (filling .flowing)
    (s.tank 0).book + (((39890348 : Nat) : Int) - (39890348 : Nat) + (0 : Nat)) - (((s.tank 0).cfg.lowCutoff * 1000 : Nat) : Int) ≤ 0 ∧
    (s.tank 0).low = false ∧ (s.hose 0).cfg.tank = some 0 ∧ (s.hose 0).mode = .fill .flowing txn ∧
    (s.hose 0).mode.isClosing = false ∧ (s.hose 7).mode.dispensing = false ∧ s.boundNode (.inlet 0) = some 4 ∧
    (s.tank 0).delivery.map (·.closed) = some (some .gauge) ∧ receiving.fp.own.length ≤ 31 := by decide +kernel

theorem witness_TankAndHoseServiceMoveInAndOut_tank :
    let s := withTank (fun x => { x with state := .outOfService, cfg := { x.cfg with highHigh := 2800 } }) plant
    let u := withTank (fun x => { x with state := .outOfService, cfg := { x.cfg with highHigh := 0 } }) plant
    (1 : Byte).toNat = (0 : TankNo).val + 1 ∧ (plant.tank 0).state ≠ .outOfService ∧
    (u.tank 0).state = .outOfService ∧ (u.tank 0).cfg.highHigh = 0 ∧
    (s.tank 0).state = .outOfService ∧ (s.tank 0).cfg.product = some 0 ∧ (s.product 0).cls ≠ .none ∧
    (s.tank 0).cfg.strapsOk = true ∧ (s.tank 0).cfg.capacityOk = true ∧ 0 < (s.tank 0).cfg.highHigh ∧
    (s.tank 0).cfg.highHigh ≤ (lastStrap (s.tank 0).cfg.table).level ∧ (s.boundNode (.gauge 0)).isSome = true ∧
    (receiving.tank 0).state = .receiving ∧ (closing.tank 0).state = .inService ∧ 0 < (closing.tank 0).openHoses ∧
    (plant.tank 0).state = .inService ∧ (plant.tank 0).openHoses = 0 ∧
    (plant.zone (plant.tank 0).cfg.zone).state ≠ .recovery := by decide +kernel

/-- R71: each check failed by one step, and all of them met: a product of class NONE, one strapping point, a first level
above 0, equal levels, a volume that falls, no capacity, a capacity 1 L short, a high-high level of 0 and one 1 mm high. -/
theorem test_tank_checks :
    let out (f : TankConfig → TankConfig) := withTank (fun x => { x with state := .outOfService, cfg := f x.cfg }) plant
    let answers (s : State) := (after (.tankServiceIn 1 1) s).up.own.map (·.payload)
    let point (i : Fin 32) (q : StrapPoint) (c : TankConfig) : TankConfig := { c with straps := setNth c.straps i q }
    (∀ f ∈ [(fun c => { c with product := some 1 }), (fun c => { c with product := none }),
        (fun c => { c with strapCount := 1, highHigh := 0 }), point 0 ⟨1, 0⟩, point 2 ⟨500, 21400⟩, point 2 ⟨1000, 9799⟩,
        (fun c => { c with capacity := 0 }), (fun c => { c with capacity := 64499 }),
        (fun c => { c with highHigh := 0 }), (fun c : TankConfig => { c with highHigh := 2801 })],
      answers (out f) = [[4]]) ∧
    (∀ f ∈ [(fun c => { c with highHigh := 2800 }), point 2 ⟨501, 9800⟩, (fun c : TankConfig => { c with capacity := 64500 })],
      answers (out f) = [[0]]) := by decide +kernel

/-- R70, R105: the only tank of a recovering zone goes out of service, before and after the timer's expiry; and a marked one
comes back. -/
theorem test_tank_service_in_a_recovering_zone :
    let expired := withZone (fun z => { z with timer := .expired, marks := 1 }) recovering
    let out (s : State) := after (.tankServiceOut 1 (some (1, 0))) s
    (recovering.zone (recovering.tank 0).cfg.zone).state = .recovery ∧ (recovering.tank 0).openHoses = 0 ∧
    ((out recovering).zone 0).state = .recovery ∧ ((out recovering).tank 0).state = .outOfService ∧
    ((out expired).zone 0).state = .normal ∧ (out expired).bayAlarm = false ∧
    ((after (.tankServiceIn 1 1) (withTank (fun x => { x with state := .outOfService }) expired)).zone 0).state = .normal ∧
    ((after (.tankServiceIn 1 1) (withTank (fun x => { x with state := .outOfService })
      (withZone (fun z => { z with marks := 0 }) expired))).zone 0).state = .recovery := by decide +kernel

theorem witness_TankAndHoseServiceMoveInAndOut_hose :
    let x := hoseOut.hose 0
    (8 : Byte).toNat = (7 : HoseNo).val + 1 ∧ (1 : Byte).toNat = (0 : HoseNo).val + 1 ∧ (plant.hose 0).mode = .idle ∧
    (closing.hose 0).mode = .fill (.closing .nozzleOff ⟨5, false⟩) txn ∧
    ((filling .ready).hose 0).mode = .fill .ready txn ∧ ((filling .ready).hose 0).mode.isClosing = false ∧
    ((provingWith [] none).hose 0).mode = .proving { planned := 3, can := 200000, ended := [], run := none } ∧
    x.mode = .out ∧ x.cfg.tank.isSome = true ∧ (hoseOut.boundNode (.meter 0)).isSome = true ∧
    (hoseOut.boundNode (.reader 0)).isSome = true ∧ (hoseOut.boundNode (.valve 0)).isSome = true ∧
    1 ≤ x.cfg.pulseWeight ∧ curveOk x.cfg.curve = true ∧ (hoseOut.hose 7).mode = .out ∧
    (hoseOut.hose 7).cfg.tank.isSome = false := by decide +kernel

theorem witness_TankAndHoseServiceMoveInAndOut_none : ∀ ses, ((filling .ready).hose 0).mode ≠ .proving ses :=
  not_proving_of_fill (t := txn) (ph := .ready) (by decide +kernel)

/-! ### Machines, profiles, records and the responder -/

theorem witness_MachinesAreBarredOpenedAndServiced :
    (0#16).toNat = (0 : SlotNo).val ∧ (plant.machine 0).tag ≠ 0 ∧ (0xFFFFFFFE : Long) ≠ 0xFFFFFFFF ∧
    1 < (2 : Byte).toNat ∧ 1024 ≤ (1024#16).toNat ∧ (1023#16).toNat = (1023 : SlotNo).val ∧
    (plant.machine 1023).tag = 0 := by decide +kernel

theorem witness_TakeRemovesTheHeadUnderItsSerial :
    let r : Record := { blankRecord .refusal ⟨0, false⟩ ⟨0, false⟩ with serial := 9 }
    let s : State := { headed plant with cursor := { plant.cursor with sel := .recordHead, offset := 23 } }
    plant.records = [] ∧ (headed plant).records = r :: [] ∧ BitVec.ofNat 16 r.serial ≠ 8 ∧
    BitVec.ofNat 16 r.serial = 9 ∧ (headed plant).cursor.sel ≠ .recordHead ∧ s.records = r :: [] ∧
    s.cursor.sel = .recordHead := by decide +kernel

theorem witness_ProfileSwitchesFollowTheSource :
    let s : State := { plant with source := .command }
    true ≠ plant.profileHigh ∧ plant.source = .line ∧ true ≠ s.profileHigh ∧ s.source = .command ∧
    (1 : Byte).toNat ≤ 1 ∧ 1 < (2 : Byte).toNat := by decide

theorem witness_ModeClockRateAndPortCountersAreSet :
    let s := sending (orderTelegram 0x21 2 [15]) true plant
    let u : State := { plant with fp := { plant.fp with rx := .receiving [1] } }
    1 < (0xFE : Byte).toNat ∧ (0xFE : Byte) ≠ 0xFF ∧ plant.bayMode = .run ∧ testing.bayMode = .layUp ∧
    testing.test = some lineTest ∧ 3 < (4 : Byte).toNat ∧ (1 : Byte).toNat ≤ 3 ∧ (1 : Byte).toNat = plant.fp.rate.toNat ∧
    (3 : Byte).toNat ≤ 3 ∧ (3 : Byte).toNat ≠ plant.fp.rate.toNat ∧ plant.fp.rx.isReceiving = false ∧
    plant.fp.flight = none ∧ (3 : Byte).toNat ≠ s.fp.rate.toNat ∧ s.fp.flight ≠ none ∧
    u.fp.rx.isReceiving = true := by decide +kernel

/-! ### The table window -/

/-- The last entry of each table, and the first number outside it. -/
theorem witness_TheWindowSelectsAnEntryOfItsTablesWords :
    (1023#16).toNat = (1023 : SlotNo).val ∧ 1024 ≤ (1024#16).toNat ∧ (8#16).toNat = (7 : HoseNo).val + 1 ∧
    8 < (9#16).toNat ∧ (6#16).toNat = (5 : TankNo).val + 1 ∧ 6 < (7#16).toNat ∧
    (8#16).toNat = (7 : ProductNo).val + 1 ∧ (62#16).toNat = (61 : DevNo).val + 1 ∧ 62 < (63#16).toNat ∧
    (31#16).toNat = (31 : RuleNo).val ∧ 32 < (33#16).toNat ∧ (1#16) ≠ 0 ∧ (4#16).toNat = (3 : ZoneNo).val + 1 ∧
    4 < (5#16).toNat ∧ 10 < (11 : Byte).toNat ∧ 2 < (3 : Byte).toNat := by decide

theorem witness_ReadReturnsWordsUpToTheEntrysEnd :
    let s : State := { headed plant with cursor := { plant.cursor with sel := .recordHead, offset := 0 } }
    1 ≤ (5 : Byte).toNat ∧ (5 : Byte).toNat ≤ 5 ∧ s.CursorInside ∧ s.cursor.sel = .recordHead ∧ s.records ≠ [] ∧
    5 < (6 : Byte).toNat ∧ ({ s with records := [] } : State).records = [] := by
  unfold Part.CursorInside; decide +kernel

/-- R177 by hand: words of a machine, a hose with a fill, a tank with a delivery and a negative book, a device, a zone; absent
figures; and what a hose with nothing open reads. -/
theorem test_read_layouts :
    let at_ (s : State) (sel : Selection) (k : Nat) := (readWord sel k s.toPart).toNat
    let m : MachineRec := { machine0 with tag := 0x12345678, state := .barred, hold := true, openHose := some 7, doubt := 6, abnormal := true }
    let s : State := { filling .ready with machines := setNth plant.machines 0 m }
    let u := withTank (fun x => { x with
      lastTemp := some (-120), setPoint := -1, book := 3000000000, inletReport := .fault,
      delivery := some { declared := 300, startGauge := 65537, start := ⟨0, false⟩, outflow := 0, closed := some .gauge } })
      receiving
    [0, 1, 2, 3, 15, 16].map (at_ s (.machine 0)) = [0x5678, 0x1234, 1 + 2 + 8 * 256, 6 + 32768, 0xFFFF, 0xFFFF] ∧
    [0, 1, 2, 3, 4, 40, 41, 46, 67, 69, 70].map (at_ s (.hose 0)) =
      [256, 1, 1, 1 + 2 * 256, 3, 2 + 255 * 256, 4, 41000, 0xFFFF, 20000, 0] ∧
    [0, 2, 62, 66, 70].map (at_ plant (.hose 7)) = [1 + 5 * 256, 0xFFFF, 0, 0, 0] ∧
    [0, 12, 13, 14, 15, 24, 25, 31, 33, 36, 37, 38, 41, 42].map (at_ u (.tank 0)) =
      [1, 6 + 4 * 256, 5, 0xFFFF, 0xFFFF, 0xFFFF, 0x7FFF, 0xFF88, 254, 300, 1, 1, 2 + 22 * 256, 0xFFFF] ∧
    [36, 37, 41].map (at_ plant (.tank 0)) = [0, 0xFFFF, 0] ∧
    [0, 4].map (at_ plant (.device 7)) = [8 + 256, 0xFFFF] ∧
    [0, 1, 4, 7].map (at_ State.reset (.zone 3)) = [1, 9 + 32768, 256, 65535] ∧
    at_ plant .filter 3 = 255 ∧ [3, 0].map (at_ plant (.product 0)) = [1, 1] := by decide +kernel

/-- R159 by hand: the head record of a FILL and of a DELIVERY. -/
theorem test_record_layout :
    let queued (r : Record) : State := { plant with records := [r] }
    let words (s : State) := (List.range 24).map fun k => (readWord .recordHead k s.toPart).toNat
    let r : Record := { blankRecord (.fill 70000 65536 20000 (-120)) ⟨0x10002, true⟩ ⟨7, false⟩ with
      serial := 9, cause := 2, hose := 8, tank := 6, product := 3, jumps := 4, slot := 1023, tag := 0x10001, hours := 65537,
      flags := { tapered := true, profileB := true } }
    let d : Record := { blankRecord (.delivery 300 1 2 (-3)) ⟨0, false⟩ ⟨0, false⟩ with cause := 22, tank := 1 }
    words (queued r) = [9, 1 + 2 * 256, 1 + 16 + 128, 8 + 6 * 256, 3 + 4 * 256, 1023, 2, 1, 7, 0, 1, 1, 1, 1, 4464, 1, 0, 1,
      20000, 0, 0xFF88, 0, 0, 0] ∧
    (words (queued d)).drop 14 = [300, 0, 1, 0, 2, 0, 0xFFFD, 0xFFFF, 0, 0] ∧ (words (queued d)).take 4 =
      [0, 3 + 22 * 256, 0, 256] := by decide +kernel

theorem witness_WordsAndTagsAreWrittenToTheirFields :
    let v : State := { plant with cursor := { Cursor.atReset with sel := .machine 1, mode := .hold } }
    v.cursor.sel = .machine 1 ∧ v.cursor.offset = 0 ∧ v.cursor.mode = .hold ∧
    v.cursor.kept.map (·.1) = [0, 12, 15, 17, 19, 21, 26] ∧ (8 : Long) ≠ (v.machine 1).tag ∧
    (v.machine 1).openHose = none ∧ (8 : Long) ≠ 0 ∧ (∀ j, (v.machine j).tag ≠ 8) ∧
    (7 : Long) ≠ (v.machine 1).tag ∧ (∃ j, (v.machine j).tag = 7) := by
  refine ⟨by decide, by decide, by decide, by decide, by decide +kernel, by decide +kernel, by decide, fun j => ?_,
    by decide +kernel, ⟨0, by decide +kernel⟩⟩
  show (plant.machine j).tag ≠ 8
  by_cases e : j = 0
  · rw [e]; decide +kernel
  · rw [plant_machine e]; decide

/-- The objects' states in which their words are taken, and words taken and refused. -/
theorem witness_WordsAndTagsAreWrittenToTheirFields_words :
    ([0xFF] : List Byte).length ≤ 1 ∧ (hoseOut.hose 0).mode = .out ∧
    ((withTank (fun x => { x with state := .outOfService }) plant).tank 0).state = .outOfService ∧
    (∀ t, (plant.tank t).cfg.product = some 7 → (plant.tank t).state = .outOfService) ∧
    (plant.tank 0).cfg.product = some 0 ∧ (plant.tank 0).state ≠ .outOfService ∧
    (writeWord .profileA 0 100 plant.toPart).toOption.map (·.profileA.marginPct) = some 100 ∧
    (writeWord .profileA 0 101 plant.toPart).toOption.isNone = true ∧ Selection.words .profileA ≤ 6 := by decide +kernel

/-- Five words in STEP mode: the second is refused, the last lands beyond the end. -/
theorem witness_WordsAndTagsAreWrittenToTheirFields_write :
    let s : State := { plant with cursor := { sel := .profileA, offset := 2, mode := .step, kept := [] } }
    let t := after (.write 1 [100, 0, 5, 0, 6, 0, 7, 0, 8, 0]) s
    let u := after (.write 1 [101, 0, 5, 0, 9]) s
    (t.profileA.blindPct, t.profileA.recoveryCap, t.profileA.ceiling, t.cursor.offset) = (100, 5, 6, 5) ∧
    t.up.own.map (·.payload) = [[0, 1, 0]] ∧
    (u.profileA.blindPct, u.profileA.recoveryCap, u.cursor.offset) = (plant.profileA.blindPct, 5, 4) ∧
    u.up.own.map (·.payload) = [[Status.code .badValue, 0, 1]] := by decide +kernel

/-- A tag of 0 empties slot 0, which holds tag 7. -/
theorem witness_WordsAndTagsAreWrittenToTheirFields_zero :
    let s : State := { plant with cursor := { Cursor.atReset with mode := .hold } }
    s.cursor.sel = .machine 0 ∧ s.cursor.offset = 0 ∧ s.cursor.mode = .hold ∧
    s.cursor.kept.map (·.1) = [0, 12, 15, 17, 19, 21, 26] ∧ (0 : Long) ≠ (s.machine 0).tag ∧
    (s.machine 0).openHose = none := by decide +kernel

/-- R47 in STEP_ON_WRITE and HOLD: the slot's own tag again, and another tag while a hose is open on the slot. -/
theorem test_tag_writes :
    let s (m : StepMode) : State := { filling .ready with cursor := { Cursor.atReset with mode := m } }
    let own := after (.write 1 [7, 0, 0, 0]) (s .stepOnWrite)
    let other := after (.write 1 [8, 0, 0, 0]) (s .hold)
    ((s .step).machine 0).tag = 7 ∧ ((s .step).machine 0).openHose ≠ none ∧
    (s .step).cursor.kept.map (·.1) = [0, 12, 15, 17, 19, 21, 26] ∧
    own.up.own.map (·.payload) = [[0, 0, 0]] ∧ own.cursor.offset = 2 ∧ (own.machine 0).tag = 7 ∧
    other.up.own.map (·.payload) = [[2, 0, 2]] ∧ other.cursor.offset = 0 ∧ (other.machine 0).tag = 7 := by decide +kernel

theorem witness_ConfigurationAndBindingsAreWrittenUnderTheirConditions :
    let s := withHose (fun x => { x with mode := .out }) (withDevice 0 (fun _ => Device.atReset) (inLayUp plant))
    (plant.hose 0).mode ≠ .out ∧ (plant.tank 0).state ≠ .outOfService ∧ plant.bayMode = .run ∧
    (s.device 0).binding = .unbound ∧ s.bayMode = .layUp ∧ (∀ m, (s.device m).binding ≠ .meter 0) ∧
    (s.hose 0).mode = .out ∧ (257#16).toNat % 256 = 1 ∧ (257#16).toNat / 256 = (0 : HoseNo).val + 1 ∧
    (s.device 1).binding = .reader 0 ∧ (9#16).toNat % 256 = 9 ∧
    ((inLayUp plant).device 0).binding = .meter 0 ∧ ((inLayUp plant).hose 0).mode ≠ .out ∧
    ((inLayUp receiving).device 4).binding = .inlet 0 ∧ (receiving.tank 0).state = .receiving ∧
    (2056#16).toNat % 256 = 8 ∧ (2056#16).toNat / 256 = 8 := by decide +kernel

/-- A tank moves into a zone that is NORMAL, and into a TRIPPED one. -/
theorem witness_ConfigurationAndBindingsAreWrittenUnderTheirConditions_zone :
    let s := withTank (fun x => { x with state := .outOfService, cfg := { x.cfg with zone := 1 } }) tripped
    (s.tank 0).state = .outOfService ∧ 4 < (5#16).toNat ∧ (1#16).toNat = (0 : ZoneNo).val + 1 ∧
    (0 : ZoneNo) ≠ (s.tank 0).cfg.zone ∧ (s.zone 0).state = .tripped ∧ (s.zone 2).state ≠ .tripped ∧
    (2 : ZoneNo) ≠ (s.tank 0).cfg.zone ∧ (s.hose 0).cfg.tank = some 0 ∧ (s.hose 7).cfg.tank ≠ some 0 := by decide +kernel

/-- R105: a tank out of service leaves a zone in RECOVERY, which enters NORMAL where its timer has expired and stays where it
runs; nothing else of the part moves. -/
theorem test_tank_leaves_a_recovering_zone :
    let s := withTank (fun x => { x with state := .outOfService }) recovering
    let ready := withZone (fun z => { z with timer := .expired }) s
    let move (s : State) := moveTank 0 2 s.toPart
    (s.tank 0).state = .outOfService ∧ ((move s).zone 0).state = .recovery ∧ (move s).bayAlarm = true ∧
    ((move ready).zone 0).state = .normal ∧ (move ready).bayAlarm = false ∧ (move ready).shutdown = false ∧
    (move ready).up = s.up ∧ ((move ready).tank 0).cfg.zone = 2 ∧ (move ready).hoses = s.hoses := by decide +kernel

/-! ### Proving, the line test and RESTART -/

theorem witness_ProvingSessionsOpenAndTakeResults_start :
    let s : State := { hoseOut with records := (filled 59).records }
    let u : State := { hoseOut with records := (filled 60).records }
    let v := withHose (fun x => { x with mode := .out }) tripped
    (1 : Byte).toNat = (0 : HoseNo).val + 1 ∧ 5 < (6 : Byte).toNat ∧ 1 ≤ (5 : Byte).toNat ∧ (5 : Byte).toNat ≤ 5 ∧
    1000 ≤ (1000#32).toNat ∧ (2000000#32).toNat ≤ 2000000 ∧ (999#32).toNat < 1000 ∧ (plant.hose 0).mode ≠ .out ∧
    (s.hose 0).mode = .out ∧ s.hoseFit 0 = true ∧ (∀ z, s.hoseZone 0 = some z → (s.zone z).state = .normal) ∧
    s.records.length + s.reserved + (5 : Byte).toNat ≤ 64 ∧ u.hoseFit 0 = true ∧
    64 < u.records.length + u.reserved + (5 : Byte).toNat ∧ v.hoseFit 0 = true ∧ v.hoseZone 0 = some 0 ∧
    (v.zone 0).state ≠ .normal ∧ (v.hose 0).mode = .out := by decide +kernel

theorem witness_ProvingSessionsOpenAndTakeResults_none : ∀ ses, (plant.hose 0).mode ≠ .proving ses :=
  not_proving_of_idle (by decide +kernel)

/-- The factor 110,000 at the top of the range, 110,001 above it, and a run with no volume. -/
theorem witness_ProvingSessionsOpenAndTakeResults_result :
    let r : EndedRun := { run1 with gross := 100000, factorUsed := 100000 }
    let s := provingWith [r, { r with gross := 0 }, { r with result := some ⟨1, 1, 1⟩ }] none
    (s.hose 0).mode = .proving { planned := 3, can := 200000, ended := [r, { r with gross := 0 },
      { r with result := some ⟨1, 1, 1⟩ }], run := none } ∧
    ([r, { r with gross := 0 }, { r with result := some ⟨1, 1, 1⟩ }] : List EndedRun).length < (4 : Byte).toNat ∧
    r.result = none ∧ 0 < r.gross ∧ (s.hose 0).cfg.tank = some 0 ∧ r.factorUsed * (110000#32).toNat / r.gross = 110000 ∧
    r.factorUsed * (110001#32).toNat / r.gross = 110001 ∧ ({ r with gross := 0 } : EndedRun).gross = 0 := by
  decide +kernel

/-- A hose that fails each part of the record check. -/
theorem witness_ProvingSessionsOpenAndTakeResults_unfit :
    let bare (n : DevNo) := withDevice n (fun _ => Device.atReset) hoseOut
    let s := withHose (fun x => { x with cfg := { x.cfg with pulseWeight := 0 } }) hoseOut
    let u := withHose (fun x => { x with cfg := { x.cfg with pointCount := 0 } }) hoseOut
    (hoseOut.hose 7).mode = .out ∧ (hoseOut.hose 7).cfg.tank.isSome = false ∧ hoseOut.hoseFit 7 = false ∧
    hoseOut.hoseFit 0 = true ∧ (bare 0).hoseFit 0 = false ∧ (bare 1).hoseFit 0 = false ∧ (bare 2).hoseFit 0 = false ∧
    s.hoseFit 0 = false ∧ u.hoseFit 0 = false ∧ (u.hose 0).mode = .out := by decide +kernel

/-- R75, R80: a credit that leaves 0 mL above the cutoff, and one that leaves 1 mL; an adjustment total that reaches the
limit of folding, and one that passes it. -/
theorem test_proving_credit :
    let s (book total : Int) := withTank (fun x => { x with
      book := book, totals := { adjustment := total }, rest := .running 5 6 false, loss := .opened 5 6 true })
      (provingWith [run1] none)
    let t (book total : Int) := (after (.proveResult 1 (some (1, 1, 199450))) (s book total)).tank 0
    (after (.proveResult 1 (some (1, 1, 199450))) (s 5000000 0)).up.own.map (·.payload) =
      [Status.code .done :: bytes32 99908 ++ bytes32 203588] ∧
    (t (2000000 - 203588) 0).low = true ∧ (t (2000001 - 203588) 0).low = false ∧ (t 5000000 0).book = 5203588 ∧
    (t 5000000 0).rest = .none ∧ (t 5000000 0).loss = .waiting ∧
    ((t 5000000 (1000000000 - 203588)).folds, (t 5000000 (1000000000 - 203588)).totals.adjustment) = (0, 1000000000) ∧
    ((t 5000000 (1000000001 - 203588)).folds, (t 5000000 (1000000001 - 203588)).totals.adjustment,
      (t 5000000 (1000000001 - 203588)).setPoint) = (1, 203588, 5000000) := by decide +kernel

theorem witness_ProveEndAcceptsOrAbandons :
    let ended := [{ run1 with result := some ⟨199450, 99908, 203588⟩ }, { run2 with result := some ⟨199470, 99921, 203609⟩ },
      { run3 with result := some ⟨199430, 99899, 203568⟩ }]
    let runs := ended.filterMap fun r => r.result.map fun x => (r, x)
    let s := withHose (fun x => { x with cfg := { x.cfg with
      points := #v[⟨100, 100400⟩, ⟨264, 100100⟩, ⟨600, 99800⟩, ⟨0, 0⟩, ⟨0, 0⟩, ⟨0, 0⟩] } }) (provingWith ended none)
    (s.hose 0).mode = .proving { planned := 3, can := 200000, ended := ended, run := none } ∧
    3 ≤ runs.length ∧
    (∀ x ∈ runs, ∀ y ∈ runs, x.2.factor ≤ y.2.factor + 50) ∧
    (runs.map fun r => r.1.meanRate).sum / runs.length = 240 ∧
    (s.hose 0).cfg.curve = [⟨100, 100400⟩, ⟨264, 100100⟩, ⟨600, 99800⟩] ∧ (264 - 240) * 100 ≤ 240 * 10 ∧
    264 - 240 < 240 - 100 ∧ 264 - 240 ≤ 600 - 240 ∧ (ended.filter fun r => r.result.isSome).length = 3 ∧
    (let u := provingWith [run1, run2] (some oneRun)
     (u.hose 0).mode = .proving { planned := 3, can := 200000, ended := [run1, run2], run := some oneRun } ∧
     2 + 1 ≤ 3) := by decide +kernel

/-- The nearest point, at index 1, is nearer than the one before it and no further than the one after it. -/
theorem witness_ProveEndAcceptsOrAbandons_nearest :
    let gap : CurvePoint → Nat := fun x => (x.flow - 240) + (240 - x.flow)
    let points : List CurvePoint := [⟨100, 100400⟩, ⟨264, 100100⟩, ⟨600, 99800⟩]
    points[1]? = some ⟨264, 100100⟩ ∧ (∀ j x, points[j]? = some x → j < 1 → gap ⟨264, 100100⟩ < gap x) ∧
    (∀ j x, points[j]? = some x → 1 < j → gap ⟨264, 100100⟩ ≤ gap x) := by
  refine ⟨rfl, fun j x hx hj => ?_, fun j x hx hj => ?_⟩
  · match j with
    | 0 => cases hx; decide
  · match j with
    | 2 => cases hx; decide
    | j + 3 => simp at hx

/-- No point near a mean flow of 200: it goes between 100 and 300, in fewer than six points; six leave no place. -/
theorem witness_ProveEndAcceptsOrAbandons_inserted :
    let gap : CurvePoint → Nat := fun x => (x.flow - 200) + (200 - x.flow)
    let points : List CurvePoint := [⟨100, 100400⟩, ⟨300, 100100⟩, ⟨600, 99800⟩]
    (∀ q ∈ points, 200 * 10 < gap q * 100) ∧ points.length < 6 ∧ 1 ≤ points.length ∧
    (∀ j x, points[j]? = some x → j < 1 → x.flow ≤ 200) ∧ (∀ x, points[1]? = some x → 200 < x.flow) ∧
    6 ≤ (points ++ points).length ∧ ¬((99951 : Nat) ≤ 99900 + 50) := by
  refine ⟨by decide, by decide, by decide, fun j x hx hj => ?_, fun x hx => ?_, by decide, by decide⟩
  · match j with
    | 0 => cases hx; decide
  · cases hx; decide

theorem witness_ProveEndAcceptsOrAbandons_none : ∀ ses, (plant.hose 0).mode ≠ .proving ses :=
  not_proving_of_idle (by decide +kernel)

theorem witness_TheLineTestStartsSendsReadsAndStops :
    let s : State := { testing with test := some { lineTest with gapRunning := false, waitRunning := true } }
    plant.test = none ∧ testing.test = some lineTest ∧ plant.bayMode = .run ∧ testing.bayMode = .layUp ∧
    testing.test ≠ none ∧ (inLayUp plant).bayMode = .layUp ∧ (inLayUp plant).test = none ∧ 3 < (4 : Byte).toNat ∧
    62 < (63 : Byte).toNat ∧ (3 : Byte).toNat ≤ 3 ∧ (2 : Byte).toNat ≤ 2 ∧ (12 : Byte).toNat ≤ 12 ∧
    (62 : Byte).toNat = (61 : DevNo).val + 1 ∧ lineTest.pattern = .counting ∧
    ({ lineTest with pattern := .fixed } : LineTest).pattern = .fixed ∧
    ({ lineTest with pattern := .pseudo } : LineTest).pattern = .pseudo ∧
    lineTest.gapRunning = true ∧ lineTest.continuous = true ∧
    ({ testing with counts := { sent := 9999 } } : State).counts.sent < 10000 ∧
    s.test = some { lineTest with gapRunning := false, waitRunning := true } ∧ lineTest.awaited.isSome = true := by
  decide

theorem witness_RestartEndsEveryOperation :
    trial.RecordsFit ∧ (trial.hose 0).mode = .fill .flowing txn ∧ (plant.zone 3).state ≠ .recovery ∧
    (trial.machine 1).tag = 0 ∧ (after (.restart 1) (filling .flowing)).fp.own.map (fun u => (u.head.dst, u.kind, u.payload)) =
      [(2, 0x22, [0]), (3, 0x21, [0]), (5, 0x21, [0]), (4, 0x20, [0])] :=
  ⟨trial_recordsFit, by decide +kernel, by decide +kernel, by decide +kernel, by decide +kernel⟩

theorem witness_RestartEndsEveryOperation_slots :
    ∀ j ph' txn', j ≠ (0 : HoseNo) → (trial.hose j).mode = .fill ph' txn' → txn'.slot ≠ txn.slot := by
  have e : ∀ j, j ≠ (0 : HoseNo) → (trial.hose j).mode = .out := by decide +kernel
  intro j ph' txn' hj h
  rw [e j hj] at h; cases h

end Sys2Proof.Tests
end

section
/-! What the hose controllers' orders, claims and ends do, each operation said once as an equation or as an inversion:
the layer that the proofs about hoses, fills and proving runs cite. -/

namespace Sys2Proof.Machine

open Sys2Proof

/-! ## Runs of operations -/

theorem each_cons {ι : Type} (i : ι) (is : List ι) (f : ι → Part → Part) (p : Part) :
    each (i :: is) f p = each is f (f i p) := rfl

theorem each_append {ι : Type} (is js : List ι) (f : ι → Part → Part) (p : Part) :
    each (is ++ js) f p = each js f (each is f p) := List.foldl_append ..

/-- What each operation on a member of a list keeps, the run over the list keeps. -/
theorem each_keep_mem {ι α : Type} (view : Part → α) (f : ι → Part → Part) (is : List ι)
    (h : ∀ i ∈ is, ∀ p, view (f i p) = view p) (p : Part) : view (each is f p) = view p := by
  induction is generalizing p with
  | nil => rfl
  | cons i is ih =>
    exact (ih (fun j hj => h j (List.mem_cons_of_mem _ hj)) (f i p)).trans (h i List.mem_cons_self p)

/-- A property that each operation keeps, the run keeps. -/
theorem each_invariant {ι : Type} (P : Part → Prop) (f : ι → Part → Part) (is : List ι)
    (h : ∀ i ∈ is, ∀ p, P p → P (f i p)) {p : Part} (hp : P p) : P (each is f p) := by
  induction is generalizing p with
  | nil => exact hp
  | cons i is ih =>
    exact ih (fun j hj => h j (List.mem_cons_of_mem _ hj)) (h i List.mem_cons_self p hp)

/-- A run over a list without repetition, cut at one member: what comes before and after it is over others. -/
theorem each_split {ι : Type} {is : List ι} (nodup : is.Nodup) {i : ι} (hi : i ∈ is) (f : ι → Part → Part) (p : Part) :
    ∃ before later, (∀ j ∈ before, j ≠ i ∧ j ∈ is) ∧ (∀ j ∈ later, j ≠ i ∧ j ∈ is) ∧
      each is f p = each later f (f i (each before f p)) := by
  obtain ⟨before, later, rfl⟩ := List.append_of_mem hi
  have disjoint := List.nodup_append.1 nodup
  refine ⟨before, later, fun j hj => ⟨fun e => ?_, by simp [hj]⟩, fun j hj => ⟨fun e => ?_, by simp [hj]⟩, each_append ..⟩
  · exact disjoint.2.2 j hj i List.mem_cons_self e
  · exact (List.nodup_cons.1 disjoint.2.1).1 (e ▸ hj)

theorem hoseNos_nodup : hoseNos.Nodup := by decide
theorem tankNos_nodup : tankNos.Nodup := by decide
theorem tankHoses_nodup (p : Part) (t : TankNo) : (p.tankHoses t).Nodup := hoseNos_nodup.filter _
theorem zoneHoses_nodup (p : Part) (z : ZoneNo) : (p.zoneHoses z).Nodup := hoseNos_nodup.filter _

theorem mem_tankHoses {p : Part} {t : TankNo} {h : HoseNo} : h ∈ p.tankHoses t ↔ (p.hose h).cfg.tank = some t := by
  simp [Part.tankHoses, mem_hoseNos]
theorem mem_zoneHoses {p : Part} {z : ZoneNo} {h : HoseNo} : h ∈ p.zoneHoses z ↔ p.hoseZone h = some z := by
  simp [Part.zoneHoses, mem_hoseNos]

/-! ## Reading a table of objects -/

theorem hose_eq_nth (p : Part) (h : HoseNo) : p.hose h = nth p.hoses h := rfl

/-- A part's hoses after one of them is replaced. -/
theorem nth_setNth_hoses (p : Part) (h j : HoseNo) (x : Hose) :
    nth (setNth p.hoses h x) j = if h = j then x else p.hose j := nth_setNth ..
theorem nth_setNth_pumps (p : Part) (t k : TankNo) (u : Pump) :
    nth (setNth p.pumps t u) k = if t = k then u else p.pump k := nth_setNth ..
theorem nth_setNth_tanks (p : Part) (t k : TankNo) (x : Tank) :
    nth (setNth p.tanks t x) k = if t = k then x else p.tank k := nth_setNth ..

/-! ## The zone a hose belongs to -/

/-- A hose's zone is read from its tank field and from the tanks' zone fields alone. -/
theorem hoseZone_congr {p q : Part} {h : HoseNo} (hose : (q.hose h).cfg.tank = (p.hose h).cfg.tank)
    (tank : ∀ t, (q.tank t).cfg.zone = (p.tank t).cfg.zone) : q.hoseZone h = p.hoseZone h := by
  simp [Part.hoseZone, hose, tank]

theorem hoseTripped_congr {p q : Part} {h : HoseNo} (zone : q.hoseZone h = p.hoseZone h)
    (zones : ∀ z, (q.zone z).state = (p.zone z).state) : q.hoseTripped h = p.hoseTripped h := by
  simp only [Part.hoseTripped, zone, zones]

/-- A hose's zone is TRIPPED, in the words of the zone record. -/
theorem hoseTripped_of_zone {p : Part} {h : HoseNo} {z : ZoneNo} (hz : p.hoseZone h = some z) :
    p.hoseTripped h = ((p.zone z).state == .tripped) := by simp only [Part.hoseTripped, hz]

/-- A hose whose configuration keeps its tank field keeps its zone. -/
theorem modHose_hoseTripped (h i : HoseNo) (f : Hose → Hose) (p : Part)
    (keep : (f (p.hose h)).cfg.tank = (p.hose h).cfg.tank) : (modHose h f p).hoseTripped i = p.hoseTripped i := by
  refine hoseTripped_congr (hoseZone_congr ?_ fun _ => rfl) fun _ => rfl
  rw [modHose_hose]; split
  · subst_vars; exact keep
  · rfl

/-! ## Orders (R133, R135, R140) -/

/-- The telegrams an order puts into the field queue: one to the node bound in the role, none where none is. -/
def Part.orderTo (p : Part) (kind : Byte) (b : Binding) (value : Byte) : List Telegram :=
  (p.boundNode b).toList.map fun n =>
    { head := { dst := nodeOf n, cls := 1, src := 0, rsv := 0 }, kind := kind, payload := [value] }

/-- The telegrams of a LAMP from a hose controller: none but LAMP trip while the hose's zone is TRIPPED (R10). -/
def Part.lampTo (p : Part) (h : HoseNo) (lamp : Byte) : List Telegram :=
  if lamp = lampTrip then p.orderTo kindLamp (.reader h) lamp
  else if p.hoseTripped h then [] else p.orderTo kindLamp (.reader h) lamp

theorem orderTo_congr {p q : Part} (devices : q.devices = p.devices) (kind : Byte) (b : Binding) (value : Byte) :
    q.orderTo kind b value = p.orderTo kind b value := by simp only [Part.orderTo, Part.boundNode, devices]

theorem lampTo_congr {p q : Part} {h : HoseNo} (devices : q.devices = p.devices)
    (tripped : q.hoseTripped h = p.hoseTripped h) (lamp : Byte) : q.lampTo h lamp = p.lampTo h lamp := by
  simp only [Part.lampTo, tripped, orderTo_congr devices]

/-- Telegrams of the part's own queued at the field port, in turn. -/
def sendAll (us : List Telegram) (p : Part) : Part := { p with fp := us.foldl (fun x u => x.queueOrder u) p.fp }

@[simp] theorem sendAll_nil (p : Part) : sendAll [] p = p := rfl
theorem sendAll_sendAll (us vs : List Telegram) (p : Part) : sendAll us (sendAll vs p) = sendAll (vs ++ us) p := by
  simp only [sendAll, List.foldl_append]
@[simp] theorem sendAll_fp (us : List Telegram) (p : Part) :
    (sendAll us p).fp = us.foldl (fun x u => x.queueOrder u) p.fp := rfl
@[simp] theorem sendAll_sansPorts (us : List Telegram) (p : Part) : (sendAll us p).sansPorts = p.sansPorts := rfl
@[simp] theorem sendAll_hose (us : List Telegram) (p : Part) (h : HoseNo) : (sendAll us p).hose h = p.hose h := rfl
@[simp] theorem sendAll_tank (us : List Telegram) (p : Part) (t : TankNo) : (sendAll us p).tank t = p.tank t := rfl
@[simp] theorem sendAll_pump (us : List Telegram) (p : Part) (t : TankNo) : (sendAll us p).pump t = p.pump t := rfl
@[simp] theorem sendAll_zone (us : List Telegram) (p : Part) (z : ZoneNo) : (sendAll us p).zone z = p.zone z := rfl
@[simp] theorem sendAll_machine (us : List Telegram) (p : Part) (m : SlotNo) : (sendAll us p).machine m = p.machine m := rfl
@[simp] theorem sendAll_devices (us : List Telegram) (p : Part) : (sendAll us p).devices = p.devices := rfl
@[simp] theorem sendAll_boundNode (us : List Telegram) (p : Part) (b : Binding) :
    (sendAll us p).boundNode b = p.boundNode b := rfl
@[simp] theorem sendAll_orderTo (us : List Telegram) (p : Part) (k : Byte) (b : Binding) (v : Byte) :
    (sendAll us p).orderTo k b v = p.orderTo k b v := rfl
@[simp] theorem sendAll_lampTo (us : List Telegram) (p : Part) (h : HoseNo) (v : Byte) :
    (sendAll us p).lampTo h v = p.lampTo h v := rfl

/-- What is queued is queued beside the changes of the objects. -/
theorem modHose_sendAll (h : HoseNo) (f : Hose → Hose) (us : List Telegram) (p : Part) :
    modHose h f (sendAll us p) = sendAll us (modHose h f p) := rfl
theorem modTank_sendAll (t : TankNo) (f : Tank → Tank) (us : List Telegram) (p : Part) :
    modTank t f (sendAll us p) = sendAll us (modTank t f p) := rfl
theorem modPump_sendAll (t : TankNo) (f : Pump → Pump) (us : List Telegram) (p : Part) :
    modPump t f (sendAll us p) = sendAll us (modPump t f p) := rfl
theorem modTally_sendAll (h : HoseNo) (f : Tally → Tally) (us : List Telegram) (p : Part) :
    modTally h f (sendAll us p) = sendAll us (modTally h f p) := rfl

theorem order_eq (kind : Byte) (b : Binding) (value : Byte) (p : Part) :
    order kind b value p = sendAll (p.orderTo kind b value) p := by
  unfold order Part.orderTo
  cases p.boundNode b <;> rfl

theorem sendValve_eq (h : HoseNo) (code : Nat) (p : Part) :
    sendValve h code p = sendAll (p.orderTo kindSet (.valve h) (BitVec.ofNat 8 code)) p := order_eq ..
theorem sendInlet_eq (t : TankNo) (code : Nat) (p : Part) :
    sendInlet t code p = sendAll (p.orderTo kindSet (.inlet t) (BitVec.ofNat 8 code)) p := order_eq ..
theorem sendRun_eq (t : TankNo) (value : Nat) (p : Part) :
    sendRun t value p = sendAll (p.orderTo kindRun (.starter t) (BitVec.ofNat 8 value)) p := order_eq ..
theorem forceLamp_eq (h : HoseNo) (lamp : Byte) (p : Part) :
    forceLamp h lamp p = sendAll (p.orderTo kindLamp (.reader h) lamp) p := order_eq ..
theorem sendLamp_eq (h : HoseNo) (lamp : Byte) (p : Part) : sendLamp h lamp p = sendAll (p.lampTo h lamp) p := by
  unfold sendLamp Part.lampTo
  rw [forceLamp_eq]
  by_cases trip : lamp = lampTrip
  · simp [trip]
  · by_cases t : p.hoseTripped h = true <;> simp [trip, t]

/-! ## One object changed twice -/

theorem modHose_congr {h : HoseNo} {f g : Hose → Hose} {p : Part} (e : f (p.hose h) = g (p.hose h)) :
    modHose h f p = modHose h g p := by unfold modHose; rw [e]
theorem modTank_congr {t : TankNo} {f g : Tank → Tank} {p : Part} (e : f (p.tank t) = g (p.tank t)) :
    modTank t f p = modTank t g p := by unfold modTank; rw [e]
theorem modPump_congr {t : TankNo} {f g : Pump → Pump} {p : Part} (e : f (p.pump t) = g (p.pump t)) :
    modPump t f p = modPump t g p := by unfold modPump; rw [e]
theorem modMachine_congr {m : SlotNo} {f g : MachineRec → MachineRec} {p : Part}
    (e : f (p.machine m) = g (p.machine m)) : modMachine m f p = modMachine m g p := by unfold modMachine; rw [e]

theorem modHose_modHose (h : HoseNo) (f g : Hose → Hose) (p : Part) :
    modHose h f (modHose h g p) = modHose h (fun x => f (g x)) p := by
  unfold modHose Part.hose; simp only [nth_setNth_same, setNth_setNth]
theorem modTank_modTank (t : TankNo) (f g : Tank → Tank) (p : Part) :
    modTank t f (modTank t g p) = modTank t (fun x => f (g x)) p := by
  unfold modTank Part.tank; simp only [nth_setNth_same, setNth_setNth]
theorem modPump_modPump (t : TankNo) (f g : Pump → Pump) (p : Part) :
    modPump t f (modPump t g p) = modPump t (fun x => f (g x)) p := by
  unfold modPump Part.pump; simp only [nth_setNth_same, setNth_setNth]
theorem modMachine_modMachine (m : SlotNo) (f g : MachineRec → MachineRec) (p : Part) :
    modMachine m f (modMachine m g p) = modMachine m (fun x => f (g x)) p := by
  unfold modMachine Part.machine; simp only [nth_setNth_same, setNth_setNth]

theorem modHose_eq_self {h : HoseNo} {f : Hose → Hose} {p : Part} (e : f (p.hose h) = p.hose h) :
    modHose h f p = p := by
  have : setNth p.hoses h (p.hose h) = p.hoses := setNth_nth ..
  unfold modHose; rw [e, this]
theorem modTank_eq_self {t : TankNo} {f : Tank → Tank} {p : Part} (e : f (p.tank t) = p.tank t) :
    modTank t f p = p := by
  have : setNth p.tanks t (p.tank t) = p.tanks := setNth_nth ..
  unfold modTank; rw [e, this]

theorem setMode_eq (h : HoseNo) (m : HoseMode) (p : Part) : setMode h m p = modHose h (fun x => { x with mode := m }) p :=
  rfl

/-! ## The tally of a fill or a run -/

@[simp] theorem HoseMode.modTally_tally (f : Tally → Tally) (m : HoseMode) : (m.modTally f).tally = m.tally.map f := by
  cases m with
  | proving s => cases r : s.run <;> simp [HoseMode.modTally, HoseMode.tally, r]
  | _ => rfl

/-- A tally changed to what it was leaves the mode as it was. -/
theorem HoseMode.modTally_eq_self {f : Tally → Tally} {m : HoseMode} (e : ∀ t, m.tally = some t → f t = t) :
    m.modTally f = m := by
  cases m with
  | fill ph t => simp only [HoseMode.modTally, e t.tally rfl]
  | proving s =>
    have : (s.run.map fun r => { r with tally := f r.tally }) = s.run := by
      cases r : s.run with
      | none => rfl
      | some x => simp [e x.tally (by simp [HoseMode.tally, r])]
    simp only [HoseMode.modTally, this]
  | _ => rfl

theorem modTally_eq_self {h : HoseNo} {f : Tally → Tally} {p : Part}
    (e : ∀ t, (p.hose h).mode.tally = some t → f t = t) : modTally h f p = p :=
  modHose_eq_self (by rw [HoseMode.modTally_eq_self e])

theorem modTally_of_none {h : HoseNo} {p : Part} (none : (p.hose h).mode.tally = none) (f : Tally → Tally) :
    modTally h f p = p := modTally_eq_self fun t e => by rw [none] at e; cases e

/-! ## Claims on a pump (R11) -/

/-- A pump after a release. -/
def Pump.released (u : Pump) : Pump := { count := u.count - 1, confirmed := u.confirmed && u.count != 1 }

theorem releasePump_eq (t : TankNo) (p : Part) : releasePump t p =
    sendAll (if (p.pump t).count = 1 then p.orderTo kindRun (.starter t) 0 else []) (modPump t Pump.released p) := by
  unfold releasePump
  by_cases last : (p.pump t).count = 1
  · rw [if_pos last, if_pos last, sendRun_eq, modPump_modPump,
      modPump_congr (g := Pump.released) (by simp [Pump.released, last])]
    rfl
  · rw [if_neg last, if_neg last, modPump_congr (g := Pump.released) (by simp [Pump.released, last])]
    rfl

/-- A pump after a claim: the first one finds it confirmed only where no starter is there to confirm it. -/
def Pump.claimed (starter : Bool) (u : Pump) : Pump :=
  { count := u.count + 1, confirmed := if u.count = 0 then !starter else u.confirmed }

/-- A claim by a hose starts its pump wait where it is the first and a starter is there to confirm it. -/
def Part.claimWaits (p : Part) (t : TankNo) : Bool := decide ((p.pump t).count = 0) && (p.boundNode (.starter t)).isSome

/-- A claim: the count rises, the first claimant waits for the starter, and RUN 1 is sent to it. -/
theorem claimPump_eq (h : HoseNo) (t : TankNo) (p : Part) : claimPump h t p =
    sendAll (if (p.pump t).count = 0 then p.orderTo kindRun (.starter t) 1 else [])
      (modTally h (fun y => { y with pumpWait := y.pumpWait || p.claimWaits t })
        (modPump t (Pump.claimed (p.boundNode (.starter t)).isSome) p)) := by
  unfold claimPump
  by_cases first : (p.pump t).count = 0
  · rw [if_pos first, if_pos first]
    cases bound : p.boundNode (.starter t) with
    | none =>
      have noWait : p.claimWaits t = false := by simp [Part.claimWaits, bound]
      rw [if_neg (by simp), modPump_modPump, modPump_congr (g := Pump.claimed false) (by simp [Pump.claimed, first]),
        modTally_eq_self (p := modPump ..) (by simp [noWait])]
      simp [Part.orderTo, bound]
    | some n =>
      have waits : p.claimWaits t = true := by simp [Part.claimWaits, bound, first]
      rw [if_pos (by simp), modPump_modPump, modPump_congr (g := Pump.claimed true) (by simp [Pump.claimed, first]),
        sendRun_eq]
      simp only [waits, Bool.or_true]
      rfl
  · have noWait : p.claimWaits t = false := by simp [Part.claimWaits, first]
    rw [if_neg first, if_neg first, modTally_eq_self (p := modPump ..) (by simp [noWait]),
      modPump_congr (g := Pump.claimed (p.boundNode (.starter t)).isSome) (by simp [Pump.claimed, first])]
    rfl

end Sys2Proof.Machine
end

section
/-! How a fill and a proving run end (R18 to R21, R181): the whole effect of each end as an equation, the cases of an
end request, and what every end request leaves alone. -/

namespace Sys2Proof.Machine

open Sys2Proof

/-! ## Entry to CLOSING (R19) -/

/-- The orders an end queues: SET 0 to the valve, the lamp, and RUN 0 where the last claim on the pump goes. -/
def Part.endOrders (p : Part) (h : HoseNo) (cause : EndCause) (t : TankNo) : List Telegram :=
  p.orderTo kindSet (.valve h) 0 ++ p.lampTo h (if cause = .trip then lampTrip else lampOff) ++
    (if (p.pump t).count = 1 then p.orderTo kindRun (.starter t) 0 else [])

/-- A transaction on entry to CLOSING. -/
def Transaction.shut (t : Transaction) : Transaction := { t with tally := { t.tally with lastCode := 0, pumpWait := false } }

theorem setMode_hoseTripped (h i : HoseNo) (m : HoseMode) (p : Part) : (setMode h m p).hoseTripped i = p.hoseTripped i :=
  modHose_hoseTripped h i _ p rfl

theorem setMode_lampTo (h i : HoseNo) (m : HoseMode) (p : Part) (v : Byte) : (setMode h m p).lampTo i v = p.lampTo i v :=
  lampTo_congr (p := p) (q := setMode h m p) rfl (setMode_hoseTripped h i m p) v

theorem enterClosing_eq (h : HoseNo) (cause : EndCause) (t : Transaction) (p : Part) : enterClosing h cause t p =
    sendAll (p.endOrders h cause t.tank) (modPump t.tank Pump.released
      (setMode h (.fill (.closing cause (now p)) t.shut) p)) := by
  simp only [enterClosing, sendValve_eq, sendLamp_eq, releasePump_eq, sendAll_lampTo, setMode_lampTo, sendAll_orderTo,
    sendAll_pump, modPump_sendAll, sendAll_sendAll]
  rfl

@[simp] theorem enterClosing_hose_same (h : HoseNo) (cause : EndCause) (t : Transaction) (p : Part) :
    (enterClosing h cause t p).hose h = { p.hose h with mode := .fill (.closing cause (now p)) t.shut } := by
  rw [enterClosing_eq]
  simp only [sendAll_hose, modPump_hose_keep, setMode_eq, modHose_hose_same]

theorem enterClosing_hose_other {h j : HoseNo} (ne : j ≠ h) (cause : EndCause) (t : Transaction) (p : Part) :
    (enterClosing h cause t p).hose j = p.hose j := by
  rw [enterClosing_eq]; exact nth_setNth_other _ _ ne.symm

@[simp] theorem enterClosing_tanks (h : HoseNo) (cause : EndCause) (t : Transaction) (p : Part) :
    (enterClosing h cause t p).tanks = p.tanks := by rw [enterClosing_eq]; rfl
@[simp] theorem enterClosing_records (h : HoseNo) (cause : EndCause) (t : Transaction) (p : Part) :
    (enterClosing h cause t p).records = p.records := by rw [enterClosing_eq]; rfl
@[simp] theorem enterClosing_reserved (h : HoseNo) (cause : EndCause) (t : Transaction) (p : Part) :
    (enterClosing h cause t p).reserved = p.reserved := by rw [enterClosing_eq]; rfl
@[simp] theorem enterClosing_pendingNotices (h : HoseNo) (cause : EndCause) (t : Transaction) (p : Part) :
    (enterClosing h cause t p).pendingNotices = p.pendingNotices := by rw [enterClosing_eq]; rfl

theorem enterClosing_pump (h : HoseNo) (cause : EndCause) (t : Transaction) (k : TankNo) (p : Part) :
    (enterClosing h cause t p).pump k = if t.tank = k then (p.pump k).released else p.pump k := by
  rw [enterClosing_eq]; exact modPump_pump ..

/-- The Part that entry to CLOSING leaves differs in hoses, pumps and the field port alone. -/
theorem enterClosing_frame (h : HoseNo) (cause : EndCause) (t : Transaction) (p : Part) :
    let q := enterClosing h cause t p
    q = { p with hoses := q.hoses, pumps := q.pumps, fp := q.fp } := by
  rw [enterClosing_eq]; rfl

/-! ## The end of a proving run (R181) -/

/-- The session once its run in progress has ended. -/
def Session.runEnded (s : Session) (e : EndedRun) : Session := { s with run := none, ended := s.ended ++ [e] }

/-- A tank with one open hose fewer. -/
def Tank.hoseClosed (x : Tank) : Tank :=
  { x with openHoses := x.openHoses - 1, loss := if x.openHoses - 1 = 0 then .none else x.loss }

theorem closeOnTank_eq (t : TankNo) (p : Part) : closeOnTank t p = modTank t Tank.hoseClosed p := rfl

/-- The record of a run of hose `h` that ends now. -/
def Part.runRecord (p : Part) (h : HoseNo) (cause : EndCause) (s : Session) (r : ProvingRun) : Record :=
  proveRecord h (numberOf (p.hose h).cfg.tank) (p.hoseProductNo h) (s.ended.length + 1) r cause (now p)

/-- What a run of hose `h` that ends now leaves in its session. -/
def Part.runResult (p : Part) (h : HoseNo) (cause : EndCause) (r : ProvingRun) : EndedRun :=
  r.finish cause (p.hose h).cfg.curve (p.hoseProduct h)

/-- The effect of a run's end before its record is placed: with a tank the claim and the open-hose count go. -/
def Part.runStopped (p : Part) (h : HoseNo) (cause : EndCause) (s : Session) (r : ProvingRun) : Part :=
  let q := setMode h (.proving (s.runEnded (p.runResult h cause r))) p
  match (p.hose h).cfg.tank with
  | some k => sendAll (p.endOrders h cause k) (modTank k Tank.hoseClosed (modPump k Pump.released q))
  | none => sendAll (p.orderTo kindSet (.valve h) 0 ++ p.lampTo h (if cause = .trip then lampTrip else lampOff)) q

theorem endRun_eq (h : HoseNo) (cause : EndCause) (s : Session) (r : ProvingRun) (p : Part) :
    endRun h cause s r p = placeReserved (p.runRecord h cause s r) (p.runStopped h cause s r) := by
  unfold endRun Part.runStopped
  cases tank : (p.hose h).cfg.tank with
  | none =>
    simp only [sendValve_eq, sendLamp_eq, sendAll_lampTo, setMode_lampTo, sendAll_sendAll, tank, Part.runRecord]
    rfl
  | some k =>
    simp only [sendValve_eq, sendLamp_eq, releasePump_eq, sendAll_lampTo, setMode_lampTo, sendAll_orderTo,
      sendAll_pump, modPump_sendAll, modTank_sendAll, closeOnTank_eq, sendAll_sendAll, tank, Part.runRecord]
    rfl

@[simp] theorem endRun_hose_same (h : HoseNo) (cause : EndCause) (s : Session) (r : ProvingRun) (p : Part) :
    (endRun h cause s r p).hose h =
      { p.hose h with mode := .proving (s.runEnded (p.runResult h cause r)) } := by
  rw [endRun_eq, placeReserved_hose]
  unfold Part.runStopped
  cases (p.hose h).cfg.tank <;>
    simp only [sendAll_hose, modTank_hose_keep, modPump_hose_keep, setMode_eq, modHose_hose_same]

theorem endRun_hose_other {h j : HoseNo} (ne : j ≠ h) (cause : EndCause) (s : Session) (r : ProvingRun) (p : Part) :
    (endRun h cause s r p).hose j = p.hose j := by
  rw [endRun_eq, placeReserved_hose]
  unfold Part.runStopped
  cases (p.hose h).cfg.tank <;> exact nth_setNth_other _ _ ne.symm

theorem endRun_tank (h : HoseNo) (cause : EndCause) (s : Session) (r : ProvingRun) (t : TankNo) (p : Part) :
    (endRun h cause s r p).tank t =
      if (p.hose h).cfg.tank = some t then (p.tank t).hoseClosed else p.tank t := by
  rw [endRun_eq, placeReserved_tank]
  unfold Part.runStopped
  cases (p.hose h).cfg.tank with
  | none => simp; rfl
  | some k => simp only [Option.some.injEq]; exact modTank_tank ..

theorem endRun_pump (h : HoseNo) (cause : EndCause) (s : Session) (r : ProvingRun) (t : TankNo) (p : Part) :
    (endRun h cause s r p).pump t =
      if (p.hose h).cfg.tank = some t then (p.pump t).released else p.pump t := by
  rw [endRun_eq, placeReserved_pump]
  unfold Part.runStopped
  cases (p.hose h).cfg.tank with
  | none => simp; rfl
  | some k => simp only [Option.some.injEq]; exact modPump_pump ..

theorem runStopped_records (p : Part) (h : HoseNo) (cause : EndCause) (s : Session) (r : ProvingRun) :
    (p.runStopped h cause s r).records = p.records := by
  unfold Part.runStopped; cases (p.hose h).cfg.tank <;> rfl
theorem runStopped_reserved (p : Part) (h : HoseNo) (cause : EndCause) (s : Session) (r : ProvingRun) :
    (p.runStopped h cause s r).reserved = p.reserved := by
  unfold Part.runStopped; cases (p.hose h).cfg.tank <;> rfl
theorem runStopped_nextSerial (p : Part) (h : HoseNo) (cause : EndCause) (s : Session) (r : ProvingRun) :
    (p.runStopped h cause s r).nextSerial = p.nextSerial := by
  unfold Part.runStopped; cases (p.hose h).cfg.tank <;> rfl

theorem endRun_records (h : HoseNo) (cause : EndCause) (s : Session) (r : ProvingRun) (p : Part) :
    (endRun h cause s r p).records = p.records ++ [{ p.runRecord h cause s r with serial := p.nextSerial }] := by
  rw [endRun_eq, placeReserved_records, runStopped_records, runStopped_nextSerial]
theorem endRun_reserved (h : HoseNo) (cause : EndCause) (s : Session) (r : ProvingRun) (p : Part) :
    (endRun h cause s r p).reserved = p.reserved - 1 := by
  rw [endRun_eq, placeReserved_reserved, runStopped_reserved]

/-! ## End requests (R18) -/

theorem HoseMode.tally_of_closing {m : HoseMode} (c : m.isClosing = true) : ∃ cause ended t, m = .fill (.closing cause ended) t := by
  cases m with
  | fill ph t => cases ph with
    | closing cause ended => exact ⟨cause, ended, t, rfl⟩
    | _ => cases c
  | _ => cases c

/-- A request finds nothing to end where no transaction and no run is open. -/
theorem endRequest_of_none {h : HoseNo} {p : Part} (none : (p.hose h).mode.tally = none) (cause : EndCause) :
    endRequest h cause p = p := by
  unfold endRequest
  cases m : (p.hose h).mode with
  | fill ph t => rw [m] at none; cases none
  | proving s =>
    have : s.run = .none := by simpa [m, HoseMode.tally] using none
    simp only [this]
  | _ => rfl

/-- A fill in CLOSING keeps its cause (R20); a trip sends its lamp. -/
theorem endRequest_of_closing {h : HoseNo} {p : Part} (closing : (p.hose h).mode.isClosing = true) (cause : EndCause) :
    endRequest h cause p = if cause = .trip then sendLamp h lampTrip p else p := by
  obtain ⟨c, e, t, m⟩ := HoseMode.tally_of_closing closing
  unfold endRequest; simp only [m]

theorem endRequest_of_fill {h : HoseNo} {p : Part} {ph : Phase} {t : Transaction} (m : (p.hose h).mode = .fill ph t)
    (going : (p.hose h).mode.isClosing = false) (cause : EndCause) : endRequest h cause p = enterClosing h cause t p := by
  unfold endRequest; simp only [m]
  cases ph with
  | closing c e => rw [m] at going; cases going
  | _ => rfl

theorem endRequest_of_run {h : HoseNo} {p : Part} {s : Session} {r : ProvingRun} (m : (p.hose h).mode = .proving s)
    (run : s.run = some r) (cause : EndCause) :
    endRequest h cause p = if cause.endsRun then endRun h cause s r p else p := by
  unfold endRequest; simp only [m, run]

/-- All that an end request can do. -/
theorem endRequest_cases (h : HoseNo) (cause : EndCause) (p : Part) :
    endRequest h cause p = p ∨ (cause = .trip ∧ endRequest h cause p = sendLamp h lampTrip p) ∨
    (∃ ph t, (p.hose h).mode = .fill ph t ∧ (p.hose h).mode.isClosing = false ∧
      endRequest h cause p = enterClosing h cause t p) ∨
    (∃ s r, (p.hose h).mode = .proving s ∧ s.run = some r ∧ cause.endsRun = true ∧
      endRequest h cause p = endRun h cause s r p) := by
  cases closing : (p.hose h).mode.isClosing with
  | true =>
    rw [endRequest_of_closing closing]
    split
    · exact .inr (.inl ⟨‹_›, rfl⟩)
    · exact .inl rfl
  | false =>
    match m : (p.hose h).mode with
    | .fill ph t => exact .inr (.inr (.inl ⟨ph, t, rfl, rfl, endRequest_of_fill m closing cause⟩))
    | .proving s =>
      cases run : s.run with
      | none => exact .inl (endRequest_of_none (by simp [m, HoseMode.tally, run]) cause)
      | some r =>
        rw [endRequest_of_run m run]
        split
        · exact .inr (.inr (.inr ⟨s, r, rfl, run, ‹_›, rfl⟩))
        · exact .inl rfl
    | .idle | .out => exact .inl (endRequest_of_none (by simp [m, HoseMode.tally]) cause)

/-- What the ends of fills and runs keep, an end request keeps. -/
theorem endRequest_keep {α : Type} (view : Part → α) (h : HoseNo) (cause : EndCause) (p : Part)
    (lamp : ∀ v, view (sendLamp h v p) = view p) (fill : ∀ t, view (enterClosing h cause t p) = view p)
    (run : ∀ s r, cause.endsRun = true → view (endRun h cause s r p) = view p) : view (endRequest h cause p) = view p := by
  obtain e | ⟨_, e⟩ | ⟨_, t, _, _, e⟩ | ⟨s, r, _, _, c, e⟩ := endRequest_cases h cause p <;> rw [e]
  · exact lamp _
  · exact fill t
  · exact run s r c

theorem endRequest_hose_other {h j : HoseNo} (ne : j ≠ h) (cause : EndCause) (p : Part) :
    (endRequest h cause p).hose j = p.hose j :=
  endRequest_keep (·.hose j) h cause p (fun _ => by simp) (fun t => enterClosing_hose_other ne cause t p)
    fun s r _ => endRun_hose_other ne cause s r p

/-- An end changes nothing of a hose but its mode. -/
theorem endRequest_hose_mode (h j : HoseNo) (cause : EndCause) (p : Part) :
    (endRequest h cause p).hose j = { p.hose j with mode := ((endRequest h cause p).hose j).mode } := by
  by_cases ne : j = h
  · subst ne
    obtain e | ⟨_, e⟩ | ⟨_, t, _, _, e⟩ | ⟨s, r, _, _, c, e⟩ := endRequest_cases j cause p <;> rw [e]
    · rw [sendLamp_hose]
    · rw [enterClosing_hose_same]
    · rw [endRun_hose_same]
  · rw [endRequest_hose_other ne]

theorem endRequest_cfg (h j : HoseNo) (cause : EndCause) (p : Part) :
    ((endRequest h cause p).hose j).cfg = (p.hose j).cfg := by rw [endRequest_hose_mode]

/-- An end changes nothing of a tank but its open-hose count and its loss window. -/
theorem endRequest_tank (h : HoseNo) (cause : EndCause) (p : Part) (t : TankNo) :
    (endRequest h cause p).tank t = { p.tank t with
      openHoses := ((endRequest h cause p).tank t).openHoses, loss := ((endRequest h cause p).tank t).loss } := by
  obtain e | ⟨_, e⟩ | ⟨_, x, _, _, e⟩ | ⟨s, r, _, _, c, e⟩ := endRequest_cases h cause p <;> rw [e]
  · rw [sendLamp_tank]
  · rw [Part.tank, enterClosing_tanks]; rfl
  · rw [endRun_tank]; split <;> rfl

theorem endRequest_hoseZone (h j : HoseNo) (cause : EndCause) (p : Part) :
    (endRequest h cause p).hoseZone j = p.hoseZone j :=
  hoseZone_congr (by rw [endRequest_cfg]) fun t => by rw [endRequest_tank]

/-- Records are only added. -/
theorem endRequest_records (h : HoseNo) (cause : EndCause) (p : Part) :
    p.records <+: (endRequest h cause p).records := by
  obtain e | ⟨_, e⟩ | ⟨_, x, _, _, e⟩ | ⟨s, r, _, _, c, e⟩ := endRequest_cases h cause p <;> rw [e]
  · rw [sendLamp_records]
  · rw [enterClosing_records]
  · rw [endRun_records]; exact List.prefix_append ..

end Sys2Proof.Machine
end

section
/-! The ledger of the hoses: which machine names which hose, what each hose holds, and the two counts of each tank. Every
operation of the part is a run of seven moves on this ledger, and each of the promises O11 and O12 speak of is kept by
each move. -/

namespace Sys2Proof.Machine

open Sys2Proof

/-! ## The ledger -/

/-- What a hose holds: the machine slot of its open transaction, the tank whose pump it claims, and the tank whose
open-hose count counts it. -/
structure Stake where
  slot : Option SlotNo := none
  pump : Option TankNo := none
  tank : Option TankNo := none

def Hose.stake (x : Hose) : Stake :=
  match x.mode with
  | .fill (.closing _ _) t => { slot := some t.slot, tank := some t.tank }
  | .fill _ t => { slot := some t.slot, pump := some t.tank, tank := some t.tank }
  | .proving s => if s.run.isSome then { pump := x.cfg.tank, tank := x.cfg.tank } else {}
  | _ => {}

structure Ledger where
  owner : SlotNo → Option HoseNo
  stake : HoseNo → Stake
  claims : TankNo → Nat
  opens : TankNo → Nat

def Part.ledger (p : Part) : Ledger where
  owner m := (p.machine m).openHose
  stake h := (p.hose h).stake
  claims t := (p.pump t).count
  opens t := (p.tank t).openHoses

/-! ## The promises, read from the ledger -/

def Ledger.MachinesAgree (l : Ledger) : Prop := ∀ m h, l.owner m = some h ↔ (l.stake h).slot = some m

/-- A count of the hoses that hold a tank. -/
def holders (held : HoseNo → Option TankNo) (t : TankNo) : Nat := ∑ h, if held h = some t then 1 else 0

def Ledger.PumpsAgree (l : Ledger) : Prop := ∀ t, l.claims t = holders (fun h => (l.stake h).pump) t
def Ledger.OpensAgree (l : Ledger) : Prop := ∀ t, l.opens t = holders (fun h => (l.stake h).tank) t

theorem stake_slot_iff (x : Hose) (m : SlotNo) : x.stake.slot = some m ↔ x.mode.holds m = true := by
  unfold Hose.stake HoseMode.holds
  cases x.mode with
  | fill ph t => cases ph <;> simp
  | proving s => cases run : s.run <;> simp [run]
  | _ => simp

theorem claims_eq_stake (t : TankNo) (x : Hose) : x.claims t = if x.stake.pump = some t then 1 else 0 := by
  unfold Hose.stake Hose.claims
  cases x.mode with
  | fill ph txn => cases ph <;> simp
  | proving s => cases run : s.run <;> simp [run]
  | _ => simp

theorem opens_eq_stake (t : TankNo) (x : Hose) : x.opens t = if x.stake.tank = some t then 1 else 0 := by
  unfold Hose.stake Hose.opens
  cases x.mode with
  | fill ph txn => cases ph <;> simp
  | proving s => cases run : s.run <;> simp [run]
  | _ => simp

theorem sum_hoseNos (f : HoseNo → Nat) : (hoseNos.map f).sum = ∑ h, f h := by
  simp [hoseNos, Fin.sum_univ_eight]; omega

theorem machinesAgree_iff (p : Part) : p.MachinesAgree ↔ p.ledger.MachinesAgree := by
  simp only [Part.MachinesAgree, Ledger.MachinesAgree, Part.ledger, stake_slot_iff]

theorem pumpsAgree_iff (p : Part) : p.PumpsAgree ↔ p.ledger.PumpsAgree := by
  simp only [Part.PumpsAgree, Ledger.PumpsAgree, Part.ledger, holders, sum_hoseNos, claims_eq_stake]
  rfl

theorem openHosesAgree_iff (p : Part) : p.OpenHosesAgree ↔ p.ledger.OpensAgree := by
  simp only [Part.OpenHosesAgree, Ledger.OpensAgree, Part.ledger, holders, sum_hoseNos, opens_eq_stake]
  rfl

/-! ## The moves -/

/-- The seven moves: a fill enters CLOSING, a run ends, a fill leaves CLOSING, a fill opens on a free machine, a run
begins, RESTART puts the counts of an idle bay to 0, and the reset empties everything. -/
inductive Ledger.Move : Ledger → Ledger → Prop
  | shut (l : Ledger) (h : HoseNo) (m : SlotNo) (t : TankNo) :
      l.stake h = { slot := some m, pump := some t, tank := some t } →
      Move l { l with stake := Function.update l.stake h { slot := some m, tank := some t }
                      claims := Function.update l.claims t (l.claims t - 1) }
  | runEnd (l : Ledger) (h : HoseNo) (t : TankNo) : l.stake h = { pump := some t, tank := some t } →
      Move l { l with stake := Function.update l.stake h {}
                      claims := Function.update l.claims t (l.claims t - 1)
                      opens := Function.update l.opens t (l.opens t - 1) }
  | leave (l : Ledger) (h : HoseNo) (m : SlotNo) (t : TankNo) : l.stake h = { slot := some m, tank := some t } →
      Move l { l with owner := Function.update l.owner m none
                      stake := Function.update l.stake h {}
                      opens := Function.update l.opens t (l.opens t - 1) }
  | openFill (l : Ledger) (h : HoseNo) (m : SlotNo) (t : TankNo) : l.stake h = {} → l.owner m = none →
      Move l { owner := Function.update l.owner m (some h)
               stake := Function.update l.stake h { slot := some m, pump := some t, tank := some t }
               claims := Function.update l.claims t (l.claims t + 1)
               opens := Function.update l.opens t (l.opens t + 1) }
  | runBegin (l : Ledger) (h : HoseNo) (t : TankNo) : l.stake h = {} →
      Move l { l with stake := Function.update l.stake h { pump := some t, tank := some t }
                      claims := Function.update l.claims t (l.claims t + 1)
                      opens := Function.update l.opens t (l.opens t + 1) }
  | quiet (l : Ledger) : (∀ h, l.stake h = {}) → Move l { l with claims := fun _ => 0, opens := fun _ => 0 }
  | reset (l : Ledger) : Move l { owner := fun _ => none, stake := fun _ => {}, claims := fun _ => 0, opens := fun _ => 0 }

/-! ## Each move keeps each promise -/

/-- A count moves by what one hose takes up and gives back. -/
theorem holders_update (held : HoseNo → Option TankNo) (h : HoseNo) (x : Option TankNo) (t : TankNo) :
    holders (Function.update held h x) t + (if held h = some t then 1 else 0) =
      holders held t + (if x = some t then 1 else 0) := by
  have rest : ∀ g : HoseNo → Option TankNo, holders g t =
      (if g h = some t then 1 else 0) + ∑ i ∈ Finset.univ.erase h, if g i = some t then 1 else 0 := fun g =>
    (Finset.add_sum_erase Finset.univ (fun i => if g i = some t then (1 : Nat) else 0) (Finset.mem_univ h)).symm
  have others : (∑ i ∈ Finset.univ.erase h, if Function.update held h x i = some t then 1 else 0) =
      ∑ i ∈ Finset.univ.erase h, if held i = some t then 1 else 0 :=
    Finset.sum_congr rfl fun i hi => by rw [Function.update_of_ne (Finset.ne_of_mem_erase hi)]
  rw [rest held, rest (Function.update held h x), others, Function.update_self]
  omega

theorem holders_none (t : TankNo) : holders (fun _ => none) t = 0 := by simp [holders]

theorem holders_give {held : HoseNo → Option TankNo} {h : HoseNo} {k : TankNo} {count : TankNo → Nat}
    (agree : ∀ t, count t = holders held t) (had : held h = some k) (t : TankNo) :
    Function.update count k (count k - 1) t = holders (Function.update held h none) t := by
  have u := holders_update held h none t
  simp only [had, Option.some.injEq, reduceCtorEq, if_false] at u
  by_cases e : k = t
  · subst e; simp only [if_true, Function.update_self, agree k] at u ⊢; omega
  · rw [Function.update_of_ne (Ne.symm e), agree t]; simp only [e, if_false] at u; omega

theorem holders_take {held : HoseNo → Option TankNo} {h : HoseNo} {count : TankNo → Nat}
    (agree : ∀ t, count t = holders held t) (had : held h = none) (k t : TankNo) :
    Function.update count k (count k + 1) t = holders (Function.update held h (some k)) t := by
  have u := holders_update held h (some k) t
  simp only [had, Option.some.injEq, reduceCtorEq, if_false] at u
  by_cases e : k = t
  · subst e; simp only [if_true, Function.update_self, agree k] at u ⊢; omega
  · rw [Function.update_of_ne (Ne.symm e), agree t]; simp only [e, if_false] at u; omega

/-- One field of the stakes, after one hose's stake is replaced. -/
theorem stake_field_update {α : Type} (f : Stake → α) (stake : HoseNo → Stake) (h : HoseNo) (x : Stake) :
    (fun i => f (Function.update stake h x i)) = Function.update (fun i => f (stake i)) h (f x) :=
  Function.comp_update f stake h x

theorem pumpsAgree_move {l l' : Ledger} (a : l.PumpsAgree) (m : l.Move l') : l'.PumpsAgree := by
  intro t
  cases m with
  | shut h m k e => dsimp only; rw [stake_field_update]; exact holders_give a (by rw [e]) t
  | runEnd h k e => dsimp only; rw [stake_field_update]; exact holders_give a (by rw [e]) t
  | leave h m k e =>
    dsimp only
    rw [stake_field_update, show (({} : Stake).pump) = (l.stake h).pump by rw [e], Function.update_eq_self]
    exact a t
  | openFill h m k e => dsimp only; rw [stake_field_update]; exact holders_take a (by rw [e]) k t
  | runBegin h k e => dsimp only; rw [stake_field_update]; exact holders_take a (by rw [e]) k t
  | quiet e => simp [e, holders_none]
  | reset => simp [holders_none]

theorem opensAgree_move {l l' : Ledger} (a : l.OpensAgree) (m : l.Move l') : l'.OpensAgree := by
  intro t
  cases m with
  | shut h m k e =>
    dsimp only
    rw [stake_field_update, show some k = (l.stake h).tank by rw [e], Function.update_eq_self]
    exact a t
  | runEnd h k e => dsimp only; rw [stake_field_update]; exact holders_give a (by rw [e]) t
  | leave h m k e => dsimp only; rw [stake_field_update]; exact holders_give a (by rw [e]) t
  | openFill h m k e => dsimp only; rw [stake_field_update]; exact holders_take a (by rw [e]) k t
  | runBegin h k e => dsimp only; rw [stake_field_update]; exact holders_take a (by rw [e]) k t
  | quiet e => simp [e, holders_none]
  | reset => simp [holders_none]

/-- A hose that keeps its slot keeps the agreement of the machines. -/
theorem machinesAgree_of_same {l : Ledger} (a : l.MachinesAgree) {h : HoseNo} {x : Stake} (same : x.slot = (l.stake h).slot)
    (claims opens : TankNo → Nat) :
    Ledger.MachinesAgree { l with stake := Function.update l.stake h x, claims := claims, opens := opens } := by
  intro m j
  rw [a m j]
  by_cases e : j = h
  · subst e; simp [same]
  · simp [Function.update_of_ne e]

theorem machinesAgree_move {l l' : Ledger} (a : l.MachinesAgree) (m : l.Move l') : l'.MachinesAgree := by
  cases m with
  | shut h m k e => exact machinesAgree_of_same a (by rw [e]) _ _
  | runEnd h k e => exact machinesAgree_of_same a (by rw [e]) _ _
  | runBegin h k e => exact machinesAgree_of_same a (by rw [e]) _ _
  | leave h m k e =>
    intro i j
    have named : l.owner m = some h := (a m h).2 (by rw [e])
    by_cases ej : j = h
    · subst ej
      have : l.owner i = some j → i = m := fun o => Option.some.inj (((a i j).1 o).symm.trans (by rw [e]))
      by_cases ei : i = m
      · simp [ei]
      · simpa [Function.update_of_ne ei] using mt this ei
    · by_cases ei : i = m
      · subst ei
        have : (l.stake j).slot ≠ some i := fun o => ej (Option.some.inj (((a i j).2 o).symm.trans named))
        simpa [Function.update_of_ne ej] using this
      · simpa [Function.update_of_ne ej, Function.update_of_ne ei] using a i j
  | openFill h m k e free =>
    intro i j
    by_cases ej : j = h
    · subst ej
      have : l.owner i ≠ some j := fun o => by have := (a i j).1 o; rw [e] at this; cases this
      by_cases ei : i = m
      · simp [ei]
      · simp [Function.update_of_ne ei, this, Ne.symm ei]
    · by_cases ei : i = m
      · subst ei
        have : (l.stake j).slot ≠ some i := fun o => by have := (a i j).2 o; rw [free] at this; cases this
        simp [Function.update_of_ne ej, this, Ne.symm ej]
      · simpa [Function.update_of_ne ej, Function.update_of_ne ei] using a i j
  | quiet e => exact a
  | reset => intro i j; simp

/-! ## Runs of moves -/

/-- The part comes from another by moves of its ledger. -/
def Moves (p q : Part) : Prop := Relation.ReflTransGen Ledger.Move p.ledger q.ledger

theorem Moves.refl (p : Part) : Moves p p := Relation.ReflTransGen.refl
theorem Moves.trans {p q r : Part} (a : Moves p q) (b : Moves q r) : Moves p r := Relation.ReflTransGen.trans a b
theorem Moves.of_eq {p q : Part} (e : q.ledger = p.ledger) : Moves p q := by unfold Moves; rw [e]
theorem Moves.of_move {p q : Part} {l : Ledger} (m : p.ledger.Move l) (e : q.ledger = l) : Moves p q := by
  unfold Moves; rw [e]; exact .single m

/-- Moves before and after an operation that leaves the ledger alone. -/
theorem Moves.before {p q r : Part} (m : Moves q r) (e : q.ledger = p.ledger) : Moves p r := (Moves.of_eq e).trans m
theorem Moves.then {p q r : Part} (m : Moves p q) (e : r.ledger = q.ledger) : Moves p r := m.trans (.of_eq e)

theorem Moves.each {ι : Type} {f : ι → Part → Part} (step : ∀ i p, Moves p (f i p)) (is : List ι) (p : Part) :
    Moves p (each is f p) := each_invariant (Moves p) f is (fun i _ q hq => hq.trans (step i q)) (.refl p)

/-- What every move keeps, every run of moves keeps. -/
theorem Moves.keep {P : Ledger → Prop} (step : ∀ l l', P l → l.Move l' → P l') {p q : Part} (m : Moves p q)
    (hp : P p.ledger) : P q.ledger := by
  unfold Moves at m
  generalize q.ledger = l at m
  induction m with
  | refl => exact hp
  | tail _ m ih => exact step _ _ ih m

theorem Moves.machinesAgree {p q : Part} (m : Moves p q) (a : p.MachinesAgree) : q.MachinesAgree :=
  (machinesAgree_iff q).2 (m.keep (fun _ _ => machinesAgree_move) ((machinesAgree_iff p).1 a))
theorem Moves.pumpsAgree {p q : Part} (m : Moves p q) (a : p.PumpsAgree) : q.PumpsAgree :=
  (pumpsAgree_iff q).2 (m.keep (fun _ _ => pumpsAgree_move) ((pumpsAgree_iff p).1 a))
theorem Moves.openHosesAgree {p q : Part} (m : Moves p q) (a : p.OpenHosesAgree) : q.OpenHosesAgree :=
  (openHosesAgree_iff q).2 (m.keep (fun _ _ => opensAgree_move) ((openHosesAgree_iff p).1 a))

end Sys2Proof.Machine
end

section
/-! Every operation of the hoses, the stock, the trips and the monitor is a run of moves of the ledger. -/

namespace Sys2Proof.Machine

open Sys2Proof

/-! ## Operations that leave the ledger alone -/

/-- The ledger is read from the machines, the hoses, the pumps and the tanks. -/
theorem ledger_of_sansRecords {p q : Part} (h : q.sansRecords = p.sansRecords) : q.ledger = p.ledger := by
  have hoses : q.hoses = p.hoses := show q.sansRecords.hoses = p.sansRecords.hoses from h ▸ rfl
  have pumps : q.pumps = p.pumps := show q.sansRecords.pumps = p.sansRecords.pumps from h ▸ rfl
  have tanks : q.tanks = p.tanks := show q.sansRecords.tanks = p.sansRecords.tanks from h ▸ rfl
  have machines : q.machines = p.machines := show q.sansRecords.machines = p.sansRecords.machines from h ▸ rfl
  simp only [Part.ledger, Part.machine, Part.hose, Part.pump, Part.tank, hoses, pumps, tanks, machines]

theorem ledger_of_sansPorts {p q : Part} (h : q.sansPorts = p.sansPorts) : q.ledger = p.ledger :=
  ledger_of_sansRecords (sansRecords_of (sansNotices_of h))

@[simp] theorem sendAll_ledger (us : List Telegram) (p : Part) : (sendAll us p).ledger = p.ledger := rfl
@[simp] theorem modPort_ledger (q : PortId) (f : Port → Port) (p : Part) : (modPort q f p).ledger = p.ledger :=
  ledger_of_sansPorts (by simp)
@[simp] theorem sendValve_ledger (h : HoseNo) (c : Nat) (p : Part) : (sendValve h c p).ledger = p.ledger :=
  ledger_of_sansPorts (by simp)
@[simp] theorem sendInlet_ledger (t : TankNo) (c : Nat) (p : Part) : (sendInlet t c p).ledger = p.ledger :=
  ledger_of_sansPorts (by simp)
@[simp] theorem sendRun_ledger (t : TankNo) (c : Nat) (p : Part) : (sendRun t c p).ledger = p.ledger :=
  ledger_of_sansPorts (by simp)
@[simp] theorem forceLamp_ledger (h : HoseNo) (v : Byte) (p : Part) : (forceLamp h v p).ledger = p.ledger :=
  ledger_of_sansPorts (by simp)
@[simp] theorem sendLamp_ledger (h : HoseNo) (v : Byte) (p : Part) : (sendLamp h v p).ledger = p.ledger :=
  ledger_of_sansPorts (by simp)
@[simp] theorem shutOrders_ledger (hs : List HoseNo) (ts : List TankNo) (p : Part) :
    (shutOrders hs ts p).ledger = p.ledger := ledger_of_sansPorts (by simp)
@[simp] theorem dropBarred_ledger (p : Part) : (dropBarred p).ledger = p.ledger := rfl
@[simp] theorem reply_ledger (src : Node) (st : Status) (d : List Byte) (p : Part) :
    (reply src st d p).ledger = p.ledger := ledger_of_sansPorts (by simp)
@[simp] theorem consumeUp_ledger (p : Part) : (consumeUp p).ledger = p.ledger := ledger_of_sansPorts (by simp)
@[simp] theorem countEvent_ledger (q : PortId) (e : PortEvent) (p : Part) : (countEvent q e p).ledger = p.ledger :=
  ledger_of_sansPorts (by simp)
@[simp] theorem syncLines_ledger (p : Part) : (syncLines p).ledger = p.ledger := rfl
@[simp] theorem raise_ledger (n : Notice) (p : Part) : (raise n p).ledger = p.ledger :=
  ledger_of_sansRecords (sansRecords_of (by simp))
@[simp] theorem headChanged_ledger (p : Part) : (headChanged p).ledger = p.ledger := ledger_of_sansRecords (by simp)
@[simp] theorem placeRecord_ledger (r : Record) (p : Part) : (placeRecord r p).ledger = p.ledger :=
  ledger_of_sansRecords (by simp)
@[simp] theorem placeReserved_ledger (r : Record) (p : Part) : (placeReserved r p).ledger = p.ledger :=
  ledger_of_sansRecords (by simp)
@[simp] theorem reserve_ledger (k : Nat) (p : Part) : (reserve k p).ledger = p.ledger := rfl
@[simp] theorem release_ledger (k : Nat) (p : Part) : (release k p).ledger = p.ledger := rfl
@[simp] theorem modZone_ledger (z : ZoneNo) (f : Zone → Zone) (p : Part) : (modZone z f p).ledger = p.ledger := rfl
@[simp] theorem modDevice_ledger (n : DevNo) (f : Device → Device) (p : Part) : (modDevice n f p).ledger = p.ledger := rfl

/-- The Pass filter's decision leaves the ledger alone. -/
@[simp] theorem offer_ledger (dir : Direction) (t : Telegram) (p : Part) : (offer dir t p).ledger = p.ledger := by
  have e := offer_sansFilter dir t p
  have hoses : (offer dir t p).hoses = p.hoses :=
    show (offer dir t p).sansFilter.hoses = p.sansFilter.hoses from e ▸ rfl
  have pumps : (offer dir t p).pumps = p.pumps := show (offer dir t p).sansFilter.pumps = p.sansFilter.pumps from e ▸ rfl
  have tanks : (offer dir t p).tanks = p.tanks := show (offer dir t p).sansFilter.tanks = p.sansFilter.tanks from e ▸ rfl
  have machines : (offer dir t p).machines = p.machines :=
    show (offer dir t p).sansFilter.machines = p.sansFilter.machines from e ▸ rfl
  simp only [Part.ledger, Part.machine, Part.hose, Part.pump, Part.tank, hoses, pumps, tanks, machines]

/-! ## Objects changed -/

/-- The ledger after one object is replaced. -/
theorem modHose_ledger_eq (h : HoseNo) (f : Hose → Hose) (p : Part) : (modHose h f p).ledger =
    { p.ledger with stake := Function.update p.ledger.stake h (f (p.hose h)).stake } := by
  simp only [Part.ledger, Ledger.mk.injEq, modHose_machine_keep, modHose_pump_keep, modHose_tank_keep, true_and, and_true]
  funext j
  rw [modHose_hose, Function.update_apply]
  by_cases e : h = j
  · subst e; simp
  · simp [e, Ne.symm e]

theorem modTank_ledger_eq (t : TankNo) (f : Tank → Tank) (p : Part) : (modTank t f p).ledger =
    { p.ledger with opens := Function.update p.ledger.opens t (f (p.tank t)).openHoses } := by
  simp only [Part.ledger, Ledger.mk.injEq, modTank_machine_keep, modTank_pump_keep, modTank_hose_keep, true_and]
  funext j
  rw [modTank_tank, Function.update_apply]
  by_cases e : t = j
  · subst e; simp
  · simp [e, Ne.symm e]

theorem modPump_ledger_eq (t : TankNo) (f : Pump → Pump) (p : Part) : (modPump t f p).ledger =
    { p.ledger with claims := Function.update p.ledger.claims t (f (p.pump t)).count } := by
  simp only [Part.ledger, Ledger.mk.injEq, modPump_machine_keep, modPump_hose_keep, modPump_tank_keep, true_and, and_true]
  funext j
  rw [modPump_pump, Function.update_apply]
  by_cases e : t = j
  · subst e; simp
  · simp [e, Ne.symm e]

theorem modMachine_ledger_eq (m : SlotNo) (f : MachineRec → MachineRec) (p : Part) : (modMachine m f p).ledger =
    { p.ledger with owner := Function.update p.ledger.owner m (f (p.machine m)).openHose } := by
  simp only [Part.ledger, Ledger.mk.injEq, modMachine_pump_keep, modMachine_hose_keep, modMachine_tank_keep, and_true]
  funext j
  rw [modMachine_machine, Function.update_apply]
  by_cases e : m = j
  · subst e; simp
  · simp [e, Ne.symm e]

theorem modHose_ledger {h : HoseNo} {f : Hose → Hose} {p : Part} (e : (f (p.hose h)).stake = (p.hose h).stake) :
    (modHose h f p).ledger = p.ledger := by
  rw [modHose_ledger_eq, e, show (p.hose h).stake = p.ledger.stake h from rfl, Function.update_eq_self]
theorem modTank_ledger {t : TankNo} {f : Tank → Tank} {p : Part} (e : (f (p.tank t)).openHoses = (p.tank t).openHoses) :
    (modTank t f p).ledger = p.ledger := by
  rw [modTank_ledger_eq, e, show (p.tank t).openHoses = p.ledger.opens t from rfl, Function.update_eq_self]
theorem modPump_ledger {t : TankNo} {f : Pump → Pump} {p : Part} (e : (f (p.pump t)).count = (p.pump t).count) :
    (modPump t f p).ledger = p.ledger := by
  rw [modPump_ledger_eq, e, show (p.pump t).count = p.ledger.claims t from rfl, Function.update_eq_self]
theorem modMachine_ledger {m : SlotNo} {f : MachineRec → MachineRec} {p : Part}
    (e : (f (p.machine m)).openHose = (p.machine m).openHose) : (modMachine m f p).ledger = p.ledger := by
  rw [modMachine_ledger_eq, e, show (p.machine m).openHose = p.ledger.owner m from rfl, Function.update_eq_self]

/-- A hose's stake follows its mode and its tank field. -/
theorem stake_congr {x y : Hose} (mode : x.mode = y.mode) (tank : x.cfg.tank = y.cfg.tank) : x.stake = y.stake := by
  unfold Hose.stake; rw [mode, tank]

theorem stake_modTally (f : Tally → Tally) (x : Hose) : ({ x with mode := x.mode.modTally f } : Hose).stake = x.stake := by
  unfold Hose.stake
  cases m : x.mode with
  | fill ph t => cases ph <;> rfl
  | proving s => simp only [HoseMode.modTally, Option.isSome_map]
  | _ => rfl

@[simp] theorem modTally_ledger (h : HoseNo) (f : Tally → Tally) (p : Part) : (modTally h f p).ledger = p.ledger :=
  modHose_ledger (stake_modTally f _)
@[simp] theorem markDoubt_ledger (h : HoseNo) (p : Part) : (markDoubt h p).ledger = p.ledger := modTally_ledger ..
@[simp] theorem setPendingOut_ledger (h : HoseNo) (b : Bool) (p : Part) : (setPendingOut h b p).ledger = p.ledger :=
  modHose_ledger rfl
@[simp] theorem disturbWindows_ledger (t : TankNo) (p : Part) : (disturbWindows t p).ledger = p.ledger :=
  modTank_ledger rfl
@[simp] theorem tripDelivery_ledger (t : TankNo) (p : Part) : (tripDelivery t p).ledger = p.ledger := modTank_ledger rfl
@[simp] theorem takeReading_ledger (t : TankNo) (r : LevelReading) (p : Part) : (takeReading t r p).ledger = p.ledger :=
  modTank_ledger (by dsimp only; split <;> (try split) <;> rfl)

/-- A state a hose leaves no stake in. -/
theorem stake_idle {x : Hose} (m : x.mode = .idle ∨ x.mode = .out) : x.stake = {} := by
  unfold Hose.stake; rcases m with m | m <;> rw [m]

/-! ## The ends of fills and runs -/

theorem stake_fill {x : Hose} {ph : Phase} {t : Transaction} (m : x.mode = .fill ph t) (going : x.mode.isClosing = false) :
    x.stake = { slot := some t.slot, pump := some t.tank, tank := some t.tank } := by
  unfold Hose.stake
  simp only [m] at going ⊢
  cases ph with
  | closing c e => cases going
  | _ => rfl

theorem enterClosing_moves {h : HoseNo} {ph : Phase} {t : Transaction} {p : Part} (m : (p.hose h).mode = .fill ph t)
    (going : (p.hose h).mode.isClosing = false) (cause : EndCause) : Moves p (enterClosing h cause t p) := by
  refine .of_move (.shut p.ledger h t.slot t.tank (stake_fill m going)) ?_
  rw [enterClosing_eq, sendAll_ledger, modPump_ledger_eq, setMode_eq, modHose_ledger_eq]
  rfl

theorem stake_run {x : Hose} {s : Session} {r : ProvingRun} (m : x.mode = .proving s) (run : s.run = some r) :
    x.stake = { pump := x.cfg.tank, tank := x.cfg.tank } := by
  unfold Hose.stake; simp only [m, run, Option.isSome_some, if_true]

theorem stake_noRun {x : Hose} {s : Session} (m : x.mode = .proving s) (run : s.run = none) : x.stake = {} := by
  unfold Hose.stake; simp [m, run]

theorem endRun_moves {h : HoseNo} {s : Session} {r : ProvingRun} {p : Part} (m : (p.hose h).mode = .proving s)
    (run : s.run = some r) (cause : EndCause) : Moves p (endRun h cause s r p) := by
  have held := stake_run m run
  have ended : ({ p.hose h with mode := .proving (s.runEnded (p.runResult h cause r)) } : Hose).stake = {} :=
    stake_noRun rfl rfl
  rw [endRun_eq]
  unfold Part.runStopped
  cases tank : (p.hose h).cfg.tank with
  | none =>
    refine .of_eq ?_
    rw [placeReserved_ledger, sendAll_ledger, setMode_eq]
    exact modHose_ledger (by rw [ended, held, tank])
  | some k =>
    rw [tank] at held
    refine .of_move (.runEnd p.ledger h k held) ?_
    rw [placeReserved_ledger, sendAll_ledger, modTank_ledger_eq, modPump_ledger_eq, setMode_eq, modHose_ledger_eq, ended]
    rfl

theorem endRequest_moves (h : HoseNo) (cause : EndCause) (p : Part) : Moves p (endRequest h cause p) := by
  obtain e | ⟨_, e⟩ | ⟨ph, t, m, going, e⟩ | ⟨s, r, m, run, _, e⟩ := endRequest_cases h cause p <;> rw [e]
  · exact .refl p
  · exact .of_eq (by simp)
  · exact enterClosing_moves m going cause
  · exact endRun_moves m run cause

theorem endFills_moves (t : TankNo) (cause : EndCause) (p : Part) : Moves p (endFills t cause p) :=
  .each (fun h q => by split; exacts [endRequest_moves .., .refl q]) _ p

theorem stopPumping_moves (t : TankNo) (p : Part) : Moves p (stopPumping t p) := by
  unfold stopPumping
  refine Moves.trans ?_ (.of_eq (modPump_ledger rfl))
  split
  · exact .each (fun _ _ => endRequest_moves ..) _ p
  · exact .refl p

@[simp] theorem confirmPump_ledger (t : TankNo) (p : Part) : (confirmPump t p).ledger = p.ledger := by
  unfold confirmPump
  rw [each_keep Part.ledger _ (by simp)]
  exact modPump_ledger rfl

/-! ## Trips and recovery -/

theorem tripSource_moves (c : Cause) (z : ZoneNo) (p : Part) : Moves p (tripSource c z p) := by
  unfold tripSource
  split
  · exact .of_eq rfl
  · have ends : Moves p (each (p.zoneHoses z) (fun h => endRequest h .trip)
        (syncLines (modZone z (fun x => x.trip c (now p)) p))) :=
      Moves.trans (.of_eq (by simp)) (.each (fun _ _ => endRequest_moves ..) _ _)
    refine ends.trans (.of_eq ?_)
    rw [raise_ledger, each_keep Part.ledger _ (by simp), dropBarred_ledger, shutOrders_ledger]

theorem tripAll_moves (c : Cause) (p : Part) : Moves p (tripAll c p) := .each (fun _ _ => tripSource_moves ..) _ p
theorem tripFor_moves (c : Cause) (z : Option ZoneNo) (p : Part) : Moves p (tripFor c z p) := by
  unfold tripFor; split; exacts [tripSource_moves .., tripAll_moves ..]
theorem tripHose_moves (c : Cause) (h : HoseNo) (p : Part) : Moves p (tripHose c h p) := by
  unfold tripHose; split; exacts [tripSource_moves .., .refl p]

@[simp] theorem recoveryTest_ledger (z : ZoneNo) (p : Part) : (recoveryTest z p).ledger = p.ledger := by
  unfold recoveryTest; split <;> simp
@[simp] theorem enterRecovery_ledger (z : ZoneNo) (p : Part) : (enterRecovery z p).ledger = p.ledger := by
  unfold enterRecovery; rw [each_keep Part.ledger _ (by simp)]; simp
@[simp] theorem gaugeMark_ledger (t : TankNo) (p : Part) : (gaugeMark t p).ledger = p.ledger := by
  unfold gaugeMark; dsimp only; split <;> simp
@[simp] theorem setTankState_ledger (t : TankNo) (s : TankState) (p : Part) : (setTankState t s p).ledger = p.ledger := by
  unfold setTankState; rw [recoveryTest_ledger]; exact modTank_ledger rfl

/-! ## Stock -/

@[simp] theorem bookChange_openHoses (a : Account) (n : Int) (x : Tank) : (x.bookChange a n).openHoses = x.openHoses := by
  unfold Tank.bookChange; dsimp only; split <;> rfl

theorem lowStockTest_moves (t : TankNo) (p : Part) : Moves p (lowStockTest t p) := by
  unfold lowStockTest
  split
  · refine (endFills_moves t .tankLow p).trans (.of_eq ?_)
    dsimp only
    split
    · rfl
    · rw [raise_ledger]; exact modTank_ledger rfl
  · exact .of_eq (modTank_ledger rfl)

theorem handOff_moves (t : TankNo) (a : Account) (ml : Nat) (p : Part) : Moves p (handOff t a ml p) := by
  unfold handOff
  split
  · exact .refl p
  · refine Moves.trans (.of_eq ?_) ((lowStockTest_moves t _).trans (.of_eq (modTank_ledger rfl)))
    rw [modTank_ledger rfl, modTank_ledger (by simp)]

@[simp] theorem closeInlet_ledger (t : TankNo) (c : CloseCause) (p : Part) : (closeInlet t c p).ledger = p.ledger := by
  unfold closeInlet
  split
  · rw [modTank_ledger rfl, sendInlet_ledger]
  · rfl

theorem lossStep_moves (t : TankNo) (b : Bool) (p : Part) : Moves p (lossStep t b p) := by
  unfold lossStep
  dsimp only
  split
  · split
    · exact .of_eq (modTank_ledger rfl)
    · split
      · exact Moves.trans (.of_eq (modTank_ledger rfl)) (tripSource_moves ..)
      · exact .refl p
    · exact .refl p
  · exact .refl p

@[simp] theorem restStep_ledger (t : TankNo) (p : Part) : (restStep t p).ledger = p.ledger := by
  unfold restStep
  split
  · split
    · exact modTank_ledger rfl
    · rfl
  · exact modTank_ledger rfl
  · rfl

@[simp] theorem highHighTest_ledger (t : TankNo) (l : Nat) (p : Part) : (highHighTest t l p).ledger = p.ledger := by
  unfold highHighTest; split <;> simp

theorem takeLevel_moves (t : TankNo) (d : List Byte) (p : Part) : Moves p (takeLevel t d p) := by
  unfold takeLevel
  split
  · exact .refl p
  · split
    · exact .of_eq (by rw [faultedLevel, closeInlet_ledger, disturbWindows_ledger, modTank_ledger rfl])
    · dsimp only
      refine Moves.then ((lossStep_moves t _ _).before ?_) (by rw [highHighTest_ledger, restStep_ledger])
      split <;> simp

theorem restExpiry_moves (t : TankNo) (p : Part) : Moves p (restExpiry t p) := by
  unfold restExpiry
  dsimp only
  split
  · exact .refl p
  · split
    · exact .of_eq (modTank_ledger rfl)
    · split
      · exact (tripSource_moves ..).before (modTank_ledger rfl)
      · split
        · exact .of_eq ((raise_ledger ..).trans (modTank_ledger rfl))
        · exact .of_eq (modTank_ledger rfl)

theorem endDelivery_moves (t : TankNo) (c : CloseCause) (d : Delivery) (p : Part) : Moves p (endDelivery t c d p) := by
  have booked (n : Int) : Moves p (lowStockTest t (modTank t (fun x => x.bookChange .received n)
      (if d.closed.isNone then sendInlet t 0 p else p))) :=
    (lowStockTest_moves t _).before (by rw [modTank_ledger (by simp)]; split <;> simp)
  unfold endDelivery Moves
  dsimp only
  rw [setTankState_ledger, modTank_ledger rfl]
  split <;> simp only [raise_ledger, placeReserved_ledger] <;> exact booked _

theorem restartDelivery_moves (t : TankNo) (p : Part) : Moves p (restartDelivery t p) := by
  unfold restartDelivery; split; exacts [endDelivery_moves .., .refl p]

end Sys2Proof.Machine
end

section
/-! How a fill opens and a run begins (R8, R11, R180), said once as an equation. -/

namespace Sys2Proof.Machine

open Sys2Proof

/-- The orders an opening queues: SET to the open code, LAMP ready, and RUN 1 at the first claim on the pump. -/
def Part.openOrders (p : Part) (h : HoseNo) (t : TankNo) : List Telegram :=
  p.orderTo kindSet (.valve h) (BitVec.ofNat 8 (p.hose h).cfg.openCode) ++ p.lampTo h lampReady ++
    (if (p.pump t).count = 0 then p.orderTo kindRun (.starter t) 1 else [])

/-- A tank with one open hose more. -/
def Tank.hoseOpened (x : Tank) : Tank :=
  { x with openHoses := x.openHoses + 1, rest := .none,
           loss := if x.openHoses = 0 && x.loss == .none then .waiting else x.loss }

theorem openOnTank_eq (t : TankNo) (p : Part) : openOnTank t p = modTank t Tank.hoseOpened p := rfl

/-- A tally once its claim may have to wait for the starter. -/
def Tally.awaiting (waits : Bool) (y : Tally) : Tally := { y with pumpWait := y.pumpWait || waits }

/-- What an opening leaves apart from the reservation and the machine: the hose in its mode, the tank, the pump and the
orders. -/
def Part.opened (p : Part) (h : HoseNo) (f : Hose → Hose) (t : TankNo) : Part :=
  sendAll (p.openOrders h t) (modPump t (Pump.claimed (p.boundNode (.starter t)).isSome) (modTank t Tank.hoseOpened
    (modTally h (Tally.awaiting (p.claimWaits t)) (modHose h f p))))

/-- A hose opened in some way, then its tank, its orders and its claim. -/
theorem open_then_claim (h : HoseNo) (f : Hose → Hose) (t : TankNo) (p : Part)
    (keep : (f (p.hose h)).cfg = (p.hose h).cfg) :
    claimPump h t (sendLamp h lampReady (sendValve h (p.hose h).cfg.openCode (openOnTank t (modHose h f p)))) =
      p.opened h f t := by
  have tripped : (openOnTank t (modHose h f p)).hoseTripped h = p.hoseTripped h := by
    rw [← modHose_hoseTripped h h f p (by rw [keep])]
    refine hoseTripped_congr (hoseZone_congr rfl fun k => ?_) fun _ => rfl
    rw [openOnTank_eq, modTank_tank]; split <;> rfl
  have lamp : (openOnTank t (modHose h f p)).lampTo h lampReady = p.lampTo h lampReady :=
    lampTo_congr (p := p) (q := openOnTank t (modHose h f p)) rfl tripped lampReady
  simp only [sendValve_eq, sendLamp_eq, claimPump_eq, sendAll_lampTo, lamp, sendAll_orderTo, sendAll_pump,
    modPump_sendAll, modTally_sendAll, sendAll_sendAll]
  rfl

theorem openFill_eq (h : HoseNo) (t : Transaction) (p : Part) : openFill h t p =
    Part.opened (modMachine t.slot (fun m => { m with openHose := some h }) (reserve 1 p)) h
      (fun x => { x with mode := .fill .ready t, uncoupled := 0, uncoupledRaised := false }) t.tank := by
  rw [← open_then_claim _ _ _ _ rfl]
  unfold openFill
  congr 3
  rw [setMode_eq, show ∀ f g q, modHose h f (modMachine t.slot g (modHose h (fun x => { x with mode := .fill .ready t }) q)) =
    modHose h f (modHose h (fun x => { x with mode := .fill .ready t }) (modMachine t.slot g q)) from fun _ _ _ => rfl,
    modHose_modHose]

/-- The conditions of R180, one by one. -/
theorem runMayBegin_iff (p : Part) (h : HoseNo) (s : Session) : p.runMayBegin h s = true ↔
    ∃ k, (p.hose h).cfg.tank = some k ∧ s.ended.length < s.planned ∧ s.run = none ∧
      (p.zone (p.tank k).cfg.zone).state = .normal ∧ (p.tank k).state = .inService ∧
      p.roleGood (.meter h) = true ∧ p.roleGood (.reader h) = true := by
  unfold Part.runMayBegin Part.hoseZone
  cases (p.hose h).cfg.tank <;> simp [and_assoc]

theorem beginRun_refused {h : HoseNo} {s : Session} {p : Part} (no : p.runMayBegin h s = false) :
    beginRun h s p = sendLamp h lampRefused p := by unfold beginRun; simp only [no]

theorem beginRun_eq {h : HoseNo} {s : Session} {p : Part} {k : TankNo} (may : p.runMayBegin h s = true)
    (tank : (p.hose h).cfg.tank = some k) : beginRun h s p = p.opened h
      (fun x => { x with mode := .proving (s.withRun { start := now p, tally := { lastCode := (p.hose h).cfg.openCode } }) })
      k := by
  rw [← open_then_claim _ _ _ _ rfl]
  unfold beginRun
  simp only [may, tank]
  rfl

/-! ## What an opening leaves -/

theorem opened_hose_same (p : Part) (h : HoseNo) (f : Hose → Hose) (t : TankNo) :
    (p.opened h f t).hose h =
      { f (p.hose h) with mode := (f (p.hose h)).mode.modTally (Tally.awaiting (p.claimWaits t)) } := by
  simp only [Part.opened, sendAll_hose, modPump_hose_keep, modTank_hose_keep, modTally, modHose_hose_same]

theorem opened_hose_other (p : Part) {h j : HoseNo} (ne : j ≠ h) (f : Hose → Hose) (t : TankNo) :
    (p.opened h f t).hose j = p.hose j := by
  simp [Part.opened, modTally, modHose_hose, ne.symm]

theorem opened_tank (p : Part) (h : HoseNo) (f : Hose → Hose) (t k : TankNo) :
    (p.opened h f t).tank k = if t = k then (p.tank k).hoseOpened else p.tank k := by
  simp only [Part.opened, sendAll_tank, modPump_tank_keep, modTank_tank]
  rfl

theorem opened_pump (p : Part) (h : HoseNo) (f : Hose → Hose) (t k : TankNo) : (p.opened h f t).pump k =
    if t = k then (p.pump k).claimed (p.boundNode (.starter t)).isSome else p.pump k := by
  simp only [Part.opened, sendAll_pump, modPump_pump]
  rfl

theorem opened_fp (p : Part) (h : HoseNo) (f : Hose → Hose) (t : TankNo) :
    (p.opened h f t).fp = (p.openOrders h t).foldl (fun x u => x.queueOrder u) p.fp := by rfl

theorem opened_frame (p : Part) (h : HoseNo) (f : Hose → Hose) (t : TankNo) :
    let q := p.opened h f t
    q = { p with hoses := q.hoses, pumps := q.pumps, tanks := q.tanks, fp := q.fp } := by
  unfold Part.opened; rfl

end Sys2Proof.Machine
end

section
/-! Authorizations, samples, TAG reports and the monitor as runs of moves of the ledger. -/

namespace Sys2Proof.Machine

open Sys2Proof

/-! ## Openings -/

theorem opened_ledger (p : Part) (h : HoseNo) (f : Hose → Hose) (t : TankNo) : (p.opened h f t).ledger =
    { p.ledger with stake := Function.update p.ledger.stake h (f (p.hose h)).stake
                    claims := Function.update p.ledger.claims t (p.ledger.claims t + 1)
                    opens := Function.update p.ledger.opens t (p.ledger.opens t + 1) } := by
  unfold Part.opened
  rw [sendAll_ledger, modPump_ledger_eq, modTank_ledger_eq, modTally_ledger, modHose_ledger_eq]
  rfl

theorem openFill_moves {h : HoseNo} {t : Transaction} {p : Part} (idle : (p.hose h).stake = {})
    (free : (p.machine t.slot).openHose = none) : Moves p (openFill h t p) := by
  refine .of_move (.openFill p.ledger h t.slot t.tank idle free) ?_
  rw [openFill_eq, opened_ledger, modMachine_ledger_eq]
  rfl

theorem beginRun_moves {h : HoseNo} {s : Session} {p : Part} (m : (p.hose h).mode = .proving s) :
    Moves p (beginRun h s p) := by
  cases may : p.runMayBegin h s with
  | false => exact .of_eq (by rw [beginRun_refused may, sendLamp_ledger])
  | true =>
    obtain ⟨k, tank, _, run, _⟩ := (runMayBegin_iff p h s).1 may
    refine .of_move (.runBegin p.ledger h k (stake_noRun m run)) ?_
    rw [beginRun_eq may tank, opened_ledger, stake_run rfl rfl, tank]

/-! ## Authorization (R7) -/

@[simp] theorem refuseFill_ledger (h : HoseNo) (c : RefusalCause) (tag : Long) (m : Option SlotNo) (hours : Option Nat)
    (fl : Flags) (p : Part) : (refuseFill h c tag m hours fl p).ledger = p.ledger := by
  unfold refuseFill
  dsimp only
  split
  · simp
  · exact (modHose_ledger rfl).trans (by simp)

/-- Every check passes where none fails. -/
theorem firstFailure_eq_none {checks : List (Bool × RefusalCause)} :
    firstFailure checks = none ↔ ∀ c ∈ checks, c.1 = true := by
  simp [firstFailure]

theorem assess_openHose (m : MachineRec) (hours : Option Nat) : (m.assess hours).1.openHose = m.openHose := by
  unfold MachineRec.assess; dsimp only; split <;> (try split) <;> rfl

@[simp] theorem holdEvaluation_ledger (m : SlotNo) (c : ProductClass) (hours : Option Nat) (p : Part) :
    (holdEvaluation m c hours p).ledger = p.ledger := by
  have held : (modMachine m (fun x => { x with hold := x.evaluatedHold hours }) p).ledger = p.ledger := modMachine_ledger rfl
  unfold holdEvaluation
  dsimp only
  split
  · split
    · rw [raise_ledger, held]
    · exact held
  · rfl

theorem capCheck_moves {h : HoseNo} {r : TagReading} {m : SlotNo} {t : TankNo} {i : ProductNo} {p : Part}
    (idle : p.ledger.stake h = {}) (free : p.ledger.owner m = none) : Moves p (capCheck h r m t i p) := by
  have assessed (b : Bool) : (if b then raise .hoursFault (modMachine m (fun _ => ((p.machine m).assess r.hours).1) p)
      else modMachine m (fun _ => ((p.machine m).assess r.hours).1) p).ledger = p.ledger := by
    split
    · rw [raise_ledger, modMachine_ledger (assess_openHose ..)]
    · exact modMachine_ledger (assess_openHose ..)
  unfold capCheck
  dsimp only
  split
  · exact .of_eq ((refuseFill_ledger ..).trans (assessed _))
  · refine Moves.before (openFill_moves ?_ ?_) (assessed _)
    · exact (congrArg (fun l => l.stake h) (assessed _)).trans idle
    · exact (congrArg (fun l => l.owner m) (assessed _)).trans free

theorem authorize_moves {h : HoseNo} {p : Part} (idle : (p.hose h).stake = {}) (r : TagReading) :
    Moves p (authorize h r p) := by
  unfold authorize
  split
  · exact .of_eq (refuseFill_ledger ..)
  · split
    · exact .of_eq (refuseFill_ledger ..)
    · rename_i m _
      split
      · exact .of_eq (refuseFill_ledger ..)
      · exact .refl p
      · rename_i passed _
        have free : (p.machine m).openHose = none := by
          have := firstFailure_eq_none.1 passed ((p.machine m).openHose.isNone, .machineBusy) (by simp [machineChecks])
          simpa using this
        split
        · exact .refl p
        · dsimp only
          split
          · exact .of_eq (by simp)
          · split
            · exact .of_eq (by simp)
            · refine Moves.before (capCheck_moves ?_ ?_) (holdEvaluation_ledger ..) <;> rw [holdEvaluation_ledger]
              exacts [idle, free]

/-! ## TAG reports -/

theorem coupledEdge_moves (h : HoseNo) (r : TagReading) (p : Part) : Moves p (coupledEdge h r p) := by
  unfold coupledEdge
  split
  · exact authorize_moves (stake_idle (.inl ‹_›)) r
  · exact authorize_moves (stake_idle (.inr ‹_›)) r
  · exact beginRun_moves ‹_›
  · exact .refl p

theorem takeTag_moves (h : HoseNo) (d : List Byte) (p : Part) : Moves p (takeTag h d p) := by
  have requested (n : Nozzle) (q : Part) : Moves q (tagRequest h n q) := by
    unfold tagRequest; split; exacts [endRequest_moves .., .refl q]
  have reset (q : Part) : (holsteredReport h q).ledger = q.ledger := by
    unfold holsteredReport
    dsimp only
    split
    · exact (sendLamp_ledger ..).trans (modHose_ledger rfl)
    · exact (sendLamp_ledger ..).trans (modHose_ledger rfl)
    · exact modHose_ledger rfl
  unfold takeTag
  split
  · exact .refl p
  · rename_i r _
    have nozzle : Moves p (tagRequest h r.nozzle (modHose h (fun x => { x with nozzle := r.nozzle }) p)) :=
      (requested _ _).before (modHose_ledger rfl)
    dsimp only
    split <;> split
    · exact (nozzle.then (reset _)).trans (coupledEdge_moves ..)
    · exact nozzle.trans (coupledEdge_moves ..)
    · exact nozzle.then (reset _)
    · exact nozzle

/-! ## Samples -/

theorem addUncoupled_moves (h : HoseNo) (ml : Nat) (p : Part) : Moves p (addUncoupled h ml p) := by
  unfold addUncoupled
  dsimp only
  split
  · split
    · exact (tripHose_moves ..).before ((modHose_ledger rfl).trans (modHose_ledger rfl))
    · exact .of_eq (modHose_ledger rfl)
  · exact .refl p

theorem stake_addSums (a b c d : Nat) (x : Hose) : ({ x with mode := x.mode.addSums a b c d } : Hose).stake = x.stake := by
  unfold Hose.stake
  cases m : x.mode with
  | proving s => simp only [HoseMode.addSums, Option.isSome_map]
  | _ => rfl

theorem countSample_moves (h : HoseNo) (x : Sample) (c : MeterContext) (d : Nat) (p : Part) :
    Moves p (countSample h x c d p) := by
  have factor (curve : List CurvePoint) (rate : Nat) : (sampleFactor curve rate p).2.ledger = p.ledger := by
    unfold sampleFactor; split <;> rfl
  have worked (q : Part) (a : Account) (ml : Nat) (e : q.ledger = p.ledger) :
      Moves p (addUncoupled h ml (handOff c.tank a ml q)) :=
    ((handOff_moves c.tank a ml q).trans (addUncoupled_moves ..)).before e
  unfold countSample
  dsimp only
  split
  · exact worked _ _ _ ((modHose_ledger (stake_addSums ..)).trans ((modTally_ledger ..).trans (factor ..)))
  · exact worked _ _ _ ((modHose_ledger rfl).trans (factor ..))

theorem countJump_moves (h : HoseNo) (p : Part) : Moves p (countJump h p) := by
  have counted : (raise .meterJump (modTally h (fun t => { t with jumps := satAdd 255 t.jumps 1 })
      (modHose h (fun x => { x with jumpTotal := satAdd max16 x.jumpTotal 1 }) p))).ledger = p.ledger := by
    rw [raise_ledger, modTally_ledger, modHose_ledger rfl]
  unfold countJump
  dsimp only
  split
  · split
    · exact (endRequest_moves ..).before counted
    · exact .of_eq counted
  · exact .of_eq counted

/-- A mode that leaves the stake as it was. -/
theorem setMode_ledger {h : HoseNo} {m : HoseMode} {p : Part} (e : ({ p.hose h with mode := m } : Hose).stake = (p.hose h).stake) :
    (setMode h m p).ledger = p.ledger := modHose_ledger e

@[simp] theorem flowStep_ledger (h : HoseNo) (p : Part) : (flowStep h p).ledger = p.ledger := by
  unfold flowStep
  split
  · rename_i t m
    rw [sendLamp_ledger, setMode_ledger]
    exact (stake_fill (t := t) rfl rfl).trans (stake_fill m (by rw [m]; rfl)).symm
  · rename_i t m
    exact setMode_ledger ((stake_fill (t := t) rfl rfl).trans (stake_fill m (by rw [m]; rfl)).symm)
  · rfl

@[simp] theorem runFlowStep_ledger (h : HoseNo) (p : Part) : (runFlowStep h p).ledger = p.ledger := by
  unfold runFlowStep
  split
  · rename_i s m
    split
    · split
      · rfl
      · rw [sendLamp_ledger, setMode_ledger]
        exact (stake_run rfl rfl).trans (stake_run m ‹_›).symm
    · rfl
  · rfl

theorem capStep_moves (h : HoseNo) (p : Part) : Moves p (capStep h p) := by
  unfold capStep
  split
  · split; exacts [endRequest_moves .., .refl p]
  · split; exacts [endRequest_moves .., .refl p]
  · exact .refl p

theorem overrunStep_moves (h : HoseNo) (p : Part) : Moves p (overrunStep h p) := by
  unfold overrunStep
  split
  · split; exacts [tripHose_moves .., .refl p]
  · exact .refl p

theorem runCapStep_moves (h : HoseNo) (p : Part) : Moves p (runCapStep h p) := by
  unfold runCapStep
  split
  · split
    · split; exacts [endRequest_moves .., .refl p]
    · exact .refl p
  · exact .refl p

@[simp] theorem lowerThrottle_ledger (h : HoseNo) (v : Int) (t : Tally) (p : Part) :
    (lowerThrottle h v t p).ledger = p.ledger := by
  unfold lowerThrottle; dsimp only; split <;> simp

@[simp] theorem taperStep_ledger (h : HoseNo) (p : Part) : (taperStep h p).ledger = p.ledger := by
  unfold taperStep; split <;> simp

@[simp] theorem runTaperStep_ledger (h : HoseNo) (p : Part) : (runTaperStep h p).ledger = p.ledger := by
  unfold runTaperStep
  split
  · split <;> simp
  · rfl

/-- What follows a sample that added nothing, and one that added volume (R14 to R17, R180). -/
theorem afterSample_still (h : HoseNo) (p : Part) :
    afterSample h false p = runCapStep h (overrunStep h (capStep h p)) := by
  simp only [afterSample, Bool.false_eq_true, if_false]
theorem afterSample_moved (h : HoseNo) (p : Part) : afterSample h true p =
    runTaperStep h (taperStep h (runCapStep h (overrunStep h (capStep h (runFlowStep h (flowStep h p)))))) := by
  simp only [afterSample, if_true]

theorem afterSample_moves (h : HoseNo) (moved : Bool) (p : Part) : Moves p (afterSample h moved p) := by
  have steps (q : Part) (e : q.ledger = p.ledger) : Moves p (runCapStep h (overrunStep h (capStep h q))) :=
    ((capStep_moves h q).trans ((overrunStep_moves ..).trans (runCapStep_moves ..))).before e
  cases moved with
  | false => rw [afterSample_still]; exact steps p rfl
  | true =>
    rw [afterSample_moved]
    exact (steps (runFlowStep h (flowStep h p)) (by simp)).then (by simp)

theorem takeMeter_moves (h : HoseNo) (d : List Byte) (doubtful : Bool) (p : Part) : Moves p (takeMeter h d doubtful p) := by
  unfold takeMeter
  split
  · rename_i x _
    have start : (modHose h (fun y => { y with baseline := some x.count })
        (if x.fault || doubtful then markDoubt h p else p)).ledger = p.ledger := by
      rw [modHose_ledger rfl]; split <;> simp
    unfold takeSample
    dsimp only
    split
    · split
      · exact ((countJump_moves ..).trans (afterSample_moves ..)).before start
      · exact ((countSample_moves ..).trans (afterSample_moves ..)).before start
    · exact (afterSample_moves ..).before start
  · exact .refl p

/-! ## The monitor -/

theorem doubtFill_ledger (h : HoseNo) (p : Part) : (doubtFill h p).ledger = p.ledger := by
  unfold doubtFill; split <;> simp

theorem reportLost_moves (b : Binding) (p : Part) : Moves p (reportLost b p) := by
  cases b with
  | meter h => exact (endRequest_moves ..).before ((modHose_ledger rfl).trans (doubtFill_ledger h p))
  | reader h => exact endRequest_moves ..
  | starter t => exact stopPumping_moves ..
  | gauge t => exact .of_eq ((closeInlet_ledger ..).trans (disturbWindows_ledger t p))
  | sump z => unfold reportLost; dsimp only; split; exacts [tripSource_moves .., .refl p]
  | estop z => exact tripFor_moves ..
  | _ => exact .refl p

theorem reportHealth_moves (b : Binding) (new : Health) (p : Part) : Moves p (reportHealth b new p) := by
  cases new with
  | good => exact .refl p
  | doubtful =>
    refine .of_eq ?_
    cases b with
    | meter h => exact doubtFill_ledger h p
    | gauge t => exact disturbWindows_ledger t p
    | _ => rfl
  | lost => exact (reportLost_moves ..).before (raise_ledger ..)

theorem setScore_moves (n : DevNo) (score : Nat) (p : Part) : Moves p (setScore n score p) := by
  unfold setScore
  dsimp only
  split
  · exact .of_eq rfl
  · exact (reportHealth_moves ..).before rfl

theorem takeStarter_moves (t : TankNo) (d : List Byte) (p : Part) : Moves p (takeStarter t d p) := by
  unfold takeStarter
  split
  · exact .refl p
  · split
    · split <;> exact .of_eq (by simp)
    · split
      · split; exacts [stopPumping_moves .., .refl p]
      · exact .refl p

theorem handTelegram_moves (n : DevNo) (d : List Byte) (p : Part) : Moves p (handTelegram n d p) := by
  unfold handTelegram
  dsimp only
  split
  · exact .refl p
  · split; exacts [.refl p, takeMeter_moves ..]
  · exact takeTag_moves ..
  · unfold takeValve; split; exacts [.of_eq (modHose_ledger rfl), .refl p]
  · exact takeStarter_moves ..
  · unfold takeInlet; split; exacts [.of_eq (modTank_ledger rfl), .refl p]
  · split; exacts [.refl p, takeLevel_moves ..]
  · unfold takeSump
    split
    · exact .refl p
    · dsimp only; split; exacts [(tripSource_moves ..).before rfl, .of_eq rfl]
  · unfold takeEstop
    split
    · exact .refl p
    · dsimp only; split; exacts [(tripFor_moves ..).before rfl, .of_eq rfl]

@[simp] theorem finishTest_ledger (p : Part) : (finishTest p).ledger = p.ledger := raise_ledger ..

@[simp] theorem takeEchoBack_ledger (n : DevNo) (d : List Byte) (p : Part) : (takeEchoBack n d p).ledger = p.ledger := by
  unfold takeEchoBack
  split
  · rfl
  · split
    · rfl
    · split
      · dsimp only; split
        · rw [finishTest_ledger]; rfl
        · rfl
      · rfl

theorem fieldTelegram_moves (t : Telegram) (p : Part) : Moves p (fieldTelegram t p) := by
  have checked (n : DevNo) (kind : Byte) (d : List Byte) (q : Part) : Moves q (checkKind n kind d q) := by
    unfold checkKind
    dsimp only
    split
    · exact .of_eq (by simp)
    · split
      · exact .refl q
      · split; exacts [handTelegram_moves .., .of_eq rfl]
  have monitored (q : Part) : Moves q (monitorTelegram t q) := by
    unfold monitorTelegram
    split
    · exact .refl q
    · dsimp only
      split
      · exact (checked ..).before rfl
      · exact ((setScore_moves ..).trans (checked ..)).before rfl
  exact ((monitored _).before (modPort_ledger ..)).then (offer_ledger ..)

theorem periodExpiry_moves (n : DevNo) (p : Part) : Moves p (periodExpiry n p) := by
  unfold periodExpiry; split; exacts [.refl p, setScore_moves ..]

end Sys2Proof.Machine
end

section
/-! The COMMANDs, the table window, RESTART and the resets as runs of moves of the ledger; and with them the two promises
that every step keeps. -/

namespace Sys2Proof.Machine

open Sys2Proof

/-! ## Answers -/

theorem withArgs_moves {α : Type} {args : Option α} {f : α → Part → Answer} (h : ∀ a p, Moves p (f a p).part) (p : Part) :
    Moves p (withArgs args f p).part := by
  unfold withArgs; split; exacts [h .., .refl p]

theorem withIndex_moves {n : Nat} {x : Byte} {f : Fin n → Part → Answer} (h : ∀ i p, Moves p (f i p).part) (p : Part) :
    Moves p (withIndex n x f p).part := by
  unfold withIndex; split; exacts [h .., .refl p]

theorem withMachine_moves {slot : Word} {f : SlotNo → Part → Answer} (h : ∀ m p, Moves p (f m p).part) (p : Part) :
    Moves p (withMachine slot f p).part := by
  unfold withMachine
  split
  · split; exacts [.refl p, h ..]
  · exact .refl p

theorem withPort_moves {port : Byte} {f : PortId → Part → Answer} (h : ∀ q p, Moves p (f q p).part) (p : Part) :
    Moves p (withPort port f p).part := by
  unfold withPort
  split
  · exact h ..
  · split; exacts [h .., .refl p]

theorem command_moves {f : Part → Answer} (h : ∀ p, Moves p (f p).part) (src : Node) (p : Part) :
    Moves p (command src f p) :=
  ((h _).before (consumeUp_ledger p)).then (reply_ledger ..)

/-! ## The commands of hoses -/

@[simp] theorem enterOut_stake (x : Hose) : ({ x with mode := .out } : Hose).stake = {} := rfl

/-- Entry to OUT from a state in which the hose holds nothing. -/
theorem enterOut_ledger {h : HoseNo} {p : Part} (idle : p.ledger.stake h = {}) : (enterOut h p).ledger = p.ledger := by
  unfold enterOut
  rw [sendLamp_ledger, sendValve_ledger]
  exact setMode_ledger idle.symm

theorem hoseService_moves (hose form : Byte) (p : Part) : Moves p (hoseService hose form p).part := by
  have out (h : HoseNo) (q : Part) : Moves q (hoseOut h q).part := by
    unfold hoseOut
    split
    · exact .of_eq (enterOut_ledger (stake_idle (.inl ‹_›)))
    · exact .of_eq (setPendingOut_ledger ..)
    · exact (endRequest_moves ..).then (setPendingOut_ledger ..)
    · exact .refl q
    · exact .refl q
  have into (h : HoseNo) (q : Part) : Moves q (hoseIn h q).part := by
    unfold hoseIn
    split
    · exact .refl q
    · exact .refl q
    · exact .refl q
    · split
      · refine .of_eq ((sendLamp_ledger ..).trans (modHose_ledger ?_))
        rw [stake_idle (x := q.hose h) (.inr ‹_›)]; exact stake_idle (.inl rfl)
      · exact .refl q
  refine withIndex_moves (fun h q => ?_) p
  split
  · exact out h q
  · split; exacts [into h q, .refl q]

theorem stake_session {x : Hose} (m : x.mode = .out) {s : Session} (run : s.run = none) :
    ({ x with mode := .proving s } : Hose).stake = x.stake := by
  rw [stake_idle (x := x) (.inr m)]; exact stake_noRun rfl run

theorem proveStart_moves (args : Option (Byte × Byte × Long)) (p : Part) : Moves p (proveStartCommand args p).part := by
  refine withArgs_moves (fun a q => withIndex_moves (fun h q => ?_) q) p
  split
  · exact .refl q
  · split
    · exact .refl q
    · rename_i out
      split
      · exact .refl q
      · split
        · exact .refl q
        · split
          · exact .refl q
          · refine .of_eq ((sendLamp_ledger ..).trans ((setMode_ledger ?_).trans (reserve_ledger ..)))
            exact stake_session (show (q.hose h).mode = .out by simpa using out) rfl

theorem proveResult_moves (args : Option (Byte × Byte × Long)) (p : Part) : Moves p (proveResultCommand args p).part := by
  have credited (h : HoseNo) (ml : Nat) (q : Part) : Moves q (creditTank h ml q) := by
    unfold creditTank
    split
    · exact ((lowStockTest_moves ..).before (modTank_ledger (by simp))).then (disturbWindows_ledger ..)
    · exact .refl q
  refine withArgs_moves (fun a q => withIndex_moves (fun h q => ?_) q) p
  split
  · rename_i s m
    split
    · exact .refl q
    · split
      · exact .refl q
      · split
        · exact .refl q
        · refine (credited ..).before (setMode_ledger ?_)
          unfold Hose.stake; simp only [m]
  · exact .refl q

theorem dropSession_ledger {h : HoseNo} {p : Part} (idle : p.ledger.stake h = {}) : (dropSession h p).ledger = p.ledger := by
  unfold dropSession
  split
  · exact (enterOut_ledger (p := release _ p) idle).trans (release_ledger ..)
  · rfl

theorem abandonSession_moves (h : HoseNo) (p : Part) : Moves p (abandonSession h p) := by
  unfold abandonSession
  split
  · rename_i s m
    split
    · rename_i r run
      refine (endRun_moves m run .abandoned).then (dropSession_ledger ?_)
      show ((endRun h .abandoned s r p).hose h).stake = {}
      rw [endRun_hose_same]
      exact stake_noRun rfl rfl
    · exact .of_eq (dropSession_ledger (stake_noRun m ‹_›))
  · exact .refl p

theorem proveEnd_moves (hose form : Byte) (p : Part) : Moves p (proveEnd hose form p).part := by
  refine withIndex_moves (fun h q => ?_) p
  split
  · rename_i s m
    split
    · unfold acceptSession
      split
      · exact .refl q
      · rename_i run
        have idle : (q.hose h).stake = {} := stake_noRun m (by simpa using run)
        split
        · exact .refl q
        · rename_i ps position _
          have curve : (modHose h (fun y => { y with cfg := y.cfg.putCurve ps }) q).ledger = q.ledger :=
            modHose_ledger (stake_congr rfl rfl)
          dsimp only
          refine .of_eq ((raise_ledger ..).trans ((dropSession_ledger ?_).trans curve))
          rw [curve]; exact idle
    · split
      · exact (abandonSession_moves ..).then (raise_ledger ..)
      · exact .refl q
  · exact .refl q

/-! ## The commands of tanks and zones -/

theorem tankService_moves (tank form : Byte) (p : Part) : Moves p (tankService tank form p).part := by
  refine withIndex_moves (fun t q => ?_) p
  split
  · unfold tankOut
    split
    · exact .refl q
    · exact .refl q
    · split
      · exact .refl q
      · exact .of_eq ((setTankState_ledger ..).trans (modTank_ledger rfl))
  · split
    · unfold tankIn
      split
      · exact .refl q
      · split
        · exact (lowStockTest_moves ..).before (setTankState_ledger ..)
        · exact .refl q
    · exact .refl q

theorem stockSet_moves (args : Option (Byte × Long)) (p : Part) : Moves p (stockSetCommand args p).part := by
  refine withArgs_moves (fun a q => withIndex_moves (fun t q => ?_) q) p
  dsimp only
  split
  · exact .refl q
  · split
    · exact .refl q
    · split
      · exact .refl q
      · split
        · exact .refl q
        · exact ((lowStockTest_moves ..).before ((placeRecord_ledger ..).trans (modTank_ledger rfl))).then
            (disturbWindows_ledger ..)

theorem deliveryStart_moves (args : Option (Byte × Word)) (p : Part) : Moves p (deliveryStartCommand args p).part := by
  have started (t : TankNo) (declared : Nat) (q : Part) : (startDelivery t declared q).ledger = q.ledger := by
    unfold startDelivery
    rw [sendInlet_ledger, disturbWindows_ledger, setTankState_ledger, modTank_ledger rfl, reserve_ledger]
  refine withArgs_moves (fun a q => withIndex_moves (fun t q => .of_eq ?_) q) p
  dsimp only
  repeat' split
  all_goals first | rfl | exact started ..

theorem deliveryEnd_moves (tank : Option Byte) (p : Part) : Moves p (deliveryEndCommand tank p).part := by
  refine withArgs_moves (fun a q => withIndex_moves (fun t q => ?_) q) p
  split
  · exact endDelivery_moves ..
  · exact .refl q

theorem tripZone_moves (zone : Option Byte) (p : Part) : Moves p (tripZoneCommand zone p).part := by
  refine withArgs_moves (fun a q => ?_) p
  have one : Moves q (withIndex 4 a (fun z r => done (tripSource .command z r)) q).part :=
    withIndex_moves (fun z r => tripSource_moves _ z r) q
  split
  · dsimp only [done]
    exact tripAll_moves .command q
  · exact one

theorem tripReset_moves (zone : Option Byte) (p : Part) : Moves p (tripResetCommand zone p).part := by
  refine withArgs_moves (fun a q => withIndex_moves (fun z q => ?_) q) p
  split
  · exact .refl q
  · split; exacts [.refl q, .of_eq (enterRecovery_ledger ..)]

/-! ## The commands of the machines and of the responder -/

theorem machineState_moves (slot : Word) (state : Byte) (p : Part) : Moves p (machineState slot state p).part := by
  refine withMachine_moves (fun m q => ?_) p
  split
  · exact .of_eq (modMachine_ledger rfl)
  · split; exacts [.of_eq (modMachine_ledger rfl), .refl q]

theorem serviceDone_moves (args : Option (Word × Long)) (p : Part) : Moves p (serviceDoneCommand args p).part := by
  refine withArgs_moves (fun a q => withMachine_moves (fun m q => ?_) q) p
  split; exacts [.refl q, .of_eq (modMachine_ledger rfl)]

theorem take_moves (serial : Option Word) (p : Part) : Moves p (takeCommand serial p).part := by
  unfold takeCommand
  cases serial with
  | none => exact .refl p
  | some w =>
    dsimp only
    unfold takeHead
    split
    · exact .refl p
    · split; exacts [.of_eq ((headChanged_ledger ..).trans rfl), .refl p]

@[simp] theorem stopTest_ledger (p : Part) : (stopTest p).ledger = p.ledger := by
  unfold stopTest; split <;> rfl

@[simp] theorem stopTestNoticed_ledger (p : Part) : (stopTestNoticed p).ledger = p.ledger := by
  unfold stopTestNoticed; split <;> simp

theorem queueEcho_ledger (t : LineTest) (p : Part) : (queueEcho t p).ledger = p.ledger := rfl

theorem lineTestStart_moves (continuous : Bool) (args : Option (Byte × Byte × Byte × Byte × Byte)) (p : Part) :
    Moves p (lineTestStart continuous args p).part := by
  unfold lineTestStart
  split
  · exact .refl p
  · split
    · exact .refl p
    · split
      · exact .refl p
      · split; exacts [.of_eq rfl, .refl p]

theorem lineTestStop_moves (mode : Option Byte) (p : Part) : Moves p (lineTestStopCommand mode p).part := by
  unfold lineTestStopCommand; split; exacts [.of_eq (stopTestNoticed_ledger p), .refl p]

theorem bayMode_moves (mode : Option Byte) (p : Part) : Moves p (bayModeCommand mode p).part := by
  have run (q : Part) : (enterRun q).ledger = q.ledger := by
    show (if q.bayMode = .layUp then stopTestNoticed q else q).ledger = q.ledger
    split <;> simp
  refine withArgs_moves (fun a q => ?_) p
  dsimp only
  split
  · exact .of_eq (run q)
  · split
    · exact .of_eq rfl
    · split <;> exact .refl q

/-- A command that changes none of the hoses, pumps, tanks and machines. -/
theorem profile_moves (letter : Option Byte) (p : Part) : Moves p (profileCommand letter p).part := by
  refine withArgs_moves (fun a q => ?_) p
  split
  · exact .refl q
  · split; exacts [.refl q, .of_eq rfl]

theorem profileSource_moves (source : Option Byte) (p : Part) : Moves p (profileSourceCommand source p).part := by
  refine withArgs_moves (fun a q => ?_) p
  split
  · exact .of_eq rfl
  · split; exacts [.of_eq rfl, .refl q]

theorem lineRate_moves (code : Option Byte) (p : Part) : Moves p (lineRateCommand code p).part := by
  refine withArgs_moves (fun a q => ?_) p
  split; exacts [.refl q, .of_eq (modPort_ledger ..)]

theorem counterSelect_moves (args : Option (Byte × Byte)) (p : Part) : Moves p (counterSelectCommand args p).part := by
  refine withArgs_moves (fun a q => withPort_moves (fun i q => ?_) q) p
  split; exacts [.of_eq (modPort_ledger ..), .refl q]

theorem counterRead_moves (port : Option Byte) (p : Part) : Moves p (counterReadCommand port p).part :=
  withArgs_moves (fun _ q => withPort_moves (fun _ _ => .of_eq (modPort_ledger ..)) q) p

/-! ## The table window -/

theorem window_moves (args : Option (Byte × Word)) (p : Part) : Moves p (windowCommand args p).part := by
  refine withArgs_moves (fun a q => ?_) p
  dsimp only
  split; exacts [.of_eq rfl, .refl q]

theorem stepMode_moves (mode : Option Byte) (p : Part) : Moves p (stepModeCommand mode p).part := by
  refine withArgs_moves (fun a q => ?_) p
  dsimp only
  split
  · exact .of_eq rfl
  · split
    · exact .of_eq rfl
    · split; exacts [.of_eq rfl, .refl q]

theorem read_moves (n : Option Byte) (p : Part) : Moves p (readCommand n p).part := by
  refine withArgs_moves (fun a q => ?_) p
  dsimp only
  split
  · exact .refl q
  · split
    · exact .refl q
    · dsimp only; split; exacts [.of_eq rfl, .refl q]

/-- Whatever a cell applies to the part is a run of moves. -/
def Cell.Moved (p : Part) (c : Cell) : Prop :=
  match c.slot with
  | .shut _ => True
  | .one f => ∀ w q, f w p = .ok q → Moves p q
  | .lower => True
  | .upper f => ∀ w q, f w p = .ok q → Moves p q

/-- Whatever some cells apply to the part is a run of moves. -/
structure CellsMoved (p : Part) (cs : List Cell) : Prop where
  each : ∀ c ∈ cs, c.Moved p

theorem CellsMoved.append {p : Part} {cs ds : List Cell} (hc : CellsMoved p cs) (hd : CellsMoved p ds) :
    CellsMoved p (cs ++ ds) := ⟨fun c h => (List.mem_append.1 h).elim (hc.each c) (hd.each c)⟩

theorem CellsMoved.flatMap {α : Type} {p : Part} {is : List α} {f : α → List Cell} (h : ∀ i, CellsMoved p (f i)) :
    CellsMoved p (is.flatMap f) := ⟨fun c hc => by
  obtain ⟨i, _, hi⟩ := List.mem_flatMap.1 hc
  exact (h i).each c hi⟩

theorem CellsMoved.gated {p : Part} {ok : Bool} {st : Status} {cs : List Cell} (h : ok = true → CellsMoved p cs) :
    CellsMoved p (gated ok st cs) := by
  cases ok with
  | true => exact h rfl
  | false =>
    refine ⟨fun c hc => ?_⟩
    obtain ⟨d, _, rfl⟩ := List.mem_map.1 hc
    trivial

theorem ro_moved (p : Part) (v : Word) : CellsMoved p (ro v) := ⟨fun c h => by
  rw [List.mem_singleton.1 h]; trivial⟩
theorem ro2_moved (p : Part) (v : Long) : CellsMoved p (ro2 v) :=
  (ro_moved ..).append (ro_moved ..)
theorem rw1_moved {p : Part} {v : Word} {f : Word → Part → Except Status Part} (h : ∀ w q, f w p = .ok q → Moves p q) :
    CellsMoved p (rw1 v f) := ⟨fun c hc => by rw [List.mem_singleton.1 hc]; exact h⟩
theorem rw2_moved {p : Part} {v : Long} {f : Long → Part → Except Status Part} (h : ∀ w q, f w p = .ok q → Moves p q) :
    CellsMoved p (rw2 v f) := ⟨fun c hc => by
  rcases List.mem_cons.1 hc with rfl | hc
  · trivial
  · rw [List.mem_singleton.1 hc]; exact h⟩

theorem within_ok {ok : Bool} {f : Part → Part} {p q : Part} (h : within ok f p = .ok q) : q = f p := by
  unfold within at h; split at h
  · exact (Except.ok.inj h).symm
  · cases h

theorem number_moved {p : Part} {v lo hi : Nat} {f : Nat → Part → Part} (h : ∀ n, Moves p (f n p)) :
    CellsMoved p (number v lo hi f) := rw1_moved fun _ _ e => within_ok e ▸ h _
theorem number2_moved {p : Part} {v lo hi : Nat} {f : Nat → Part → Part} (h : ∀ n, Moves p (f n p)) :
    CellsMoved p (number2 v lo hi f) := rw2_moved fun _ _ e => within_ok e ▸ h _
theorem zeroOnly_moved {p : Part} {v : Nat} {f : Part → Part} (h : Moves p (f p)) : CellsMoved p (zeroOnly v f) :=
  rw1_moved fun _ _ e => within_ok e ▸ h
theorem zeroOnly2_moved {p : Part} {v : Nat} {f : Part → Part} (h : Moves p (f p)) : CellsMoved p (zeroOnly2 v f) :=
  rw2_moved fun _ _ e => within_ok e ▸ h
theorem hourField_moved {p : Part} {v : Option Nat} {f : Option Nat → Part → Part} (h : ∀ n, Moves p (f n p)) :
    CellsMoved p (hourField v f) := rw2_moved fun _ _ e => Except.ok.inj e ▸ h _

theorem writeTag_moves {m : SlotNo} {tag : Long} {p q : Part} (e : writeTag m tag p = .ok q) : Moves p q := by
  unfold writeTag at e
  split at e
  · cases e; exact .refl _
  · split at e
    · cases e
    · rename_i free
      split at e
      · cases e
        exact .of_eq (modMachine_ledger (Option.not_isSome_iff_eq_none.1 free).symm)
      · split at e
        · cases e
        · cases e; exact .of_eq (modMachine_ledger rfl)

theorem machineEntry_moved (m : SlotNo) (p : Part) : CellsMoved p (machineEntry m (p.machine m)) := by
  have kept {f : MachineRec → MachineRec} (e : ∀ x, (f x).openHose = x.openHose) : Moves p (modMachine m f p) :=
    .of_eq (modMachine_ledger (e _))
  have doubt : CellsMoved p (rw1 (w16 ((p.machine m).doubt + bitIf (p.machine m).abnormal 32768)) (writeDoubt m)) :=
    rw1_moved fun w q e => within_ok e ▸ kept fun _ => rfl
  unfold machineEntry
  repeat' with_reducible apply CellsMoved.append
  · exact rw2_moved fun w q e => writeTag_moves e
  · exact ro_moved ..
  · exact doubt
  · exact .flatMap fun i => number_moved fun n => kept fun _ => rfl
  · exact number2_moved fun n => kept fun _ => rfl
  · exact number_moved fun n => kept fun _ => rfl
  · exact hourField_moved fun n => kept fun _ => rfl
  · exact hourField_moved fun n => kept fun _ => rfl
  · exact number2_moved fun n => kept fun _ => rfl
  · exact hourField_moved fun n => kept fun _ => rfl
  · exact number_moved fun n => kept fun _ => rfl
  · exact number_moved fun n => kept fun _ => rfl
  · exact number_moved fun n => kept fun _ => rfl
  · exact number2_moved fun n => kept fun _ => rfl
  · exact number_moved fun n => kept fun _ => rfl

/-- A hose that is OUT may take another tank: it holds nothing. -/
theorem giveTank_moves {h : HoseNo} {p : Part} (out : (p.hose h).mode = .out) (t : Option TankNo) :
    Moves p (giveTank h t p) := by
  have given : (modHose h (fun x => { x with cfg := { x.cfg with tank := t }, straySet := {} }) p).ledger = p.ledger := by
    refine modHose_ledger ?_
    rw [stake_idle (x := p.hose h) (.inr out)]; exact stake_idle (.inr out)
  unfold giveTank
  dsimp only
  split
  · exact .of_eq ((dropBarred_ledger _).trans given)
  · exact .of_eq given

theorem hoseEntry_moved (h : HoseNo) (p : Part) : CellsMoved p (hoseEntry h p) := by
  have kept {f : Hose → Hose} (mode : ∀ x, (f x).mode = x.mode) (tank : ∀ x, (f x).cfg.tank = x.cfg.tank) :
      Moves p (modHose h f p) := .of_eq (modHose_ledger (stake_congr (mode _) (tank _)))
  have cfg {f : HoseConfig → HoseConfig} (e : ∀ x, (f x).tank = x.tank) : Moves p (modConfig h f p) :=
    kept (fun _ => rfl) (fun _ => e _)
  have step (i : Fin 4) (f : TaperStep → TaperStep) : Moves p (modStep h i f p) := cfg fun _ => rfl
  have opens : CellsMoved p (openWords (p.hose h).mode) := by
    unfold openWords
    split
    · repeat' with_reducible apply CellsMoved.append
      all_goals first | exact ro_moved .. | exact ro2_moved ..
    · exact .flatMap fun i => ro_moved ..
  unfold hoseEntry hoseConfigWords
  dsimp only
  repeat' with_reducible apply CellsMoved.append
  · exact ro_moved ..
  · refine .gated fun out => rw1_moved fun w q e => ?_
    rw [within_ok e]
    exact giveTank_moves (by simpa using out) _
  · exact ro_moved ..
  · exact ro_moved ..
  · exact ro_moved ..
  · refine .gated fun _ => ?_
    repeat' with_reducible apply CellsMoved.append
    · exact number2_moved fun n => cfg fun _ => rfl
    · exact number_moved fun n => cfg fun _ => rfl
    · exact number_moved fun n => cfg fun _ => rfl
    · exact number_moved fun n => cfg fun _ => rfl
    · exact number_moved fun n => cfg fun _ => rfl
    · exact number_moved fun n => cfg fun _ => rfl
    · exact number_moved fun n => cfg fun _ => rfl
    · exact .flatMap fun i => (rw1_moved fun w q e => Except.ok.inj e ▸ cfg fun _ => rfl).append
        (number2_moved fun n => cfg fun _ => rfl)
    · exact number_moved fun n => cfg fun _ => rfl
    · exact .flatMap fun i => (number_moved fun n => step i _).append (number_moved fun n => step i _)
  · exact ro_moved ..
  · exact ro_moved ..
  · exact ro2_moved ..
  · exact zeroOnly2_moved (kept (fun _ => rfl) fun _ => rfl)
  · exact ro_moved ..
  · exact zeroOnly_moved (kept (fun _ => rfl) fun _ => rfl)
  · exact .flatMap fun i => zeroOnly_moved (kept (fun _ => rfl) fun _ => rfl)
  · exact opens

theorem moveTank_moves (t : TankNo) (z : ZoneNo) (p : Part) : Moves p (moveTank t z p) := by
  have moved : (modTankConfig t (fun c => { c with zone := z }) p).ledger = p.ledger := modTank_ledger rfl
  unfold moveTank
  dsimp only
  split
  · exact .refl p
  · split
    · refine Moves.then ?_ ((recoveryTest_ledger ..).trans ((recoveryTest_ledger ..).trans
        ((dropBarred_ledger _).trans (shutOrders_ledger ..))))
      exact (Moves.each (fun _ _ => endRequest_moves ..) _ _).before moved
    · exact .of_eq ((recoveryTest_ledger ..).trans ((recoveryTest_ledger ..).trans moved))

theorem tankEntry_moved (t : TankNo) (p : Part) : CellsMoved p (tankEntry t p) := by
  have cfg (f : TankConfig → TankConfig) : Moves p (modTankConfig t f p) := .of_eq (modTank_ledger rfl)
  have zone (w : Word) (q : Part) (e : writeZone t w p = .ok q) : Moves p q := by
    unfold writeZone at e
    split at e
    · cases e; exact moveTank_moves ..
    · cases e
  have delivery : CellsMoved p (deliveryWords (p.tank t).delivery) := by
    unfold deliveryWords
    split
    all_goals
      repeat' with_reducible apply CellsMoved.append
      all_goals first | exact ro_moved .. | exact ro2_moved ..
  unfold tankEntry tankConfigWords
  dsimp only
  repeat' with_reducible apply CellsMoved.append
  case hd => exact ro_moved ..
  all_goals first | exact ro_moved .. | exact ro2_moved .. | exact delivery | skip
  refine .gated fun _ => ?_
  repeat' with_reducible apply CellsMoved.append
  all_goals first | exact number_moved fun n => cfg _ | exact number2_moved fun n => cfg _ | exact rw1_moved zone

theorem strapEntry_moved (t : TankNo) (p : Part) : CellsMoved p (strapEntry t (p.tank t)) := by
  have cfg (f : TankConfig → TankConfig) : Moves p (modTankConfig t f p) := .of_eq (modTank_ledger rfl)
  exact .gated fun _ => (number_moved fun n => cfg _).append
    (.flatMap fun i => (number_moved fun n => cfg _).append (number2_moved fun n => cfg _))

theorem rebindOwner_ledger (b : Binding) (p : Part) : (rebindOwner b p).ledger = p.ledger := by
  cases b with
  | meter h => exact modHose_ledger (stake_congr rfl rfl)
  | reader h => exact modHose_ledger (stake_congr rfl rfl)
  | valve h => exact modHose_ledger (stake_congr rfl rfl)
  | starter t => exact modPump_ledger rfl
  | inlet t => exact modTank_ledger rfl
  | gauge t => exact disturbWindows_ledger t p
  | _ => rfl

theorem bindDevice_moves {n : DevNo} {role object : Nat} {p q : Part} (e : bindDevice n role object p = .ok q) :
    Moves p q := by
  have held (b : Binding) (r : Part) : (holdTaken b r).ledger = r.ledger := by
    unfold holdTaken; split <;> (try split) <;> rfl
  unfold bindDevice at e
  split at e
  · cases e
  · split at e
    · cases e
    · dsimp only at e
      split at e
      · cases e; exact .refl _
      · split at e
        · cases e
        · split at e
          · cases e
          · split at e
            · cases e
            · cases e
              exact .of_eq ((held ..).trans ((rebindOwner_ledger ..).trans (rebindOwner_ledger ..)))

theorem cells_moved (sel : Selection) (p : Part) : CellsMoved p (cells sel p) := by
  cases sel with
  | machine m => exact machineEntry_moved m p
  | hose h => exact hoseEntry_moved h p
  | tank t => exact tankEntry_moved t p
  | strap t => exact strapEntry_moved t p
  | product i =>
    refine .gated fun _ => ?_
    refine .append (.append (.append (rw1_moved fun w q e => ?_) (number_moved fun n => .of_eq rfl))
      (rw1_moved fun w q e => within_ok e ▸ .of_eq rfl)) (ro_moved ..)
    unfold writeClass at e
    split at e
    · cases e; exact .of_eq rfl
    · cases e
  | device n =>
    exact .append (.append (.append (.append (rw1_moved fun w q e => bindDevice_moves e)
      (rw1_moved fun w q e => Except.ok.inj e ▸ .of_eq rfl)) (ro_moved ..)) (zeroOnly_moved (.of_eq rfl))) (ro_moved ..)
  | rule r =>
    refine .append (.append (.append (.append (rw1_moved fun w q e => ?_)
      (rw1_moved fun w q e => Except.ok.inj e ▸ .of_eq rfl)) (rw1_moved fun w q e => within_ok e ▸ .of_eq rfl))
      (ro_moved ..)) (zeroOnly_moved (.of_eq rfl))
    unfold writeRuleHead at e
    split at e
    · cases e; exact .of_eq rfl
    · cases e
  | filter =>
    exact .append (.append (.append (rw1_moved fun w q e => Except.ok.inj e ▸ .of_eq rfl) (zeroOnly_moved (.of_eq rfl)))
      (zeroOnly_moved (.of_eq rfl))) (ro_moved ..)
  | profileA =>
    refine .append (.append (.append (.append (.append ?_ ?_) ?_) ?_) ?_) (rw1_moved fun w q e =>
      Except.ok.inj e ▸ .of_eq rfl) <;> exact number_moved fun n => .of_eq rfl
  | profileB =>
    refine .append (.append (.append (.append (.append ?_ ?_) ?_) ?_) ?_) (rw1_moved fun w q e =>
      Except.ok.inj e ▸ .of_eq rfl) <;> exact number_moved fun n => .of_eq rfl
  | recordHead => exact .flatMap fun v => ro_moved ..
  | zone z =>
    refine .append (.append (.append (.append (.append (.append (.append (ro_moved ..) (ro_moved ..)) (ro2_moved ..))
      (ro_moved ..)) (zeroOnly_moved (.of_eq rfl))) (number_moved fun n => .of_eq rfl)) (ro_moved ..)) (ro_moved ..)

theorem writeWord_moves {sel : Selection} {k : Nat} {w : Word} {p q : Part} (e : writeWord sel k w p = .ok q) :
    Moves p q := by
  unfold writeWord at e
  split at e
  · cases e; exact .refl _
  · rename_i c hc
    have moved := (cells_moved sel p).each c (List.mem_of_getElem? hc)
    unfold Cell.Moved at moved
    split at e
    · cases e
    · rename_i f slot; rw [slot] at moved; exact moved _ _ e
    · cases e; exact .of_eq rfl
    · rename_i f slot; rw [slot] at moved; exact moved _ _ e

theorem writeWords_moves (sel : Selection) (ws : List Word) (k pos : Nat) (p : Part) :
    Moves p (writeWords sel ws k pos p).1 := by
  induction ws generalizing k pos p with
  | nil => exact .refl p
  | cons w rest ih =>
    unfold writeWords
    split
    · exact (writeWord_moves ‹_›).trans (ih ..)
    · exact ih ..

theorem write_moves (data : List Byte) (p : Part) : Moves p (writeCommand data p).part := by
  have words := writeWords_moves p.cursor.sel (wholeWords data) p.cursor.offset 1 p
  unfold writeCommand
  dsimp only
  split
  · exact .refl p
  · split; exacts [words, words.then rfl]

end Sys2Proof.Machine
end

section
/-! How a fill leaves CLOSING (R21): its record, the close update, and what it frees. -/

namespace Sys2Proof.Machine

open Sys2Proof

/-! ## The close update on the machine's slot -/

/-- The machine of a closed transaction. -/
def Transaction.closes (t : Transaction) (cause : EndCause) (m : MachineRec) : MachineRec :=
  { (m.close t.cls t.tally.net cause t.hours).1 with openHose := none }

section closeMachine
variable (t : Transaction) (cause : EndCause) (p : Part)

/-- The close update raises at most ABNORMAL_USE and changes the transaction's machine. -/
theorem closeMachine_cases :
    closeMachine t cause p = modMachine t.slot (t.closes cause) p ∧
      ((p.machine t.slot).close t.cls t.tally.net cause t.hours).2 = false ∨
    closeMachine t cause p = modMachine t.slot (fun x => { x with openHose := none })
        (raise .abnormalUse (modMachine t.slot (fun x => (x.close t.cls t.tally.net cause t.hours).1) p)) ∧
      ((p.machine t.slot).close t.cls t.tally.net cause t.hours).2 = true := by
  unfold closeMachine
  cases odd : ((p.machine t.slot).close t.cls t.tally.net cause t.hours).2 with
  | false =>
    refine .inl ⟨?_, rfl⟩
    dsimp only
    rw [odd, if_neg Bool.false_ne_true, modMachine_modMachine]
    exact modMachine_congr rfl
  | true =>
    refine .inr ⟨?_, rfl⟩
    dsimp only
    rw [odd, if_pos rfl]
    rfl

@[simp] theorem closeMachine_machine_same : (closeMachine t cause p).machine t.slot = t.closes cause (p.machine t.slot) := by
  obtain ⟨e, -⟩ | ⟨e, -⟩ := closeMachine_cases t cause p <;> rw [e] <;> simp [Transaction.closes]

theorem closeMachine_machine_other {m : SlotNo} (ne : m ≠ t.slot) : (closeMachine t cause p).machine m = p.machine m := by
  obtain ⟨e, -⟩ | ⟨e, -⟩ := closeMachine_cases t cause p <;> rw [e] <;> simp [modMachine_machine, ne.symm]

theorem closeMachine_keep {α : Type} (view : Part → α) (mod : ∀ m f p, view (modMachine m f p) = view p)
    (note : ∀ p, view (raise .abnormalUse p) = view p) : view (closeMachine t cause p) = view p := by
  obtain ⟨e, -⟩ | ⟨e, -⟩ := closeMachine_cases t cause p <;> rw [e] <;> simp only [mod, note]

@[simp] theorem closeMachine_hoses : (closeMachine t cause p).hoses = p.hoses :=
  closeMachine_keep t cause p (·.hoses) (fun _ _ _ => rfl) (raise_hoses _)
@[simp] theorem closeMachine_hose (h : HoseNo) : (closeMachine t cause p).hose h = p.hose h := by
  unfold Part.hose; rw [closeMachine_hoses]
@[simp] theorem closeMachine_tanks : (closeMachine t cause p).tanks = p.tanks :=
  closeMachine_keep t cause p (·.tanks) (fun _ _ _ => rfl) (raise_tanks _)
@[simp] theorem closeMachine_tank (k : TankNo) : (closeMachine t cause p).tank k = p.tank k := by
  unfold Part.tank; rw [closeMachine_tanks]
@[simp] theorem closeMachine_pumps : (closeMachine t cause p).pumps = p.pumps :=
  closeMachine_keep t cause p (·.pumps) (fun _ _ _ => rfl) (raise_pumps _)
@[simp] theorem closeMachine_zones : (closeMachine t cause p).zones = p.zones :=
  closeMachine_keep t cause p (·.zones) (fun _ _ _ => rfl) (raise_zones _)
@[simp] theorem closeMachine_devices : (closeMachine t cause p).devices = p.devices :=
  closeMachine_keep t cause p (·.devices) (fun _ _ _ => rfl) (raise_devices _)
@[simp] theorem closeMachine_fp : (closeMachine t cause p).fp = p.fp :=
  closeMachine_keep t cause p (·.fp) (fun _ _ _ => rfl) (raise_fp _)
@[simp] theorem closeMachine_records : (closeMachine t cause p).records = p.records :=
  closeMachine_keep t cause p (·.records) (fun _ _ _ => rfl) (raise_records _)
@[simp] theorem closeMachine_reserved : (closeMachine t cause p).reserved = p.reserved :=
  closeMachine_keep t cause p (·.reserved) (fun _ _ _ => rfl) (raise_reserved _)

end closeMachine

/-! ## The hose leaves CLOSING -/

/-- A hose whose transaction is closed: OUT where pending out is set, and IDLE otherwise. -/
def Hose.freed (x : Hose) : Hose := { x with mode := if x.pendingOut then .out else .idle, pendingOut := false }

/-- The orders of a hose that becomes OUT after its fill (R5). -/
def Part.freedOrders (p : Part) (h : HoseNo) : List Telegram :=
  if (p.hose h).pendingOut then p.orderTo kindSet (.valve h) 0 ++ p.lampTo h lampOff else []

/-- The part once the record, the machine and the tank of a closed transaction are done with. -/
def Part.fillClosed (p : Part) (h : HoseNo) (t : Transaction) (cause : EndCause) (ended : Stamp) : Part :=
  modTank t.tank Tank.hoseClosed (closeMachine t cause (placeReserved (fillRecord h t cause ended) p))

section fillClosed
variable (p : Part) (h : HoseNo) (t : Transaction) (cause : EndCause) (ended : Stamp)

@[simp] theorem fillClosed_hose (j : HoseNo) : (p.fillClosed h t cause ended).hose j = p.hose j := by
  unfold Part.fillClosed; simp
@[simp] theorem fillClosed_devices : (p.fillClosed h t cause ended).devices = p.devices := by
  unfold Part.fillClosed; simp
@[simp] theorem fillClosed_zones : (p.fillClosed h t cause ended).zones = p.zones := by unfold Part.fillClosed; simp
@[simp] theorem fillClosed_pumps : (p.fillClosed h t cause ended).pumps = p.pumps := by unfold Part.fillClosed; simp
@[simp] theorem fillClosed_fp : (p.fillClosed h t cause ended).fp = p.fp := by unfold Part.fillClosed; simp
@[simp] theorem fillClosed_records : (p.fillClosed h t cause ended).records =
    p.records ++ [{ fillRecord h t cause ended with serial := p.nextSerial }] := by unfold Part.fillClosed; simp
@[simp] theorem fillClosed_reserved : (p.fillClosed h t cause ended).reserved = p.reserved - 1 := by
  unfold Part.fillClosed; simp

theorem fillClosed_tank (k : TankNo) :
    (p.fillClosed h t cause ended).tank k = if t.tank = k then (p.tank k).hoseClosed else p.tank k := by
  unfold Part.fillClosed; rw [modTank_tank]; simp

@[simp] theorem fillClosed_machine_same :
    (p.fillClosed h t cause ended).machine t.slot = t.closes cause (p.machine t.slot) := by
  unfold Part.fillClosed; simp

theorem fillClosed_machine_other {m : SlotNo} (ne : m ≠ t.slot) :
    (p.fillClosed h t cause ended).machine m = p.machine m := by
  unfold Part.fillClosed
  rw [modTank_machine_keep, closeMachine_machine_other _ _ _ ne, placeReserved_machine]

theorem fillClosed_hoseTripped (j : HoseNo) : (p.fillClosed h t cause ended).hoseTripped j = p.hoseTripped j := by
  refine hoseTripped_congr (hoseZone_congr (by simp) fun k => ?_) fun z => by simp only [Part.zone, fillClosed_zones]
  rw [fillClosed_tank]; split <;> rfl

end fillClosed

theorem enterOut_eq (h : HoseNo) (p : Part) : enterOut h p =
    sendAll (p.orderTo kindSet (.valve h) 0 ++ p.lampTo h lampOff) (setMode h .out p) := by
  simp only [enterOut, sendValve_eq, sendLamp_eq, sendAll_lampTo, setMode_lampTo, sendAll_sendAll]
  rfl

theorem leaveClosing_eq {h : HoseNo} {p : Part} {cause : EndCause} {ended : Stamp} {t : Transaction}
    (m : (p.hose h).mode = .fill (.closing cause ended) t) : leaveClosing h p =
      sendAll (p.freedOrders h) (modHose h Hose.freed (p.fillClosed h t cause ended)) := by
  have hose : (p.fillClosed h t cause ended).hose h = p.hose h := fillClosed_hose ..
  have opened : leaveClosing h p =
      if (p.hose h).pendingOut then
        enterOut h (modHose h (fun x => { x with pendingOut := false }) (p.fillClosed h t cause ended))
      else setMode h .idle (p.fillClosed h t cause ended) := by
    unfold leaveClosing; simp only [m]; rfl
  rw [opened, Part.freedOrders]
  cases out : (p.hose h).pendingOut with
  | true =>
    have lamp : (modHose h (fun x => { x with pendingOut := false }) (p.fillClosed h t cause ended)).lampTo h lampOff =
        p.lampTo h lampOff := by
      refine lampTo_congr (by simp) ?_ _
      rw [modHose_hoseTripped _ _ _ _ rfl, fillClosed_hoseTripped]
    rw [if_pos rfl, if_pos rfl, enterOut_eq, setMode_eq, modHose_modHose, orderTo_congr (p := p) (by simp), lamp]
    refine congrArg (sendAll _) (modHose_congr ?_)
    simp only [Hose.freed, hose, out, if_true]
  | false =>
    simp only [Bool.false_eq_true, if_false, sendAll_nil]
    rw [setMode_eq]
    refine modHose_congr ?_
    simp only [Hose.freed, hose, out, Bool.false_eq_true, if_false]

theorem leaveClosing_of_not {h : HoseNo} {p : Part} (going : (p.hose h).mode.isClosing = false) : leaveClosing h p = p := by
  unfold leaveClosing
  split
  · rename_i m; rw [m] at going; cases going
  · rfl

/-- A hose that leaves CLOSING changes nothing of the others. -/
theorem leaveClosing_hose_other {h j : HoseNo} (ne : j ≠ h) (p : Part) : (leaveClosing h p).hose j = p.hose j := by
  cases c : (p.hose h).mode.isClosing with
  | false => rw [leaveClosing_of_not c]
  | true =>
    obtain ⟨cause, ended, t, m⟩ := HoseMode.tally_of_closing c
    rw [leaveClosing_eq m, sendAll_hose, modHose_hose, if_neg ne.symm, fillClosed_hose]

theorem leaveClosing_hose_same {h : HoseNo} {p : Part} (c : (p.hose h).mode.isClosing = true) :
    (leaveClosing h p).hose h = (p.hose h).freed := by
  obtain ⟨cause, ended, t, m⟩ := HoseMode.tally_of_closing c
  rw [leaveClosing_eq m, sendAll_hose, modHose_hose_same, fillClosed_hose]

theorem Hose.freed_stake (x : Hose) : x.freed.stake = {} := by
  apply stake_idle
  simp only [Hose.freed]
  cases x.pendingOut <;> simp

theorem fillClosed_ledger (p : Part) (h : HoseNo) (t : Transaction) (cause : EndCause) (ended : Stamp) :
    (p.fillClosed h t cause ended).ledger =
      { p.ledger with owner := Function.update p.ledger.owner t.slot none
                      opens := Function.update p.ledger.opens t.tank (p.ledger.opens t.tank - 1) } := by
  unfold Part.ledger
  congr 1
  · funext m
    by_cases e : m = t.slot
    · subst e; simp [Transaction.closes]
    · rw [fillClosed_machine_other _ _ _ _ _ e]; simp [e]
  · funext j; simp
  · funext k; simp only [Part.pump, fillClosed_pumps]
  · funext k
    rw [fillClosed_tank]
    by_cases e : t.tank = k
    · subst e; simp [Tank.hoseClosed]
    · simp [e, Function.update_of_ne (Ne.symm e)]

theorem leaveClosing_moves (h : HoseNo) (p : Part) : Moves p (leaveClosing h p) := by
  cases c : (p.hose h).mode.isClosing with
  | false => rw [leaveClosing_of_not c]; exact .refl p
  | true =>
    obtain ⟨cause, ended, t, m⟩ := HoseMode.tally_of_closing c
    have held : p.ledger.stake h = { slot := some t.slot, tank := some t.tank } := by
      show (p.hose h).stake = _
      simp only [Hose.stake, m]
    refine .of_move (.leave p.ledger h t.slot t.tank held) ?_
    rw [leaveClosing_eq m, sendAll_ledger, modHose_ledger_eq, fillClosed_ledger, Hose.freed_stake]

end Sys2Proof.Machine
end

section
/-! The phases of RESTART (R175), and what each leaves of the hoses. -/

namespace Sys2Proof.Machine

open Sys2Proof

/-- A run over a list without repetition, seen through what only its operation on one member changes. -/
theorem each_member {ι α : Type} {is : List ι} (nodup : is.Nodup) {i : ι} (hi : i ∈ is) (view : Part → α) {g : α → α}
    {f : ι → Part → Part} (same : ∀ p, view (f i p) = g (view p)) (other : ∀ j, j ≠ i → ∀ p, view (f j p) = view p)
    (p : Part) : view (each is f p) = g (view p) := by
  obtain ⟨before, later, hb, hl, e⟩ := each_split nodup hi f p
  rw [e, each_keep_mem view f later fun j hj => other j (hl j hj).1, same,
    each_keep_mem view f before fun j hj => other j (hb j hj).1]

/-- A run over all hoses whose operation on each hose changes that one alone. -/
theorem each_hoses {f : HoseNo → Part → Part} {g : Hose → Hose} (same : ∀ h p, (f h p).hose h = g (p.hose h))
    (other : ∀ {h j}, j ≠ h → ∀ p, (f h p).hose j = p.hose j) (p : Part) (h : HoseNo) :
    (each hoseNos f p).hose h = g (p.hose h) :=
  each_member hoseNos_nodup (mem_hoseNos h) (·.hose h) (same h) (fun _ ne => other ne.symm) p

/-! ## Step 1: the fills -/

theorem setPendingOut_hose (h j : HoseNo) (b : Bool) (p : Part) :
    (setPendingOut h b p).hose j = if h = j then { p.hose j with pendingOut := b } else p.hose j := modHose_hose ..

/-- The mode of a hose once its fill is brought to its close: OUT where pending out was set. -/
def HoseMode.forced (pendingOut : Bool) : HoseMode → HoseMode
  | .fill _ _ => if pendingOut then .out else .idle
  | m => m

def Hose.forced (x : Hose) : Hose := { x with mode := x.mode.forced x.pendingOut, pendingOut := false }

/-- Every hose is asked to end; whichever is then in CLOSING leaves it at once. -/
theorem forceClose_eq (h : HoseNo) (p : Part) :
    forceClose h p = setPendingOut h false (leaveClosing h (endRequest h .restart p)) := by
  unfold forceClose
  dsimp only
  cases m : (p.hose h).mode with
  | fill ph t =>
    cases ph with
    | closing c e => rw [endRequest_of_closing (by rw [m]; rfl), if_neg (by decide)]
    | _ => rfl
  | proving s =>
    have still : endRequest h .restart p = p := by
      cases run : s.run with
      | none => exact endRequest_of_none (by simp [m, HoseMode.tally, run]) _
      | some r => rw [endRequest_of_run m run]; rfl
    rw [still, leaveClosing_of_not (by rw [m]; rfl)]
  | _ => rw [endRequest_of_none (by rw [m]; rfl), leaveClosing_of_not (by rw [m]; rfl)]

theorem forceClose_hose_same (h : HoseNo) (p : Part) : (forceClose h p).hose h = (p.hose h).forced := by
  rw [forceClose_eq, setPendingOut_hose, if_pos rfl]
  obtain e | ⟨c, -⟩ | ⟨ph, t, m, going, e⟩ | ⟨s, r, m, run, c, -⟩ := endRequest_cases h .restart p
  · rw [e]
    cases c : (p.hose h).mode.isClosing with
    | true =>
      obtain ⟨cause, ended, t, m⟩ := HoseMode.tally_of_closing c
      rw [leaveClosing_hose_same c]
      simp only [Hose.freed, Hose.forced, HoseMode.forced, m]
    | false =>
      rw [leaveClosing_of_not c]
      have stays : (p.hose h).mode.forced (p.hose h).pendingOut = (p.hose h).mode := by
        cases m : (p.hose h).mode with
        | fill ph t =>
          rw [endRequest_of_fill m c] at e
          have closed := enterClosing_hose_same h .restart t p
          rw [e] at closed
          rw [closed] at c; cases c
        | _ => rfl
      rw [Hose.forced, stays]
  · cases c
  · rw [e, leaveClosing_hose_same (by rw [enterClosing_hose_same]; rfl), enterClosing_hose_same]
    simp only [Hose.freed, Hose.forced, HoseMode.forced, m]
  · cases c

theorem forceClose_hose_other {h j : HoseNo} (ne : j ≠ h) (p : Part) : (forceClose h p).hose j = p.hose j := by
  rw [forceClose_eq, setPendingOut_hose, if_neg ne.symm, leaveClosing_hose_other ne, endRequest_hose_other ne]

theorem forceClose_moves (h : HoseNo) (p : Part) : Moves p (forceClose h p) := by
  rw [forceClose_eq]
  exact ((endRequest_moves ..).trans (leaveClosing_moves ..)).then (setPendingOut_ledger ..)

/-! ## Step 2: the deliveries -/

/-- No hose has a transaction. -/
def Part.NoFills (p : Part) : Prop := ∀ h ph t, (p.hose h).mode ≠ .fill ph t

theorem Hose.forced_not_fill (x : Hose) (ph : Phase) (t : Transaction) : x.forced.mode ≠ .fill ph t := by
  unfold Hose.forced HoseMode.forced
  cases x.mode <;> cases x.pendingOut <;> simp

theorem NoFills.congr {p q : Part} (none : p.NoFills) (e : ∀ h, q.hose h = p.hose h) : q.NoFills := fun h => by
  rw [e]; exact none h

/-- The low-stock limit ends transactions alone, so with none it finds nothing to end. -/
theorem endRequest_tankLow {p : Part} (none : p.NoFills) (h : HoseNo) : endRequest h .tankLow p = p := by
  obtain e | ⟨c, -⟩ | ⟨ph, t, m, -, -⟩ | ⟨s, r, -, -, c, -⟩ := endRequest_cases h .tankLow p
  · exact e
  · cases c
  · exact absurd m (none h ph t)
  · cases c

theorem endFills_tankLow {p : Part} (none : p.NoFills) (t : TankNo) : endFills t .tankLow p = p := by
  unfold endFills
  refine each_invariant (· = p) _ _ (fun h _ q hq => ?_) rfl
  rw [hq, endRequest_tankLow none, ite_self]

theorem lowStockTest_noFills {p : Part} (none : p.NoFills) (t : TankNo) (h : HoseNo) :
    (lowStockTest t p).hose h = p.hose h := by
  unfold lowStockTest
  rw [endFills_tankLow none]
  split
  · dsimp only
    split
    · rfl
    · rw [raise_hose]; rfl
  · rfl

@[simp] theorem recoveryTest_hose (z : ZoneNo) (p : Part) (h : HoseNo) : (recoveryTest z p).hose h = p.hose h := by
  unfold recoveryTest; split <;> rfl
@[simp] theorem setTankState_hose (t : TankNo) (st : TankState) (p : Part) (h : HoseNo) :
    (setTankState t st p).hose h = p.hose h := by
  unfold setTankState; simp

theorem endDelivery_noFills {p : Part} (none : p.NoFills) (t : TankNo) (c : CloseCause) (d : Delivery) (h : HoseNo) :
    (endDelivery t c d p).hose h = p.hose h := by
  unfold endDelivery
  dsimp only
  rw [setTankState_hose, modTank_hose_keep]
  have sent (j : HoseNo) : (if d.closed.isNone then sendInlet t 0 p else p).hose j = p.hose j := by split <;> simp
  split
  all_goals
    simp only [raise_hose, placeReserved_hose]
    rw [lowStockTest_noFills (NoFills.congr none fun j => by rw [modTank_hose_keep, sent]), modTank_hose_keep, sent]

theorem restartDelivery_noFills {p : Part} (none : p.NoFills) (t : TankNo) (h : HoseNo) :
    (restartDelivery t p).hose h = p.hose h := by
  unfold restartDelivery; split
  · exact endDelivery_noFills none ..
  · rfl

/-! ## Step 3: the proving sessions -/

def HoseMode.abandoned : HoseMode → HoseMode
  | .proving _ => .out
  | m => m

/-- A hose once its session is abandoned. -/
def Hose.abandoned (x : Hose) : Hose := { x with mode := x.mode.abandoned }

theorem Hose.abandoned_of_proving {x : Hose} {s : Session} (m : x.mode = .proving s) :
    x.abandoned = { x with mode := .out } := by unfold Hose.abandoned; rw [m]; rfl

theorem Hose.abandoned_of_other {x : Hose} (m : ∀ s, x.mode ≠ .proving s) : x.abandoned = x := by
  have stays : x.mode.abandoned = x.mode := by
    cases e : x.mode with
    | proving s => exact absurd e (m s)
    | _ => rfl
  unfold Hose.abandoned; rw [stays]

theorem enterOut_hose (h j : HoseNo) (p : Part) :
    (enterOut h p).hose j = if h = j then { p.hose j with mode := .out } else p.hose j := by
  rw [enterOut_eq, sendAll_hose, setMode_eq, modHose_hose]

theorem dropSession_of_proving {h : HoseNo} {p : Part} {s : Session} (m : (p.hose h).mode = .proving s) :
    dropSession h p = enterOut h (release (s.planned - s.ended.length) p) := by
  unfold dropSession; simp only [m]

theorem abandonSession_of_run {h : HoseNo} {p : Part} {s : Session} {r : ProvingRun} (m : (p.hose h).mode = .proving s)
    (run : s.run = some r) : abandonSession h p =
      enterOut h (release (s.planned - (s.ended.length + 1)) (endRun h .abandoned s r p)) := by
  unfold abandonSession
  simp only [m, run]
  rw [dropSession_of_proving (s := s.runEnded (p.runResult h .abandoned r)) (by rw [endRun_hose_same])]
  simp [Session.runEnded]

theorem abandonSession_of_noRun {h : HoseNo} {p : Part} {s : Session} (m : (p.hose h).mode = .proving s)
    (run : s.run = none) : abandonSession h p = enterOut h (release (s.planned - s.ended.length) p) := by
  unfold abandonSession
  simp only [m, run]
  exact dropSession_of_proving m

theorem abandonSession_of_other {h : HoseNo} {p : Part} (m : ∀ s, (p.hose h).mode ≠ .proving s) :
    abandonSession h p = p := by
  unfold abandonSession
  cases e : (p.hose h).mode with
  | proving s => exact absurd e (m s)
  | _ => rfl

/-- All that the abandoning of a session can do. -/
theorem abandonSession_cases (h : HoseNo) (p : Part) :
    ((∀ s, (p.hose h).mode ≠ .proving s) ∧ abandonSession h p = p) ∨
    (∃ s, (p.hose h).mode = .proving s ∧ s.run = none ∧
      abandonSession h p = enterOut h (release (s.planned - s.ended.length) p)) ∨
    (∃ s r, (p.hose h).mode = .proving s ∧ s.run = some r ∧ abandonSession h p =
      enterOut h (release (s.planned - (s.ended.length + 1)) (endRun h .abandoned s r p))) := by
  match m : (p.hose h).mode with
  | .proving s =>
    cases run : s.run with
    | none => exact .inr (.inl ⟨s, rfl, run, abandonSession_of_noRun m run⟩)
    | some r => exact .inr (.inr ⟨s, r, rfl, run, abandonSession_of_run m run⟩)
  | .idle | .out | .fill .. => exact .inl ⟨by simp, abandonSession_of_other (by simp [m])⟩

theorem abandonSession_hose_same (h : HoseNo) (p : Part) : (abandonSession h p).hose h = (p.hose h).abandoned := by
  obtain ⟨m, e⟩ | ⟨s, m, -, e⟩ | ⟨s, r, m, -, e⟩ := abandonSession_cases h p
  · rw [e, Hose.abandoned_of_other m]
  · rw [e, Hose.abandoned_of_proving m, enterOut_hose, if_pos rfl]; rfl
  · rw [e, Hose.abandoned_of_proving m, enterOut_hose, if_pos rfl]
    show { (endRun h .abandoned s r p).hose h with mode := .out } = _
    rw [endRun_hose_same]

theorem abandonSession_hose_other {h j : HoseNo} (ne : j ≠ h) (p : Part) : (abandonSession h p).hose j = p.hose j := by
  obtain ⟨-, e⟩ | ⟨s, -, -, e⟩ | ⟨s, r, -, -, e⟩ := abandonSession_cases h p
  · rw [e]
  · rw [e, enterOut_hose, if_neg ne.symm]; rfl
  · rw [e, enterOut_hose, if_neg ne.symm]
    exact endRun_hose_other ne ..

/-! ## The bay at rest -/

/-- What has been ended, dropped and stopped when RESTART begins to put the tanks and the lines at rest. -/
def restartEnds (p : Part) : Part := each hoseNos abandonSession (each tankNos restartDelivery (each hoseNos forceClose p))

theorem restartEffects_eq (p : Part) : restartEffects p =
    resetCursor (closingOrders (each tankNos quietTank { stopTest (restartEnds p) with bayMode := .layUp })) := rfl

theorem forced_noFills (p : Part) : (each hoseNos forceClose p).NoFills := fun h => by
  rw [each_hoses forceClose_hose_same forceClose_hose_other]; exact Hose.forced_not_fill _

/-- The deliveries' end leaves the hoses as the fills' close left them. -/
theorem restartDeliveries_hose (p : Part) (h : HoseNo) :
    (each tankNos restartDelivery (each hoseNos forceClose p)).hose h = (each hoseNos forceClose p).hose h := by
  have kept : ∀ j, (each tankNos restartDelivery (each hoseNos forceClose p)).hose j =
      (each hoseNos forceClose p).hose j := by
    refine each_invariant (fun q => ∀ j, q.hose j = (each hoseNos forceClose p).hose j) _ _ (fun t _ q hq j => ?_)
      fun _ => rfl
    rw [restartDelivery_noFills (NoFills.congr (forced_noFills p) hq), hq]
  exact kept h

theorem restartEnds_hose (p : Part) (h : HoseNo) : (restartEnds p).hose h = (p.hose h).forced.abandoned := by
  unfold restartEnds
  rw [each_hoses abandonSession_hose_same abandonSession_hose_other, restartDeliveries_hose,
    each_hoses forceClose_hose_same forceClose_hose_other]

theorem Hose.forced_abandoned_rests (x : Hose) : x.forced.abandoned.mode = .idle ∨ x.forced.abandoned.mode = .out := by
  unfold Hose.abandoned Hose.forced HoseMode.forced HoseMode.abandoned
  cases x.mode <;> cases x.pendingOut <;> simp

end Sys2Proof.Machine
end

section
/-! Every step of the model is a run of moves of the ledger; the two promises of machines, pumps and open hoses follow. -/

namespace Sys2Proof.Machine

open Sys2Proof

/-! ## RESTART -/

@[simp] theorem quietTank_hose (t : TankNo) (p : Part) (h : HoseNo) : (quietTank t p).hose h = p.hose h := rfl
@[simp] theorem quietTank_machine (t : TankNo) (p : Part) (m : SlotNo) : (quietTank t p).machine m = p.machine m := rfl

theorem quietTank_tank (t k : TankNo) (p : Part) : (quietTank t p).tank k =
    if t = k then { p.tank k with loss := .none, rest := .none, openHoses := 0 } else p.tank k := by
  unfold quietTank; rw [modPump_tank_keep, modTank_tank]
theorem quietTank_pump (t k : TankNo) (p : Part) :
    (quietTank t p).pump k = if t = k then { count := 0, confirmed := false } else p.pump k := modPump_pump ..

theorem quietTanks_tank (p : Part) (k : TankNo) :
    (each tankNos quietTank p).tank k = { p.tank k with loss := .none, rest := .none, openHoses := 0 } :=
  each_member tankNos_nodup (mem_tankNos k) (·.tank k) (g := fun x => { x with loss := .none, rest := .none, openHoses := 0 })
    (fun q => by rw [quietTank_tank, if_pos rfl]) (fun j ne q => by rw [quietTank_tank, if_neg ne]) p
theorem quietTanks_pump (p : Part) (k : TankNo) :
    (each tankNos quietTank p).pump k = { count := 0, confirmed := false } :=
  each_member tankNos_nodup (mem_tankNos k) (·.pump k) (g := fun _ => { count := 0, confirmed := false })
    (fun q => by rw [quietTank_pump, if_pos rfl]) (fun j ne q => by rw [quietTank_pump, if_neg ne]) p
@[simp] theorem quietTanks_hose (p : Part) (h : HoseNo) : (each tankNos quietTank p).hose h = p.hose h :=
  each_keep_mem (·.hose h) quietTank tankNos (fun _ _ _ => rfl) p
@[simp] theorem quietTanks_machine (p : Part) (m : SlotNo) : (each tankNos quietTank p).machine m = p.machine m :=
  each_keep_mem (·.machine m) quietTank tankNos (fun _ _ _ => rfl) p

/-- The counts of an idle bay put to 0. -/
theorem quietTanks_moves {p : Part} (idle : ∀ h, (p.hose h).stake = {}) : Moves p (each tankNos quietTank p) := by
  refine .of_move (.quiet p.ledger idle) ?_
  unfold Part.ledger
  simp only [quietTanks_machine, quietTanks_hose, quietTanks_pump, quietTanks_tank]

@[simp] theorem closingOrders_ledger (p : Part) : (closingOrders p).ledger = p.ledger := by
  unfold closingOrders
  have valves (q : Part) := each_keep_mem Part.ledger (fun h => sendValve h 0) hoseNos (fun _ _ _ => sendValve_ledger ..) q
  have inlets (q : Part) := each_keep_mem Part.ledger (fun t => sendInlet t 0) tankNos (fun _ _ _ => sendInlet_ledger ..) q
  have starters (q : Part) := each_keep_mem Part.ledger (fun t => sendRun t 0) tankNos (fun _ _ _ => sendRun_ledger ..) q
  rw [starters, inlets, valves]

@[simp] theorem resetCursor_ledger (p : Part) : (resetCursor p).ledger = p.ledger := rfl

theorem restartEnds_moves (p : Part) : Moves p (restartEnds p) :=
  ((Moves.each forceClose_moves ..).trans (.each restartDelivery_moves ..)).trans (.each abandonSession_moves ..)

@[simp] theorem stopTest_hose (p : Part) (h : HoseNo) : (stopTest p).hose h = p.hose h := by
  unfold stopTest; split <;> rfl

/-- The mode of the bay is none of the hoses'. -/
theorem setBayMode_hose (b : BayMode) (p : Part) (h : HoseNo) : ({ p with bayMode := b } : Part).hose h = p.hose h := rfl
theorem setBayMode_ledger (b : BayMode) (p : Part) : ({ p with bayMode := b } : Part).ledger = p.ledger := rfl

theorem restartEffects_moves (p : Part) : Moves p (restartEffects p) := by
  rw [restartEffects_eq]
  have rests (h : HoseNo) : (({ stopTest (restartEnds p) with bayMode := .layUp } : Part).hose h).stake = {} := by
    rw [setBayMode_hose, stopTest_hose, restartEnds_hose]
    exact stake_idle (Hose.forced_abandoned_rests _)
  have ended : Moves p { stopTest (restartEnds p) with bayMode := .layUp } :=
    (restartEnds_moves p).then (by rw [setBayMode_ledger, stopTest_ledger])
  exact (ended.trans (quietTanks_moves rests)).then (by rw [resetCursor_ledger, closingOrders_ledger])

theorem restartCommand_moves (src : Node) (p : Part) : Moves p (restartCommand src p) :=
  (restartEffects_moves _).before ((reply_ledger ..).trans (consumeUp_ledger p))

/-! ## The resets, the ports and the timers -/

theorem raiseTrips_ledger (p : Part) : (each zoneNos (fun z => raise (.trip z)) p).ledger = p.ledger :=
  each_keep_mem Part.ledger (fun z => raise (.trip z)) zoneNos (fun _ _ _ => raise_ledger ..) p

theorem atReset_ledger (node : Node) (rate : BitVec 2) (high : Bool) (n : Nat) :
    ({ Part.atReset node rate high with freeUses := n } : Part).ledger =
      { owner := fun _ => none, stake := fun _ => {}, claims := fun _ => 0, opens := fun _ => 0 } := by
  unfold Part.ledger
  congr 1
  · funext m; simp [Part.machine, Part.atReset, MachineRec.empty]
  · funext h; simp [Part.hose, Part.atReset, Hose.atReset, Hose.stake]
  · funext t; simp [Part.pump, Part.atReset]
  · funext t; simp [Part.tank, Part.atReset, Tank.atReset]

theorem powerUp_moves (node : Node) (rate : BitVec 2) (high : Bool) (p : Part) : Moves p (powerUp node rate high p) :=
  .of_move (.reset p.ledger) ((raiseTrips_ledger _).trans (atReset_ledger ..))

theorem profileLine_ledger (high : Bool) (p : Part) : (profileLine high p).ledger = p.ledger := by
  unfold profileLine; split
  · rfl
  · dsimp only; split <;> rfl

theorem sendEnd_ledger (port : PortId) (p : Part) : (sendEnd port p).ledger = p.ledger := by
  unfold sendEnd; split
  · rfl
  · dsimp only; split
    · exact modPort_ledger ..
    · exact modPort_ledger ..

theorem idleExpiry_moves (h : HoseNo) (p : Part) : Moves p (idleExpiry h p) := by
  unfold idleExpiry; split; exacts [endRequest_moves .., .refl p]

theorem confirmExpiry_moves (h : HoseNo) (p : Part) : Moves p (confirmExpiry h p) := by
  unfold confirmExpiry; split; exacts [endRequest_moves .., .refl p]

theorem pauseExpiry_ledger (h : HoseNo) (p : Part) : (pauseExpiry h p).ledger = p.ledger := by
  unfold pauseExpiry
  split
  · rename_i m; exact setMode_ledger (by simp only [Hose.stake, m])
  · rfl

theorem settleExpiry_ledger (t : TankNo) (p : Part) : (settleExpiry t p).ledger = p.ledger := modTank_ledger rfl

theorem recoveryExpiry_ledger (z : ZoneNo) (p : Part) : (recoveryExpiry z p).ledger = p.ledger := by
  unfold recoveryExpiry; split
  · exact recoveryTest_ledger ..
  · rfl

theorem clockTick_ledger (p : Part) : (clockTick p).ledger = p.ledger :=
  each_keep_mem Part.ledger (fun z => modZone z Zone.second) zoneNos (fun _ _ _ => rfl) { p with clock := p.clock + 1 }

theorem gapExpiry_ledger (p : Part) : (gapExpiry p).ledger = p.ledger := by
  unfold gapExpiry; split
  · rfl
  · split
    · split <;> rfl
    · rfl

theorem waitExpiry_ledger (p : Part) : (waitExpiry p).ledger = p.ledger := by
  unfold waitExpiry; split
  · rfl
  · split
    · exact finishTest_ledger _
    · rfl

/-! ## The commands by their rows, and the telegrams of the upstream line -/

theorem clockSet_moves (seconds : Option Long) (p : Part) : Moves p (clockSetCommand seconds p).part :=
  withArgs_moves (fun _ _ => .of_eq rfl) p

theorem noticeRead_moves (p : Part) : Moves p (noticeReadCommand p).part := .of_eq rfl
theorem noticeMask_moves (set : Option Word) (p : Part) : Moves p (noticeMaskCommand set p).part :=
  withArgs_moves (fun _ _ => .of_eq rfl) p

theorem runCommand_moves (i : Instr) (p : Part) : Moves p (runCommand i p) := by
  cases i <;> unfold runCommand
  case window src a => exact command_moves (window_moves a) src p
  case stepMode src a => exact command_moves (stepMode_moves a) src p
  case read src a => exact command_moves (read_moves a) src p
  case write src d => exact command_moves (write_moves d) src p
  case bayMode src a => exact command_moves (bayMode_moves a) src p
  case profile src a => exact command_moves (profile_moves a) src p
  case profileSource src a => exact command_moves (profileSource_moves a) src p
  case clockSet src a => exact command_moves (clockSet_moves a) src p
  case lineRate src a => exact command_moves (lineRate_moves a) src p
  case counterSelect src a => exact command_moves (counterSelect_moves a) src p
  case counterRead src a => exact command_moves (counterRead_moves a) src p
  case stockSet src a => exact command_moves (stockSet_moves a) src p
  case deliveryStart src a => exact command_moves (deliveryStart_moves a) src p
  case deliveryEnd src a => exact command_moves (deliveryEnd_moves a) src p
  case tripZone src a => exact command_moves (tripZone_moves a) src p
  case tripReset src a => exact command_moves (tripReset_moves a) src p
  case hoseServiceOut src a => exact command_moves (withArgs_moves fun _ => hoseService_moves _ _) src p
  case hoseServiceIn src h => exact command_moves (hoseService_moves h 1) src p
  case tankServiceIn src t => exact command_moves (tankService_moves t 1) src p
  case tankServiceOut src a => exact command_moves (withArgs_moves fun _ => tankService_moves _ _) src p
  case machineStateBarred src m => exact command_moves (machineState_moves m 1) src p
  case machineStateOpen src a => exact command_moves (withArgs_moves fun _ => machineState_moves _ _) src p
  case serviceDone src a => exact command_moves (serviceDone_moves a) src p
  case take src a => exact command_moves (take_moves a) src p
  case noticeRead src => exact command_moves noticeRead_moves src p
  case noticeMask src a => exact command_moves (noticeMask_moves a) src p
  case topNotice src => exact command_moves (fun _ => .of_eq rfl) src p
  case proveStart src a => exact command_moves (proveStart_moves a) src p
  case proveResult src a => exact command_moves (proveResult_moves a) src p
  case proveEndAccept src a => exact command_moves (withArgs_moves fun _ => proveEnd_moves _ _) src p
  case proveEndAbandon src h => exact command_moves (proveEnd_moves h 1) src p
  case lineTestSingle src a => exact command_moves (lineTestStart_moves false a) src p
  case lineTestContinuous src a => exact command_moves (lineTestStart_moves true a) src p
  case lineTestRead src => exact command_moves (fun _ => .of_eq rfl) src p
  case lineTestStop src a => exact command_moves (lineTestStop_moves a) src p
  case restart src => exact restartCommand_moves src p
  case commandUnknown src => exact command_moves (fun _ => .of_eq rfl) src p
  all_goals exact .refl p

theorem upTelegram_moves (t : Telegram) (p : Part) : Moves p (upTelegram t p) := by
  unfold upTelegram takeUp offerUp
  split
  · split; exacts [runCommand_moves .., .of_eq (consumeUp_ledger p)]
  · exact .of_eq ((offer_ledger ..).trans (modPort_ledger ..))

theorem telegramEnd_moves (q : PortId) (heard : List RxChar) (p : Part) : Moves p (telegramEnd q heard p) := by
  have counted (e : PortEvent) : (countEvent q e (modPort q Port.heardEnd p)).ledger = p.ledger :=
    (countEvent_ledger ..).trans (modPort_ledger ..)
  unfold telegramEnd
  split
  · exact .of_eq (counted _)
  · exact .of_eq (counted _)
  · split; exacts [upTelegram_moves .., fieldTelegram_moves ..]

/-! ## Every step -/

/-- The part of the state after an outcome, from the effect on the part. -/
theorem outcome_moves {f : Part → Part} (moves : ∀ p, Moves p (f p)) {s t : State} (e : outcome f s = .next t) :
    Moves s.toPart t.toPart := by
  cases e; exact moves _

theorem exec_moves (i : Instr) {s t : State} (e : exec i s = .next t) : Moves s.toPart t.toPart := by
  have command : ∀ p, Moves p (runCommand i p) := runCommand_moves i
  cases i
  case powerOn => exact outcome_moves (powerUp_moves _ _ _) e
  case resetLine => exact outcome_moves (powerUp_moves _ _ _) e
  case profileLineChange => exact outcome_moves (fun p => .of_eq (profileLine_ledger _ p)) e
  case meterSample => exact outcome_moves (fieldTelegram_moves _) e
  case levelReport => exact outcome_moves (fieldTelegram_moves _) e
  case tagReport => exact outcome_moves (fieldTelegram_moves _) e
  case sumpReport => exact outcome_moves (fieldTelegram_moves _) e
  case estopReport => exact outcome_moves (fieldTelegram_moves _) e
  case starterStatus => exact outcome_moves (fieldTelegram_moves _) e
  case valveStatus => exact outcome_moves (fieldTelegram_moves _) e
  case inletStatus => exact outcome_moves (fieldTelegram_moves _) e
  case echoBack => exact outcome_moves (fieldTelegram_moves _) e
  case fieldTelegramOther => exact outcome_moves (fieldTelegram_moves _) e
  case telegramDiscarded => exact outcome_moves (telegramEnd_moves _ _) e
  case upTelegramOffered => exact outcome_moves (upTelegram_moves _) e
  case upTelegramConsumed => exact outcome_moves (upTelegram_moves _) e
  case idleWaitExpiry => exact outcome_moves (fun p => .of_eq (modPort_ledger _ _ p)) e
  case transmitStart => exact outcome_moves (fun p => .of_eq (modPort_ledger _ _ p)) e
  case startBitHeard => exact outcome_moves (fun p => .of_eq (modPort_ledger _ _ p)) e
  case transmitEnd => exact outcome_moves (fun p => .of_eq (sendEnd_ledger _ p)) e
  case idleTimerExpiry => exact outcome_moves (idleExpiry_moves _) e
  case pauseTimerExpiry => exact outcome_moves (fun p => .of_eq (pauseExpiry_ledger _ p)) e
  case confirmTimerExpiry => exact outcome_moves (confirmExpiry_moves _) e
  case drainWindowExpiry => exact outcome_moves (leaveClosing_moves _) e
  case periodTimerExpiry => exact outcome_moves (periodExpiry_moves _) e
  case settleTimerExpiry => exact outcome_moves (fun p => .of_eq (settleExpiry_ledger _ p)) e
  case restWindowExpiry => exact outcome_moves (restExpiry_moves _) e
  case recoveryTimerExpiry => exact outcome_moves (fun p => .of_eq (recoveryExpiry_ledger _ p)) e
  case bayClockTick => exact outcome_moves (fun p => .of_eq (clockTick_ledger p)) e
  case gapTimerExpiry => exact outcome_moves (fun p => .of_eq (gapExpiry_ledger p)) e
  case echoWaitExpiry => exact outcome_moves (fun p => .of_eq (waitExpiry_ledger p)) e
  all_goals exact outcome_moves command e

theorem step_moves {s t : State} (e : step s = .next t) : Moves s.toPart t.toPart := by
  unfold step at e
  split at e
  · cases e; exact .refl _
  · rename_i rest _
    exact exec_moves (s := { s with pending := rest }) _ e

/-! ## The promises -/

/-- Settles O11: every step is a run of moves of the ledger, and each move keeps the agreement of machines and hoses. -/
theorem machinesAndOpenTransactionsNameEachOther : Obligations.MachinesAndOpenTransactionsNameEachOther :=
  fun _ _ agree e => (step_moves e).machinesAgree agree

/-- Settles O12: every step is a run of moves of the ledger, and each move keeps both counts the number of their hoses. -/
theorem pumpAndOpenHoseCountsCountTheirHoses : Obligations.PumpAndOpenHoseCountsCountTheirHoses :=
  ⟨fun _ _ agree e => (step_moves e).pumpsAgree agree, fun _ _ agree e => (step_moves e).openHosesAgree agree⟩

end Sys2Proof.Machine
end

section
/-! The hose's timers, the entry to CLOSING and the end of a proving run (R12, R14, R15, R18, R19, R181). -/

namespace Sys2Proof.Machine

open Sys2Proof

/-! ## Events as effects on the part -/

theorem State.on_congr {f g : Part → Part} {s : State} (e : f s.toPart = g s.toPart) : s.on f = s.on g := by
  unfold State.on; rw [e]

theorem State.on_self {f : Part → Part} {s : State} (e : f s.toPart = s.toPart) : s.on f = s := by
  unfold State.on; rw [e]

/-! ## The timers -/

theorem idleExpiry_of_running {h : HoseNo} {p : Part} (on : (p.hose h).idleTimer.isSome = true) :
    idleExpiry h p = endRequest h .idleTimeout p := if_pos on
theorem idleExpiry_of_stopped {h : HoseNo} {p : Part} (off : (p.hose h).idleTimer = none) : idleExpiry h p = p := by
  unfold idleExpiry; rw [off]; rfl
theorem confirmExpiry_of_running {h : HoseNo} {p : Part} {t : Tally} (m : (p.hose h).mode.tally = some t)
    (wait : t.pumpWait = true) : confirmExpiry h p = endRequest h .startFail p := by
  unfold confirmExpiry Hose.confirmTimer; rw [m]; simp [wait]
theorem confirmExpiry_of_stopped {h : HoseNo} {p : Part} (off : ∀ t, (p.hose h).mode.tally = some t → t.pumpWait = false) :
    confirmExpiry h p = p := by
  unfold confirmExpiry Hose.confirmTimer
  cases m : (p.hose h).mode.tally with
  | none => rfl
  | some t => simp [off t m]

theorem timers_end_or_pause (h : HoseNo) (s : State) :
    (∀ txn, (s.hose h).mode = .fill .ready txn ∨ (s.hose h).mode = .fill .paused txn →
       exec (.idleTimerExpiry h) s = .next (s.on (enterClosing h .idleTimeout txn))) ∧
     (∀ ph txn, (s.hose h).mode = .fill ph txn → (s.hose h).mode.isClosing = false → txn.tally.pumpWait = true →
       exec (.confirmTimerExpiry h) s = .next (s.on (enterClosing h .startFail txn))) ∧
     ((s.hose h).mode = .idle ∨ (s.hose h).mode = .out →
       exec (.idleTimerExpiry h) s = .next s ∧ exec (.confirmTimerExpiry h) s = .next s) ∧
     (∀ ses run, (s.hose h).mode = .proving ses → ses.run = some run →
       exec (.idleTimerExpiry h) s = .next (s.on (endRun h .idleTimeout ses run)) ∧
       (run.tally.pumpWait = true → exec (.confirmTimerExpiry h) s = .next (s.on (endRun h .startFail ses run))) ∧
       (run.tally.pumpWait = false → exec (.confirmTimerExpiry h) s = .next s)) := by
  have idle {g : Part → Part} (e : idleExpiry h s.toPart = g s.toPart) :
      exec (.idleTimerExpiry h) s = .next (s.on g) := congrArg Host.Outcome.next (State.on_congr e)
  have confirm {g : Part → Part} (e : confirmExpiry h s.toPart = g s.toPart) :
      exec (.confirmTimerExpiry h) s = .next (s.on g) := congrArg Host.Outcome.next (State.on_congr e)
  refine ⟨fun txn m => idle ?_, fun ph txn m going wait => confirm ?_, fun m => ?_, fun ses run m r => ?_⟩
  · have on : (s.hose h).idleTimer.isSome = true ∧ (s.hose h).mode.isClosing = false := by
      rcases m with m | m <;> simp [Hose.idleTimer, HoseMode.isClosing, m]
    rw [idleExpiry_of_running on.1]
    rcases m with m | m <;> exact endRequest_of_fill m on.2 _
  · rw [confirmExpiry_of_running (t := txn.tally) (by rw [m]; rfl) wait, endRequest_of_fill m going]
  · have none : (s.hose h).idleTimer = none ∧ (s.hose h).mode.tally = none := by
      rcases m with m | m <;> simp [Hose.idleTimer, HoseMode.tally, m]
    exact ⟨idle (g := id) (idleExpiry_of_stopped none.1),
      confirm (g := id) (confirmExpiry_of_stopped fun t e => by rw [none.2] at e; cases e)⟩
  · have tally : (s.hose h).mode.tally = some run.tally := by simp [m, HoseMode.tally, r]
    refine ⟨idle ?_, fun wait => confirm ?_, fun wait => confirm (g := id) ?_⟩
    · rw [idleExpiry_of_running (by simp [Hose.idleTimer, m, r]), endRequest_of_run m r]; rfl
    · rw [confirmExpiry_of_running tally wait, endRequest_of_run m r]; rfl
    · exact confirmExpiry_of_stopped fun t e => by rw [tally] at e; cases e; exact wait

theorem pauseTimer_pauses (h : HoseNo) (s : State) :
    (∀ txn, (s.hose h).mode = .fill .flowing txn →
       exec (.pauseTimerExpiry h) s = .next (s.on (modHose h fun x => { x with mode := .fill .paused txn }))) ∧
     ((∀ txn, (s.hose h).mode ≠ .fill .flowing txn) → exec (.pauseTimerExpiry h) s = .next s) := by
  refine ⟨fun txn m => congrArg Host.Outcome.next (State.on_congr ?_), fun m =>
    congrArg Host.Outcome.next (State.on_self ?_)⟩ <;> unfold pauseExpiry
  · simp only [m]; rfl
  · split
    · rename_i t e; exact absurd e (m t)
    · rfl

/-! ## The ends -/

/-- The orders of an end, written out by the cause and the zone. -/
theorem endOrders_eq (p : Part) (h : HoseNo) (cause : EndCause) (t : TankNo) :
    p.endOrders h cause t = p.orderTo 0x21 (.valve h) 0 ++
      (if cause = .trip then p.orderTo 0x22 (.reader h) 4 else if p.hoseTripped h then [] else p.orderTo 0x22 (.reader h) 0) ++
      (if (p.pump t).count = 1 then p.orderTo 0x20 (.starter t) 0 else []) := by
  unfold Part.endOrders Part.lampTo
  by_cases trip : cause = .trip
  · rw [if_pos trip, if_pos trip]; rfl
  · rw [if_neg trip, if_neg trip]; rfl

theorem enterClosing_effect (h : HoseNo) (cause : EndCause) (txn : Transaction) (p : Part) :
    let q := enterClosing h cause txn p
    q.hose h = { p.hose h with mode := (.fill (.closing cause ⟨p.clock, p.clockUnset⟩)
       { txn with tally := { txn.tally with lastCode := 0, pumpWait := false } }) } ∧
     (∀ j, j ≠ h → q.hose j = p.hose j) ∧
     q.pump txn.tank = { count := (p.pump txn.tank).count - 1,
                         confirmed := (p.pump txn.tank).confirmed && (p.pump txn.tank).count != 1 } ∧
     (∀ k, k ≠ txn.tank → q.pump k = p.pump k) ∧
     q.fp = (p.endOrders h cause txn.tank).foldl (fun x u => x.queueOrder u) p.fp ∧
     q = { p with hoses := q.hoses, pumps := q.pumps, fp := q.fp } := by
  refine ⟨enterClosing_hose_same h cause txn p, fun j ne => enterClosing_hose_other ne cause txn p, ?_, fun k ne => ?_, ?_,
    enterClosing_frame h cause txn p⟩
  · rw [enterClosing_pump, if_pos rfl]; rfl
  · rw [enterClosing_pump, if_neg ne.symm]
  · rw [enterClosing_eq]; rfl

theorem hoseClosed_eq (x : Tank) : x.hoseClosed =
    { x with openHoses := x.openHoses - 1, loss := if x.openHoses ≤ 1 then .none else x.loss } := by
  unfold Tank.hoseClosed; simp only [Nat.sub_eq_zero_iff_le]

/-- A hose's product, where its tank names one. -/
theorem hoseProduct_of {p : Part} {h : HoseNo} {k : TankNo} {i : ProductNo} {prod : Product}
    (tank : (p.hose h).cfg.tank = some k) (product : p.tankProduct k = some (i, prod)) :
    p.hoseProduct h = prod ∧ p.hoseProductNo h = i.val + 1 := by
  have named : (p.tank k).cfg.product = some i := by
    unfold Part.tankProduct at product
    obtain ⟨j, e, pair⟩ := Option.map_eq_some_iff.1 product
    cases pair; exact e
  unfold Part.hoseProduct Part.hoseProductNo
  simp only [tank, product, named, numberOf, and_self]

theorem endRun_fp {h : HoseNo} {k : TankNo} {p : Part} (tank : (p.hose h).cfg.tank = some k) (cause : EndCause)
    (s : Session) (r : ProvingRun) :
    (endRun h cause s r p).fp = (p.endOrders h cause k).foldl (fun x u => x.queueOrder u) p.fp := by
  rw [endRun_eq, placeReserved_fp]; unfold Part.runStopped; simp only [tank]; rfl

theorem runStopped_frame (p : Part) (h : HoseNo) (cause : EndCause) (s : Session) (r : ProvingRun) :
    (p.runStopped h cause s r).machines = p.machines ∧ (p.runStopped h cause s r).zones = p.zones ∧
      (p.runStopped h cause s r).devices = p.devices := by
  unfold Part.runStopped; cases (p.hose h).cfg.tank <;> exact ⟨rfl, rfl, rfl⟩

theorem endRun_frame (h : HoseNo) (cause : EndCause) (s : Session) (r : ProvingRun) (p : Part) :
    (endRun h cause s r p).machines = p.machines ∧ (endRun h cause s r p).zones = p.zones ∧
      (endRun h cause s r p).devices = p.devices := by
  rw [endRun_eq, placeReserved_machines, placeReserved_zones, placeReserved_devices]
  exact runStopped_frame ..

/-- Settles O34: the timers make an end request or a pause, and the two ends are read off their equations. -/
theorem timersEndOrPauseTheFill : Obligations.TimersEndOrPauseTheFill := by
  refine ⟨timers_end_or_pause, pauseTimer_pauses, fun h cause txn p => ?_, fun h cause ses r k i prod p tank product => ?_⟩
  · obtain ⟨hose, hoses, pump, pumps, fp, frame⟩ := enterClosing_effect h cause txn p
    rw [endOrders_eq] at fp
    exact ⟨hose, hoses, pump, pumps, fp, frame⟩
  · obtain ⟨hp, hn⟩ := hoseProduct_of tank product
    obtain ⟨machines, zones, devices⟩ := endRun_frame h cause ses r p
    have fp := endRun_fp tank cause ses r
    rw [endOrders_eq] at fp
    refine ⟨?_, fun j ne => endRun_hose_other ne cause ses r p, ?_, fun j ne => ?_, ?_, fun j ne => ?_, fp,
      endRun_reserved h cause ses r p, machines, zones, devices, ?_⟩
    · rw [endRun_hose_same, Part.runResult, hp]; rfl
    · rw [endRun_pump, if_pos tank]; rfl
    · rw [endRun_pump, if_neg (by rw [tank]; exact fun e => ne (Option.some.inj e).symm)]
    · rw [endRun_tank, if_pos tank, hoseClosed_eq]
    · rw [endRun_tank, if_neg (by rw [tank]; exact fun e => ne (Option.some.inj e).symm)]
    · rw [endRun_records, Part.runRecord, tank, hn]; rfl

end Sys2Proof.Machine
end

section
/-! The low-stock test (R80), the recovery test (R105), and the services of tanks and hoses (R3 to R5, R70, R71). -/

namespace Sys2Proof.Machine

open Sys2Proof

/-! ## The low-stock test -/

/-- The low-stock limit ends transactions and no runs: what entry to CLOSING keeps, its ends keep. -/
theorem endFills_low_keep {α : Type} (view : Part → α) (fill : ∀ h t p, view (enterClosing h .tankLow t p) = view p)
    (k : TankNo) (p : Part) : view (endFills k .tankLow p) = view p := by
  refine each_keep_mem view _ _ (fun h _ q => ?_) p
  split
  · obtain e | ⟨c, -⟩ | ⟨_, t, -, -, e⟩ | ⟨_, _, -, -, c, -⟩ := endRequest_cases h .tankLow q
    · rw [e]
    · cases c
    · rw [e]; exact fill ..
    · cases c
  · rfl

@[simp] theorem endFills_low_tanks (k : TankNo) (p : Part) : (endFills k .tankLow p).tanks = p.tanks :=
  endFills_low_keep (·.tanks) (fun _ _ _ => enterClosing_tanks ..) k p

theorem endFills_low_tank (k i : TankNo) (p : Part) : (endFills k .tankLow p).tank i = p.tank i := by
  unfold Part.tank; rw [endFills_low_tanks]

/-- What entry to CLOSING, a tank's own record and the notice keep, the test keeps. -/
theorem lowStockTest_keep {α : Type} (view : Part → α) (fill : ∀ h t p, view (enterClosing h .tankLow t p) = view p)
    (mod : ∀ t f p, view (modTank t f p) = view p) (note : ∀ p, view (raise .tankLow p) = view p) (k : TankNo) (p : Part) :
    view (lowStockTest k p) = view p := by
  unfold lowStockTest
  split
  · dsimp only
    split
    · exact endFills_low_keep view fill k p
    · rw [note, mod]; exact endFills_low_keep view fill k p
  · exact mod ..

@[simp] theorem lowStockTest_records (k : TankNo) (p : Part) : (lowStockTest k p).records = p.records :=
  lowStockTest_keep (·.records) (fun _ _ _ => enterClosing_records ..) (fun _ _ _ => rfl) (raise_records _) k p
@[simp] theorem lowStockTest_reserved (k : TankNo) (p : Part) : (lowStockTest k p).reserved = p.reserved :=
  lowStockTest_keep (·.reserved) (fun _ _ _ => enterClosing_reserved ..) (fun _ _ _ => rfl) (raise_reserved _) k p

/-- The low flag follows the book. -/
theorem lowStockTest_tank (k i : TankNo) (p : Part) : (lowStockTest k p).tank i =
    if k = i then { p.tank i with low := decide ((p.tank i).bound ≤ 0) } else p.tank i := by
  unfold lowStockTest
  by_cases low : (p.tank k).bound ≤ 0
  · rw [if_pos low]
    dsimp only
    by_cases was : (p.tank k).low = true
    · rw [if_pos was, endFills_low_tank]
      split
      · rename_i e; subst e; rw [decide_eq_true low, ← was]
      · rfl
    · rw [if_neg was, raise_tank, modTank_tank, endFills_low_tank]
      split
      · rename_i e; subst e; rw [decide_eq_true low]
      · rfl
  · rw [if_neg low, modTank_tank]
    split
    · rename_i e; subst e; rw [decide_eq_false low]
    · rfl

/-- At or below the cutoff TANK_LOW is pending from the moment the flag is set. -/
theorem lowStockTest_notice {k : TankNo} {p : Part} (low : (p.tank k).bound ≤ 0) (new : (p.tank k).low = false) :
    lowStockTest k p = raise .tankLow (modTank k (fun x => { x with low := true }) (endFills k .tankLow p)) := by
  unfold lowStockTest
  rw [if_pos low, if_neg (by simp [new])]

/-! ## The recovery test -/

theorem marksComplete_iff (p : Part) (z : ZoneNo) : p.marksComplete z = true ↔
    ∀ k, (p.tank k).cfg.zone = z → (p.tank k).state ≠ .outOfService → (p.zone z).marks.getLsbD k.val = true := by
  simp only [Part.marksComplete, Part.zoneTanks, List.all_filter, List.all_eq_true, mem_tankNos, true_implies]
  refine forall_congr' fun k => ?_
  simp only [Bool.or_eq_true, Bool.not_eq_true', beq_eq_false_iff_ne, beq_iff_eq]
  tauto

/-- A zone whose recovery test passes is back in NORMAL. -/
theorem recoveryTest_passed {z : ZoneNo} {p : Part} (state : (p.zone z).state = .recovery)
    (timer : (p.zone z).timer = .expired) (marks : p.marksComplete z = true) : recoveryTest z p =
      syncLines (modZone z (fun x => { x with state := .normal, causes := 0, marks := 0 }) p) := by
  unfold recoveryTest; rw [if_pos]; simp [state, timer, marks]

theorem recoveryTest_failed {z : ZoneNo} {p : Part}
    (not : ¬((p.zone z).state = .recovery ∧ (p.zone z).timer = .expired ∧ p.marksComplete z = true)) :
    recoveryTest z p = p := by
  unfold recoveryTest; rw [if_neg]; simpa [and_assoc] using not

@[simp] theorem recoveryTest_tank (z : ZoneNo) (p : Part) (t : TankNo) : (recoveryTest z p).tank t = p.tank t := by
  unfold recoveryTest; split <;> rfl
@[simp] theorem recoveryTest_records (z : ZoneNo) (p : Part) : (recoveryTest z p).records = p.records := by
  unfold recoveryTest; split <;> rfl
@[simp] theorem recoveryTest_machines (z : ZoneNo) (p : Part) : (recoveryTest z p).machines = p.machines := by
  unfold recoveryTest; split <;> rfl

theorem setTankState_tank (t k : TankNo) (st : TankState) (p : Part) :
    (setTankState t st p).tank k = if t = k then { p.tank k with state := st } else p.tank k := by
  unfold setTankState; rw [recoveryTest_tank, modTank_tank]

/-- The recovery test of a zone whose tank `t` takes a new state. -/
theorem marksComplete_modTank (t : TankNo) (st : TankState) (f : Tank → Tank) (p : Part) (z : ZoneNo)
    (zone : (f (p.tank t)).cfg.zone = (p.tank t).cfg.zone) (state : (f (p.tank t)).state = st) :
    (modTank t f p).marksComplete z = true ↔
      ∀ k, (p.tank k).cfg.zone = z → (if k = t then st else (p.tank k).state) ≠ .outOfService →
        (p.zone z).marks.getLsbD k.val = true := by
  rw [marksComplete_iff]
  refine forall_congr' fun k => ?_
  rw [modTank_tank, modTank_zone_keep]
  by_cases e : t = k
  · subst e; simp only [if_true, zone, state]
  · simp only [e, if_false, Ne.symm e]

/-! ## TANK_SERVICE -/

/-- A strapping point above another, and holding no less. -/
abbrev rises (lo hi : StrapPoint) : Prop := lo.level < hi.level ∧ lo.volume ≤ hi.volume

/-- Levels strictly increasing and volumes not decreasing, from each point to each later one. -/
theorem strapsRise_iff (ps : List StrapPoint) : strapsRise ps = true ↔ ps.Pairwise rises := by
  have step : strapsRise ps = true ↔ ps.IsChain rises := by
    induction ps with
    | nil => simp [strapsRise]
    | cons p ps ih =>
      cases ps with
      | nil => simp [strapsRise]
      | cons q rest => rw [strapsRise, List.isChain_cons_cons, ← ih]; simp
  have : Trans rises rises rises := ⟨fun a b => ⟨a.1.trans b.1, a.2.trans b.2⟩⟩
  rw [step, List.isChain_iff_pairwise]

theorem productNamed_iff (p : Part) (t : TankNo) :
    p.productNamed t = true ↔ ∃ i, (p.tank t).cfg.product = some i ∧ (p.product i).cls ≠ .none := by
  unfold Part.productNamed Part.heldProduct Part.tankProduct
  cases named : (p.tank t).cfg.product with
  | none => simp
  | some i => by_cases c : (p.product i).cls = .none <;> simp [c]

/-- The five checks of R71, point by point of the strapping table. -/
theorem tankFit_iff (p : Part) (t : TankNo) :
    p.tankFit t = true ↔
      let c := (p.tank t).cfg
      (∃ i, c.product = some i ∧ (p.product i).cls ≠ .none) ∧ 2 ≤ c.table.length ∧
        (∀ first ∈ c.table.head?, first.level = 0) ∧
        c.table.Pairwise rises ∧ 0 < c.capacity ∧ (∀ last ∈ c.table.getLast?, last.volume ≤ c.capacity ∧ c.highHigh ≤ last.level) ∧
        0 < c.highHigh ∧ (p.boundNode (.gauge t)).isSome = true := by
  dsimp only
  simp only [Part.tankFit, TankConfig.strapsOk, TankConfig.capacityOk, Bool.and_eq_true, decide_eq_true_eq, beq_iff_eq,
    productNamed_iff, strapsRise_iff]
  by_cases two : 2 ≤ (p.tank t).cfg.table.length
  · have some_last : (p.tank t).cfg.table.getLast? = some (lastStrap (p.tank t).cfg.table) := by
      unfold lastStrap
      rw [List.getLastD_eq_getLast?]
      cases e : (p.tank t).cfg.table.getLast? with
      | none => rw [List.getLast?_eq_none_iff.1 e] at two; simp at two
      | some x => rfl
    have some_head : ∃ first, (p.tank t).cfg.table.head? = some first ∧ (p.tank t).cfg.table.headD ⟨1, 0⟩ = first := by
      cases e : (p.tank t).cfg.table with
      | nil => rw [e] at two; simp at two
      | cons x xs => exact ⟨x, rfl, rfl⟩
    obtain ⟨first, head, headD⟩ := some_head
    simp only [some_last, head, headD, Option.mem_some_iff, forall_eq']
    tauto
  · simp [two]

@[simp] theorem consumeUp_tankFit (p : Part) (t : TankNo) : (consumeUp p).tankFit t = p.tankFit t := by
  rw [Bool.eq_iff_iff, tankFit_iff, tankFit_iff]; simp

theorem exec_tankServiceIn {src : Node} {b : Byte} {t : TankNo} {s : State} {st : Status} {f : Part → Part}
    (hb : b.toNat = t.val + 1) (h : tankIn t (consumeUp s.toPart) = ⟨f (consumeUp s.toPart), st, []⟩) :
    exec (.tankServiceIn src b) s = .next (s.answered src st [] f) :=
  outcome_command (by unfold tankService; rw [withIndex_of t hb]; exact h)

theorem exec_tankServiceOut {src : Node} {b : Byte} {t : TankNo} {s : State} {st : Status} {f : Part → Part}
    (hb : b.toNat = t.val + 1) (h : tankOut t (consumeUp s.toPart) = ⟨f (consumeUp s.toPart), st, []⟩) :
    exec (.tankServiceOut src (some (b, 0))) s = .next (s.answered src st [] f) :=
  outcome_command (by rw [withArgs_some]; dsimp only; unfold tankService; rw [withIndex_of t hb]; exact h)

/-- The zone of a tank that goes into service: its recovery test counts the tank with those in service. -/
theorem serviceIn_zone (t : TankNo) (p : Part) :
    let z := (p.tank t).cfg.zone
    let ready := (p.zone z).state = .recovery ∧ (p.zone z).timer = .expired ∧
      ∀ k, (p.tank k).cfg.zone = z → k = t ∨ (p.tank k).state ≠ .outOfService → (p.zone z).marks.getLsbD k.val = true
    (ready → (setTankState t .inService p).zone z = { p.zone z with state := .normal, causes := 0, marks := 0 } ∧
      ∀ y, y ≠ z → (setTankState t .inService p).zone y = p.zone y) ∧
    (¬ready → (setTankState t .inService p).zones = p.zones) := by
  intro z ready
  have marks : (modTank t (fun x => { x with state := .inService }) p).marksComplete z = true ↔
      ∀ k, (p.tank k).cfg.zone = z → k = t ∨ (p.tank k).state ≠ .outOfService →
        (p.zone z).marks.getLsbD k.val = true := by
    rw [marksComplete_modTank (f := fun x => { x with state := .inService }) t .inService p z rfl rfl]
    refine forall_congr' fun k => ?_
    by_cases e : k = t <;> simp [e]
  unfold setTankState
  generalize tested : modTank t (fun x => { x with state := .inService }) p = q at marks
  have zones : q.zones = p.zones := by rw [← tested, modTank_zones]
  have zone (y : ZoneNo) : q.zone y = p.zone y := by unfold Part.zone; rw [zones]
  refine ⟨fun ⟨state, timer, all⟩ => ?_, fun not => ?_⟩
  · rw [recoveryTest_passed (p := q) (by rw [zone]; exact state) (by rw [zone]; exact timer) (marks.2 all)]
    refine ⟨?_, fun y ne => ?_⟩
    · rw [syncLines_zone, modZone_zone_same, zone]
    · rw [syncLines_zone, modZone_zone, if_neg (Ne.symm ne), zone]
  · rw [recoveryTest_failed fun ⟨state, timer, all⟩ => not ⟨by rwa [zone] at state, by rwa [zone] at timer, marks.1 all⟩, zones]

theorem tankService_in (src : Node) (b : Byte) (t : TankNo) (s : State) (hb : b.toNat = t.val + 1) :
    ((s.tank t).state ≠ .outOfService → exec (.tankServiceIn src b) s = .next (s.answered src .done [] id)) ∧
    ((s.tank t).state = .outOfService → s.tankFit t = false →
      exec (.tankServiceIn src b) s = .next (s.answered src .badValue [] id)) ∧
    ((s.tank t).state = .outOfService → s.tankFit t = true → exec (.tankServiceIn src b) s =
      .next (s.answered src .done [] fun p => lowStockTest t (setTankState t .inService p))) := by
  refine ⟨fun at_ => exec_tankServiceIn hb ?_, fun at_ fit => exec_tankServiceIn hb ?_,
    fun at_ fit => exec_tankServiceIn hb ?_⟩ <;> unfold tankIn <;> rw [consumeUp_tank]
  · rw [if_pos at_]; rfl
  · rw [if_neg (not_not.2 at_), consumeUp_tankFit, fit]; rfl
  · rw [if_neg (not_not.2 at_), consumeUp_tankFit, fit]; rfl

theorem tankService_in_effect (src : Node) (t : TankNo) (s : State) :
    let x := s.tank t
    let u := s.answered src .done [] fun p => lowStockTest t (setTankState t .inService p)
    u.tank t = { x with state := .inService, low := decide (x.book ≤ (x.cfg.lowCutoff * 1000 : Nat)) } ∧
      (∀ k, k ≠ t → u.tank k = s.tank k) ∧ u.records = s.records ∧ u.machines = s.machines ∧
      u.zones = (setTankState t .inService (consumeUp s.toPart)).zones := by
  intro x u
  have part : u.toPart = reply src .done [] (lowStockTest t (setTankState t .inService (consumeUp s.toPart))) := rfl
  have bound : (({ x with state := .inService } : Tank).bound ≤ 0) ↔ x.book ≤ (x.cfg.lowCutoff * 1000 : Nat) := by
    unfold Tank.bound; dsimp only; omega
  refine ⟨?_, fun k ne => ?_, ?_, ?_, ?_⟩ <;> rw [part]
  · rw [reply_tank, lowStockTest_tank, if_pos rfl, setTankState_tank, if_pos rfl, consumeUp_tank]
    exact congrArg (fun b => ({ x with state := .inService, low := b } : Tank)) (decide_eq_decide.2 bound)
  · rw [reply_tank, lowStockTest_tank, if_neg ne.symm, setTankState_tank, if_neg ne.symm, consumeUp_tank]
  · rw [reply_records, lowStockTest_records, setTankState, recoveryTest_records, modTank_records, consumeUp_records]
  · rw [reply_machines, lowStockTest_machines, setTankState, recoveryTest_machines, modTank_machines, consumeUp_machines]
  · rw [reply_zones, lowStockTest_zones]

/-- A tank out of service, its windows ended. -/
def Tank.retired (x : Tank) : Tank := { x with state := .outOfService, loss := .none, rest := .none }

theorem tankOut_of_idle {t : TankNo} {p : Part} (state : (p.tank t).state = .inService) (idle : (p.tank t).openHoses = 0) :
    tankOut t p = ⟨recoveryTest (p.tank t).cfg.zone (modTank t Tank.retired p), .done, []⟩ := by
  unfold tankOut setTankState
  simp only [state, idle, Nat.lt_irrefl, if_false, modTank_tank_same, modTank_modTank]
  rfl

theorem retired_marks (t : TankNo) (p : Part) (z : ZoneNo) : (modTank t Tank.retired p).marksComplete z = true ↔
    ∀ k, k ≠ t → (p.tank k).cfg.zone = z → (p.tank k).state ≠ .outOfService → (p.zone z).marks.getLsbD k.val = true := by
  rw [marksComplete_modTank (f := Tank.retired) t .outOfService p z rfl rfl]
  refine forall_congr' fun k => ?_
  by_cases e : k = t <;> simp [e]

theorem tankService_out (src : Node) (b : Byte) (t : TankNo) (s : State) (hb : b.toNat = t.val + 1) :
    let x := s.tank t
    (x.state = .outOfService → exec (.tankServiceOut src (some (b, 0))) s = .next (s.answered src .done [] id)) ∧
    (x.state = .receiving ∨ x.state = .inService ∧ 0 < x.openHoses →
      exec (.tankServiceOut src (some (b, 0))) s = .next (s.answered src .inUse [] id)) ∧
    (x.state = .inService → x.openHoses = 0 → (s.zone x.cfg.zone).state ≠ .recovery →
      exec (.tankServiceOut src (some (b, 0))) s = .next (s.answered src .done [] (modTank t Tank.retired))) ∧
    (x.state = .inService → x.openHoses = 0 → (s.zone x.cfg.zone).state = .recovery →
      let ready := (s.zone x.cfg.zone).timer = .expired ∧
        ∀ k, k ≠ t → (s.tank k).cfg.zone = x.cfg.zone → (s.tank k).state ≠ .outOfService →
          (s.zone x.cfg.zone).marks.getLsbD k.val = true
      (ready → exec (.tankServiceOut src (some (b, 0))) s = .next (s.answered src .done [] fun p =>
        syncLines (modZone x.cfg.zone (fun z => { z with state := .normal, causes := 0, marks := 0 })
          (modTank t Tank.retired p)))) ∧
      (¬ready → exec (.tankServiceOut src (some (b, 0))) s = .next (s.answered src .done [] (modTank t Tank.retired)))) := by
  intro x
  have x_eq : (consumeUp s.toPart).tank t = x := consumeUp_tank ..
  have tested (state : x.state = .inService) (idle : x.openHoses = 0) : tankOut t (consumeUp s.toPart) =
      ⟨recoveryTest x.cfg.zone (modTank t Tank.retired (consumeUp s.toPart)), .done, []⟩ := by
    rw [tankOut_of_idle (by rw [x_eq]; exact state) (by rw [x_eq]; exact idle), x_eq]
  refine ⟨fun state => exec_tankServiceOut hb ?_, fun busy => exec_tankServiceOut hb ?_, fun state idle zone =>
    exec_tankServiceOut hb ?_, fun state idle zone => ⟨fun ⟨timer, all⟩ => exec_tankServiceOut hb ?_, fun not =>
    exec_tankServiceOut hb ?_⟩⟩
  · unfold tankOut; rw [x_eq, state]; rfl
  · unfold tankOut; rw [x_eq]
    rcases busy with state | ⟨state, busy⟩ <;> rw [state]
    · rfl
    · dsimp only; rw [if_pos busy]; rfl
  · rw [tested state idle, recoveryTest_failed fun ready => zone (by simpa using ready.1)]
  · rw [tested state idle, recoveryTest_passed (by simpa using zone) (by simpa using timer)
      ((retired_marks ..).2 (by simpa using all))]
  · rw [tested state idle, recoveryTest_failed fun ready => not ⟨by simpa using ready.2.1, by
      simpa using (retired_marks ..).1 ready.2.2⟩]

/-! ## HOSE_SERVICE -/

theorem exec_hoseServiceOut {src : Node} {b : Byte} {h : HoseNo} {s : State} {st : Status} {f : Part → Part}
    (hb : b.toNat = h.val + 1) (e : hoseOut h (consumeUp s.toPart) = ⟨f (consumeUp s.toPart), st, []⟩) :
    exec (.hoseServiceOut src (some (b, 0))) s = .next (s.answered src st [] f) :=
  outcome_command (by rw [withArgs_some]; dsimp only; unfold hoseService; rw [withIndex_of h hb]; exact e)

theorem exec_hoseServiceIn {src : Node} {b : Byte} {h : HoseNo} {s : State} {st : Status} {f : Part → Part}
    (hb : b.toNat = h.val + 1) (e : hoseIn h (consumeUp s.toPart) = ⟨f (consumeUp s.toPart), st, []⟩) :
    exec (.hoseServiceIn src b) s = .next (s.answered src st [] f) :=
  outcome_command (by unfold hoseService; rw [withIndex_of h hb]; exact e)

theorem hoseFit_iff (p : Part) (h : HoseNo) : p.hoseFit h = true ↔
    let c := (p.hose h).cfg
    c.tank.isSome = true ∧ (p.boundNode (.meter h)).isSome = true ∧ (p.boundNode (.reader h)).isSome = true ∧
      (p.boundNode (.valve h)).isSome = true ∧ 1 ≤ c.pulseWeight ∧ curveOk c.curve = true := by
  simp only [Part.hoseFit, Bool.and_eq_true, decide_eq_true_eq, and_assoc]

theorem hoseService_out (src : Node) (b : Byte) (h : HoseNo) (s : State) (hb : b.toNat = h.val + 1) :
    let x := s.hose h
    (x.mode = .idle → exec (.hoseServiceOut src (some (b, 0))) s = .next (s.answered src .done [] (enterOut h))) ∧
    (∀ cause ended txn, x.mode = .fill (.closing cause ended) txn →
      exec (.hoseServiceOut src (some (b, 0))) s = .next (s.answered src .done [] (setPendingOut h true))) ∧
    (∀ ph txn, x.mode = .fill ph txn → x.mode.isClosing = false → exec (.hoseServiceOut src (some (b, 0))) s =
      .next (s.answered src .done [] fun p => setPendingOut h true (enterClosing h .hoseOut txn p))) ∧
    (x.mode = .out → exec (.hoseServiceOut src (some (b, 0))) s = .next (s.answered src .done [] id)) ∧
    (∀ ses, x.mode = .proving ses →
      exec (.hoseServiceOut src (some (b, 0))) s = .next (s.answered src .refusedMode [] id)) := by
  intro x
  have x_eq : (consumeUp s.toPart).hose h = x := consumeUp_hose ..
  refine ⟨fun m => exec_hoseServiceOut hb ?_, fun cause ended txn m => exec_hoseServiceOut hb ?_,
    fun ph txn m going => exec_hoseServiceOut hb ?_, fun m => exec_hoseServiceOut hb ?_,
    fun ses m => exec_hoseServiceOut hb ?_⟩ <;> unfold hoseOut
  · rw [x_eq, m]; rfl
  · rw [x_eq, m]; rfl
  · have ends := endRequest_of_fill (by rw [x_eq]; exact m) (by rw [x_eq]; exact going) .hoseOut
    rw [x_eq, m]
    cases ph with
    | closing c e => rw [m] at going; cases going
    | _ => rw [← ends]; rfl
  · rw [x_eq, m]; rfl
  · rw [x_eq, m]; rfl

theorem hoseService_in (src : Node) (b : Byte) (h : HoseNo) (s : State) (hb : b.toNat = h.val + 1) :
    let x := s.hose h
    (∀ ses, x.mode = .proving ses → exec (.hoseServiceIn src b) s = .next (s.answered src .refusedMode [] id)) ∧
    (x.mode ≠ .out → (∀ ses, x.mode ≠ .proving ses) →
      exec (.hoseServiceIn src b) s = .next (s.answered src .done [] id)) ∧
    (x.mode = .out → s.hoseFit h = true → exec (.hoseServiceIn src b) s = .next (s.answered src .done [] (enterIn h))) ∧
    (x.mode = .out → s.hoseFit h = false → exec (.hoseServiceIn src b) s = .next (s.answered src .badValue [] id)) := by
  intro x
  have x_eq : (consumeUp s.toPart).hose h = x := consumeUp_hose ..
  have fit_eq : (consumeUp s.toPart).hoseFit h = s.hoseFit h := by
    simp only [Part.hoseFit, consumeUp_hose, consumeUp_boundNode]
  refine ⟨fun ses m => exec_hoseServiceIn hb ?_, fun out proving => exec_hoseServiceIn hb ?_,
    fun m fit => exec_hoseServiceIn hb ?_, fun m fit => exec_hoseServiceIn hb ?_⟩ <;> unfold hoseIn <;> rw [x_eq]
  · rw [m]; rfl
  · cases m : x.mode with
    | out => exact absurd m out
    | proving ses => exact absurd m (proving ses)
    | _ => rfl
  · rw [m, fit_eq, fit]; rfl
  · rw [m, fit_eq, fit]; rfl

/-- Settles O48: the checks are read point by point, and each form by the state it finds. -/
theorem tankAndHoseServiceMoveInAndOut : Obligations.TankAndHoseServiceMoveInAndOut := by
  refine ⟨fun src b t s hb => ?_, fun src b h s hb => ?_⟩
  · obtain ⟨already, unfit, into⟩ := tankService_in src b t s hb
    obtain ⟨outAlready, busy, plain, recovering⟩ := tankService_out src b t s hb
    refine ⟨already, fun state => ⟨fun fit => unfit state ?_, fun fit => ⟨_, into state ?_, ?_⟩⟩, outAlready, busy, plain,
      recovering⟩
    · exact Bool.eq_false_iff.2 fun ok => fit ((tankFit_iff s.toPart t).1 ok)
    · exact (tankFit_iff s.toPart t).2 fit
    · obtain ⟨tank, tanks, records, machines, zones⟩ := tankService_in_effect src t s
      have zone := serviceIn_zone t (consumeUp s.toPart)
      simp only [consumeUp_tank, consumeUp_zone, consumeUp_zones] at zone
      exact ⟨tank, tanks, records, machines, fun ready => by
        simpa only [Part.zone, zones] using zone.1 ready, fun not => zones.trans (zone.2 not)⟩
  · obtain ⟨idle, closing, filling, out, proving⟩ := hoseService_out src b h s hb
    obtain ⟨refused, already, into, unfit⟩ := hoseService_in src b h s hb
    exact ⟨idle, closing, filling, out, fun ses m => ⟨proving ses m, refused ses m⟩, already,
      fun m => ⟨fun fit => into m ((hoseFit_iff s.toPart h).2 fit), fun fit =>
        unfit m (Bool.eq_false_iff.2 fun ok => fit ((hoseFit_iff s.toPart h).1 ok))⟩⟩

end Sys2Proof.Machine
end

section
/-! Field telegrams reach their owners (R117, R122), and the reports of valves, inlets and starters (R12, R13, R24, R77). -/

namespace Sys2Proof.Machine

open Sys2Proof

/-! ## A telegram that fits its sender's role -/

section heard
variable (p : Part) (n : DevNo) (kind : Byte)

@[simp] theorem heard_binding : ((p.heard n kind).device n).binding = (p.device n).binding := by
  unfold Part.heard; rw [modDevice_device_same]; rfl
@[simp] theorem heard_health : ((p.heard n kind).device n).health = (p.device n).heardHealth := by
  unfold Part.heard; rw [modDevice_device_same]; rfl
@[simp] theorem heard_hoses : (p.heard n kind).hoses = p.hoses := by unfold Part.heard; simp
@[simp] theorem heard_tanks : (p.heard n kind).tanks = p.tanks := by unfold Part.heard; simp
@[simp] theorem heard_pumps : (p.heard n kind).pumps = p.pumps := by unfold Part.heard; simp
@[simp] theorem heard_hose (h : HoseNo) : (p.heard n kind).hose h = p.hose h := by unfold Part.hose; rw [heard_hoses]
@[simp] theorem heard_tank (t : TankNo) : (p.heard n kind).tank t = p.tank t := by unfold Part.tank; rw [heard_tanks]
@[simp] theorem heard_pump (t : TankNo) : (p.heard n kind).pump t = p.pump t := by unfold Part.pump; rw [heard_pumps]

end heard

theorem kind_ne_echoBack {b : Binding} {k : Byte} (fits : b.kind = some k) : k ≠ kindEchoBack := by
  rintro rfl; cases b <;> cases fits

theorem checkKind_of_fits {n : DevNo} {k : Byte} {d : List Byte} {p : Part} (fits : (p.device n).binding.kind = some k) :
    checkKind n k d p = handTelegram n d p := by
  have bound : (p.device n).binding ≠ .unbound := fun e => by rw [e] at fits; cases fits
  unfold checkKind
  dsimp only
  rw [if_neg (kind_ne_echoBack fits), if_neg bound, if_pos fits]

/-- The outcome of a telegram that fits its sender's role, once its owner's effect is known. -/
theorem outcome_told {s : State} {head : Header} {kind : Byte} {payload : List Byte} {n : DevNo} {b : Binding}
    {f : Part → Part} (hn : deviceOf head.src = some n) (hears : s.Hears n b) (fits : b.kind = some kind)
    (effect : handTelegram n payload (s.heard n kind) = f (s.heard n kind)) :
    outcome (fieldTelegram ⟨head, kind, payload⟩) s = .next (s.told head kind payload n f) := by
  refine congrArg Host.Outcome.next (State.on_congr ?_)
  unfold fieldTelegram
  rw [monitorTelegram_heard hn hears, checkKind_of_fits (by rw [heard_binding, hears.1]; exact fits), effect]

section handTelegram
variable {n : DevNo} {p : Part} (d : List Byte)

theorem handTelegram_valve {h : HoseNo} (b : (p.device n).binding = .valve h) :
    handTelegram n d p = takeValve h d p := by unfold handTelegram; simp only [b]
theorem handTelegram_inlet {t : TankNo} (b : (p.device n).binding = .inlet t) :
    handTelegram n d p = takeInlet t d p := by unfold handTelegram; simp only [b]
theorem handTelegram_starter {t : TankNo} (b : (p.device n).binding = .starter t) :
    handTelegram n d p = takeStarter t d p := by unfold handTelegram; simp only [b]
theorem handTelegram_reader {h : HoseNo} (b : (p.device n).binding = .reader h) :
    handTelegram n d p = takeTag h d p := by unfold handTelegram; simp only [b]
theorem handTelegram_meter {h : HoseNo} (b : (p.device n).binding = .meter h) : handTelegram n d p =
    if (p.device n).health = .lost then p else takeMeter h d ((p.device n).health == .doubtful) p := by
  unfold handTelegram; simp only [b]

end handTelegram

/-! ## Valves and inlets -/

theorem takeValve_eq (h : HoseNo) (d : List Byte) (p : Part) :
    takeValve h d p = modHose h (fun x => { x with valveReport := (readValve d).getD x.valveReport }) p := by
  unfold takeValve
  cases readValve d with
  | none => exact (modHose_eq_self rfl).symm
  | some r => rfl

theorem takeInlet_eq (t : TankNo) (d : List Byte) (p : Part) :
    takeInlet t d p = modTank t (fun x => { x with inletReport := (readValve d).getD x.inletReport }) p := by
  unfold takeInlet
  cases readValve d with
  | none => exact (modTank_eq_self rfl).symm
  | some r => rfl

theorem readValve_cons (b : Byte) (rest : List Byte) : readValve (b :: rest) =
    if b.toNat ≤ 15 then some (.code b.toNat) else if b = 0xFF then some .fault else none := rfl

/-! ## The starter -/

theorem takeStarter_cons (t : TankNo) (b : Byte) (rest : List Byte) (p : Part) : takeStarter t (b :: rest) p =
    (if b = 1 then (if 0 < (p.pump t).count then confirmPump t else sendRun t 0)
     else if b = 0 ∨ b = 2 then (if 0 < (p.pump t).count then stopPumping t else id)
     else id) p := by
  unfold takeStarter
  by_cases one : b = 1
  · simp only [one, if_true]; split <;> rfl
  · simp only [one, if_false, Bool.or_eq_true, decide_eq_true_eq]
    by_cases stop : b = 0 ∨ b = 2
    · simp only [stop, if_true]; split <;> rfl
    · simp only [stop, if_false]; rfl

theorem modTally_hose (h j : HoseNo) (f : Tally → Tally) (p : Part) : (modTally h f p).hose j =
    if h = j then { p.hose j with mode := (p.hose j).mode.modTally f } else p.hose j := modHose_hose ..

/-- A tally whose pump wait is over. -/
def Tally.ready (y : Tally) : Tally := { y with pumpWait := false }

section confirmPump
variable (k : TankNo) (p : Part)

theorem confirmPump_hose_own {h : HoseNo} (own : (p.hose h).cfg.tank = some k) :
    (confirmPump k p).hose h = { p.hose h with mode := (p.hose h).mode.modTally Tally.ready } := by
  unfold confirmPump
  exact each_member (tankHoses_nodup p k) (mem_tankHoses.2 own) (·.hose h)
    (g := fun x => { x with mode := x.mode.modTally Tally.ready })
    (fun q => by rw [modTally_hose, if_pos rfl]; rfl) (fun j ne q => by rw [modTally_hose, if_neg ne]) _

theorem confirmPump_hose_other {h : HoseNo} (other : (p.hose h).cfg.tank ≠ some k) :
    (confirmPump k p).hose h = p.hose h := by
  unfold confirmPump
  refine (each_keep_mem (·.hose h) _ _ (fun j hj q => ?_) _).trans (modPump_hose_keep ..)
  have ne : j ≠ h := fun e => other (e ▸ mem_tankHoses.1 hj)
  rw [modTally_hose, if_neg ne]

theorem confirmPump_pump (j : TankNo) :
    (confirmPump k p).pump j = if k = j then { p.pump j with confirmed := true } else p.pump j := by
  unfold confirmPump
  refine (each_keep_mem (·.pump j) _ _ (fun h _ q => ?_) _).trans (modPump_pump ..)
  exact modHose_pump_keep ..

theorem confirmPump_frame :
    confirmPump k p = { p with hoses := (confirmPump k p).hoses, pumps := (confirmPump k p).pumps } := by
  unfold confirmPump
  refine each_invariant (fun q => q = { p with hoses := q.hoses, pumps := q.pumps }) _ _ (fun h _ q hq => ?_) rfl
  rw [hq]; rfl

end confirmPump

/-- With no pump wait there is nothing for the confirm timer to wait for. -/
theorem confirmTimer_ready (x : Hose) : ({ x with mode := x.mode.modTally Tally.ready } : Hose).confirmTimer = none := by
  unfold Hose.confirmTimer
  dsimp only
  rw [HoseMode.modTally_tally]
  cases x.mode.tally <;> rfl

/-! ## A tank taken as not pumping (R13) -/

theorem enterClosing_keep {α : Type} (view : Part → α)
    (frame : ∀ p hoses pumps fp, view { p with hoses := hoses, pumps := pumps, fp := fp } = view p) (h : HoseNo)
    (cause : EndCause) (t : Transaction) (p : Part) : view (enterClosing h cause t p) = view p := by
  rw [enterClosing_frame h cause t p]; exact frame ..

theorem runStopped_now (p : Part) (h : HoseNo) (cause : EndCause) (s : Session) (r : ProvingRun) :
    now (p.runStopped h cause s r) = now p := by
  unfold Part.runStopped; cases (p.hose h).cfg.tank <;> rfl

/-- The bay clock stands still while fills and runs end. -/
@[simp] theorem endRequest_now (h : HoseNo) (cause : EndCause) (p : Part) : now (endRequest h cause p) = now p :=
  endRequest_keep now h cause p (fun _ => by simp [now]) (fun _ => enterClosing_keep now (fun _ _ _ _ => rfl) ..)
    fun s r _ => by
      rw [endRun_eq, ← runStopped_now p h cause s r]
      simp only [now, placeReserved_clock, placeReserved_clockUnset]

/-- The end request of one hose among those of its tank: what comes before and after it is other hoses'. -/
theorem stopPumping_split {k : TankNo} {p : Part} (claimed : 0 < (p.pump k).count) {h : HoseNo}
    (own : (p.hose h).cfg.tank = some k) : ∃ before after : Part,
      before.hose h = p.hose h ∧ now before = now p ∧ (stopPumping k p).hose h = (endRequest h .pumpStop before).hose h ∧
      after = endRequest h .pumpStop before ∧ after.records <+: (stopPumping k p).records := by
  obtain ⟨first, last, hf, hl, e⟩ := each_split (tankHoses_nodup p k) (mem_tankHoses.2 own)
    (fun h q => endRequest h .pumpStop q) p
  have stop : stopPumping k p = modPump k (fun u => { u with confirmed := false })
      (each last (fun h q => endRequest h .pumpStop q) (endRequest h .pumpStop
        (each first (fun h q => endRequest h .pumpStop q) p))) := by
    unfold stopPumping; dsimp only; rw [if_pos claimed, e]
  refine ⟨each first (fun h q => endRequest h .pumpStop q) p, _,
    each_keep_mem (·.hose h) _ _ (fun j hj q => endRequest_hose_other (hf j hj).1.symm _ q) p,
    each_keep_mem now _ _ (fun j _ q => endRequest_now ..) p, ?_, rfl, ?_⟩
  · rw [stop, modPump_hose_keep]
    exact each_keep_mem (·.hose h) _ _ (fun j hj q => endRequest_hose_other (hl j hj).1.symm _ q) _
  · rw [stop]
    generalize endRequest h .pumpStop (each first (fun h q => endRequest h .pumpStop q) p) = ended
    exact each_invariant (fun q => ended.records <+: q.records) (fun h q => endRequest h .pumpStop q) last
      (fun j _ q hq => hq.trans (endRequest_records ..)) (List.prefix_refl _)

theorem stopPumping_hose_other {k : TankNo} {p : Part} {h : HoseNo} (other : (p.hose h).cfg.tank ≠ some k) :
    (stopPumping k p).hose h = p.hose h := by
  unfold stopPumping
  dsimp only
  rw [modPump_hose_keep]
  split
  · refine each_keep_mem (·.hose h) _ _ (fun j hj q => endRequest_hose_other (fun e => other ?_) _ q) p
    exact e ▸ mem_tankHoses.1 hj
  · rfl

/-- A hose with nothing open, or in CLOSING, has nothing for a pump's stop to end. -/
theorem endRequest_inert {h : HoseNo} {p : Part} {cause : EndCause} (noTrip : cause ≠ .trip)
    (inert : (p.hose h).mode.tally = none ∨ (p.hose h).mode.isClosing = true) : endRequest h cause p = p := by
  rcases inert with none | closing
  · exact endRequest_of_none none _
  · rw [endRequest_of_closing closing, if_neg noTrip]

theorem stopPumping_ends {k : TankNo} {p : Part} (claimed : 0 < (p.pump k).count) :
    (∀ h ph txn, (p.hose h).cfg.tank = some k → (p.hose h).mode = .fill ph txn → (p.hose h).mode.isClosing = false →
      (stopPumping k p).hose h = { p.hose h with mode := .fill (.closing .pumpStop (now p)) txn.shut }) ∧
    (∀ h ses r, (p.hose h).cfg.tank = some k → (p.hose h).mode = .proving ses → ses.run = some r →
      ∃ e : EndedRun, (stopPumping k p).hose h = { p.hose h with
          mode := .proving { ses with run := none, ended := ses.ended ++ [e] } } ∧
        e.cause = .pumpStop ∧ e.gross = r.tally.gross ∧ e.net = r.tally.net ∧ e.result = none ∧
        ∃ rec ∈ (stopPumping k p).records, rec.cause = 5 ∧ rec.hose = h.val + 1 ∧
          rec.body = .prove r.tally.gross r.tally.net (ses.ended.length + 1) (r.tally.lastTemp.getD 0)) ∧
    (∀ h, (p.hose h).cfg.tank ≠ some k ∨ (p.hose h).mode.tally = none ∨ (p.hose h).mode.isClosing = true →
      (stopPumping k p).hose h = p.hose h) := by
  refine ⟨fun h ph txn own m going => ?_, fun h ses r own m run => ?_, fun h left => ?_⟩
  · obtain ⟨before, _, same, stamp, e, -, -⟩ := stopPumping_split claimed own
    rw [e, endRequest_of_fill (by rw [same]; exact m) (by rw [same]; exact going), enterClosing_hose_same, same, stamp]
  · obtain ⟨before, after, same, -, e, ended, records⟩ := stopPumping_split claimed own
    rw [endRequest_of_run (by rw [same]; exact m) run] at e ended
    refine ⟨before.runResult h .pumpStop r, ?_, rfl, rfl, rfl, rfl,
      { before.runRecord h .pumpStop ses r with serial := before.nextSerial }, records.subset ?_, rfl, rfl, rfl⟩
    · rw [e]; simp only [EndCause.endsRun, if_true, endRun_hose_same, same]; rfl
    · rw [ended]; simp only [EndCause.endsRun, if_true, endRun_records]
      exact List.mem_append_right _ (List.mem_singleton_self _)
  · by_cases own : (p.hose h).cfg.tank = some k
    · obtain ⟨before, _, same, -, e, -, -⟩ := stopPumping_split claimed own
      rw [e, endRequest_inert (by decide) (by rw [same]; exact left.resolve_left (not_not.2 own)), same]
    · exact stopPumping_hose_other own

theorem stopPumping_records (k : TankNo) (p : Part) : p.records <+: (stopPumping k p).records := by
  unfold stopPumping
  dsimp only
  rw [modPump_records]
  split
  · exact each_invariant (fun q => p.records <+: q.records) _ _ (fun h _ q hq => hq.trans (endRequest_records ..))
      (List.prefix_refl _)
  · exact List.prefix_refl _

/-! ## The obligation -/

/-- Settles O24: each report is its owner's effect on the scored part; confirming and stopping go over the tank's hoses. -/
theorem valveInletAndStarterReportsAreTaken : Obligations.ValveInletAndStarterReportsAreTaken := by
  refine ⟨fun head n b rest s hn => ⟨fun h hears => ?_, fun k hears => ?_⟩, fun head n k b rest s hn hears => ?_,
    fun head n s hn => ⟨fun h hears => ?_, fun k hears => ?_, fun k hears => ?_⟩, fun k p => ?_, fun k p => ?_⟩
  · refine outcome_told hn hears rfl ?_
    rw [handTelegram_valve _ (by rw [heard_binding, hears.1]), takeValve_eq]; rfl
  · refine outcome_told hn hears rfl ?_
    rw [handTelegram_inlet _ (by rw [heard_binding, hears.1]), takeInlet_eq]; rfl
  · refine outcome_told hn hears rfl ?_
    rw [handTelegram_starter _ (by rw [heard_binding, hears.1]), takeStarter_cons, heard_pump]
  · exact outcome_told hn hears rfl (handTelegram_valve _ (by rw [heard_binding, hears.1]))
  · exact outcome_told hn hears rfl (handTelegram_inlet _ (by rw [heard_binding, hears.1]))
  · exact outcome_told hn hears rfl (handTelegram_starter _ (by rw [heard_binding, hears.1]))
  · refine ⟨by rw [confirmPump_pump, if_pos rfl], fun j ne => by rw [confirmPump_pump, if_neg ne.symm], fun h own => ?_,
      fun h other => confirmPump_hose_other k p other, confirmPump_frame k p⟩
    rw [confirmPump_hose_own k p own]
    refine ⟨confirmTimer_ready _, ?_⟩
    cases (p.hose h).mode <;> rfl
  · refine ⟨fun none => ?_, fun claimed => ?_⟩
    · unfold stopPumping; rw [none]; rfl
    · obtain ⟨fills, runs, others⟩ := stopPumping_ends claimed
      refine ⟨fills, runs, others, ?_, fun rec mem => (stopPumping_records k p).subset mem,
        zones_of_sansFills (stopPumping_sansFills k p), machines_of_sansFills (stopPumping_sansFills k p),
        devices_of_sansFills (stopPumping_sansFills k p)⟩
      unfold stopPumping; rw [modPump_pump_same]

end Sys2Proof.Machine
end

section
/-! TAG reports (R6, R18, R22): what each gives, and what those that are no COUPLED edge do. -/

namespace Sys2Proof.Machine

open Sys2Proof

/-! ## The payload -/

theorem readTag_short {d : List Byte} (short : d.length < 9) : readTag d = none := by
  unfold readTag
  split
  · simp at short; omega
  · rfl

theorem nozzleOf_large {n : Nat} (large : 3 < n) : nozzleOf n = none := by
  unfold nozzleOf
  split <;> first | omega | rfl

theorem readTag_badNozzle {b : Byte} {rest : List Byte} (bad : 3 < b.toNat) : readTag (b :: rest) = none := by
  unfold readTag
  split
  · rename_i e
    cases e
    rw [nozzleOf_large bad]; rfl
  · rfl

theorem readTag_eq (b a0 a1 a2 a3 h0 h1 h2 h3 : Byte) (rest : List Byte) :
    readTag (b :: a0 :: a1 :: a2 :: a3 :: h0 :: h1 :: h2 :: h3 :: rest) = (nozzleOf b.toNat).map fun nozzle =>
      { nozzle := nozzle, tag := a3 ++ a2 ++ a1 ++ a0
        hours := if (h3 ++ h2 ++ h1 ++ h0 : Long) = 0xFFFFFFFF then none else some (h3 ++ h2 ++ h1 ++ h0 : Long).toNat } := by
  rfl

/-! ## The effect of each nozzle state -/

/-- A hose with its last nozzle state set. -/
def setNozzle (h : HoseNo) (n : Nozzle) (p : Part) : Part := modHose h (fun x => { x with nozzle := n }) p

@[simp] theorem setNozzle_mode (h : HoseNo) (n : Nozzle) (p : Part) :
    ((setNozzle h n p).hose h).mode = (p.hose h).mode := by unfold setNozzle; rw [modHose_hose_same]

/-- The uncoupled volume reset by a HOLSTERED report (R22). -/
def resetUncoupled (h : HoseNo) (p : Part) : Part :=
  modHose h (fun x => { x with uncoupled := 0, uncoupledRaised := false }) p

section takeTag
variable {h : HoseNo} {d : List Byte} {r : TagReading} {p : Part} (read : readTag d = some r)
include read

theorem takeTag_lifted (n : r.nozzle = .lifted) : takeTag h d p = endRequest h .nozzleOff (setNozzle h r.nozzle p) := by
  unfold takeTag; simp only [read, n]; rfl

theorem takeTag_shut (n : r.nozzle = .coupledShut) : takeTag h d p = endRequest h .full (setNozzle h r.nozzle p) := by
  unfold takeTag; simp only [read, n]; rfl

theorem takeTag_holstered (n : r.nozzle = .holstered) :
    takeTag h d p = holsteredReport h (endRequest h .nozzleOff (setNozzle h r.nozzle p)) := by
  unfold takeTag; simp only [read, n]; rfl

theorem takeTag_stillCoupled (n : r.nozzle = .coupled)
    (was : (p.hose h).nozzle = .coupled ∨ (p.hose h).nozzle = .coupledShut) :
    takeTag h d p = setNozzle h r.nozzle p := by
  unfold takeTag
  rcases was with was | was <;> simp only [read, n, was] <;> rfl

/-- A COUPLED edge: the nozzle had been uncoupled. -/
theorem takeTag_edge (n : r.nozzle = .coupled)
    (was : (p.hose h).nozzle = .holstered ∨ (p.hose h).nozzle = .lifted) :
    takeTag h d p = coupledEdge h r (setNozzle h .coupled p) := by
  unfold takeTag
  rcases was with was | was <;> simp only [read, n, was] <;> rfl

end takeTag

theorem holsteredReport_resting {h : HoseNo} {p : Part} (m : (p.hose h).mode = .idle ∨ (p.hose h).mode = .out) :
    holsteredReport h p = sendLamp h lampOff (resetUncoupled h p) := by
  unfold holsteredReport resetUncoupled
  simp only [modHose_hose_same]
  rcases m with m | m <;> rw [m]

theorem holsteredReport_working {h : HoseNo} {p : Part} (idle : (p.hose h).mode ≠ .idle) (out : (p.hose h).mode ≠ .out) :
    holsteredReport h p = resetUncoupled h p := by
  unfold holsteredReport resetUncoupled
  simp only [modHose_hose_same]

section takeTag
variable {h : HoseNo} {d : List Byte} {r : TagReading} {p : Part} (read : readTag d = some r)
include read

theorem takeTag_resting (rests : (p.hose h).mode = .idle ∨ (p.hose h).mode = .out) :
    (r.nozzle = .lifted ∨ r.nozzle = .coupledShut → takeTag h d p = setNozzle h r.nozzle p) ∧
    (r.nozzle = .holstered → takeTag h d p = sendLamp h lampOff (resetUncoupled h (setNozzle h r.nozzle p))) := by
  have nothing (cause : EndCause) : endRequest h cause (setNozzle h r.nozzle p) = setNozzle h r.nozzle p := by
    refine endRequest_of_none ?_ cause
    rw [setNozzle_mode]
    rcases rests with m | m <;> rw [m] <;> rfl
  refine ⟨fun nozzle => ?_, fun nozzle => ?_⟩
  · rcases nozzle with nozzle | nozzle
    · rw [takeTag_lifted read nozzle, nothing]
    · rw [takeTag_shut read nozzle, nothing]
  · rw [takeTag_holstered read nozzle, nothing, holsteredReport_resting (by rw [setNozzle_mode]; exact rests)]

theorem takeTag_filling {ph : Phase} {t : Transaction} (m : (p.hose h).mode = .fill ph t)
    (going : (p.hose h).mode.isClosing = false) :
    (r.nozzle = .lifted → takeTag h d p = enterClosing h .nozzleOff t (setNozzle h r.nozzle p)) ∧
    (r.nozzle = .holstered →
      takeTag h d p = resetUncoupled h (enterClosing h .nozzleOff t (setNozzle h r.nozzle p))) ∧
    (r.nozzle = .coupledShut → takeTag h d p = enterClosing h .full t (setNozzle h r.nozzle p)) := by
  have ends (cause : EndCause) :
      endRequest h cause (setNozzle h r.nozzle p) = enterClosing h cause t (setNozzle h r.nozzle p) :=
    endRequest_of_fill (by rw [setNozzle_mode]; exact m) (by rw [setNozzle_mode]; exact going) cause
  refine ⟨fun nozzle => ?_, fun nozzle => ?_, fun nozzle => ?_⟩
  · rw [takeTag_lifted read nozzle, ends]
  · rw [takeTag_holstered read nozzle, ends, holsteredReport_working] <;> rw [enterClosing_hose_same] <;> simp
  · rw [takeTag_shut read nozzle, ends]

theorem takeTag_running {s : Session} {run : ProvingRun} (m : (p.hose h).mode = .proving s) (open_ : s.run = some run) :
    (r.nozzle = .lifted → takeTag h d p = endRun h .nozzleOff s run (setNozzle h r.nozzle p)) ∧
    (r.nozzle = .holstered → takeTag h d p = resetUncoupled h (endRun h .nozzleOff s run (setNozzle h r.nozzle p))) ∧
    (r.nozzle = .coupledShut → takeTag h d p = endRun h .full s run (setNozzle h r.nozzle p)) := by
  have ends {cause : EndCause} (c : cause.endsRun = true) :
      endRequest h cause (setNozzle h r.nozzle p) = endRun h cause s run (setNozzle h r.nozzle p) := by
    rw [endRequest_of_run (by rw [setNozzle_mode]; exact m) open_, if_pos c]
  refine ⟨fun nozzle => ?_, fun nozzle => ?_, fun nozzle => ?_⟩
  · rw [takeTag_lifted read nozzle, ends rfl]
  · rw [takeTag_holstered read nozzle, ends rfl, holsteredReport_working] <;> rw [endRun_hose_same] <;> simp
  · rw [takeTag_shut read nozzle, ends rfl]

theorem takeTag_inert
    (still : (p.hose h).mode.isClosing = true ∨ ∃ s, (p.hose h).mode = .proving s ∧ s.run = none) :
    (r.nozzle = .lifted ∨ r.nozzle = .coupledShut → takeTag h d p = setNozzle h r.nozzle p) ∧
    (r.nozzle = .holstered → takeTag h d p = resetUncoupled h (setNozzle h r.nozzle p)) := by
  have nothing {cause : EndCause} (c : cause ≠ .trip) :
      endRequest h cause (setNozzle h r.nozzle p) = setNozzle h r.nozzle p := by
    refine endRequest_inert c ?_
    rw [setNozzle_mode]
    rcases still with closing | ⟨s, m, run⟩
    · exact .inr closing
    · exact .inl (by simp [m, HoseMode.tally, run])
  refine ⟨fun nozzle => ?_, fun nozzle => ?_⟩
  · rcases nozzle with nozzle | nozzle
    · rw [takeTag_lifted read nozzle, nothing (by decide)]
    · rw [takeTag_shut read nozzle, nothing (by decide)]
  · rw [takeTag_holstered read nozzle, nothing (by decide), holsteredReport_working] <;> rw [setNozzle_mode] <;>
      rcases still with closing | ⟨s, m, run⟩
    · intro e; rw [e] at closing; cases closing
    · rw [m]; simp
    · intro e; rw [e] at closing; cases closing
    · rw [m]; simp

end takeTag

theorem tag_noReading (head : Header) (n : DevNo) (h : HoseNo) (payload : List Byte) (s : State)
    (hn : deviceOf head.src = some n) (hears : s.Hears n (.reader h)) (none : readTag payload = none) :
    exec (.tagReport head payload) s = .next (s.told head 0x12 payload n id) := by
  refine outcome_told hn hears rfl ?_
  rw [handTelegram_reader _ (by rw [heard_binding, hears.1])]
  unfold takeTag; rw [none]; rfl

theorem tag_told {head : Header} {n : DevNo} {h : HoseNo} {payload : List Byte} {r : TagReading} {s : State}
    {f : Part → Part} (hn : deviceOf head.src = some n) (hears : s.Hears n (.reader h))
    (effect : ∀ p : Part, p.hose h = s.hose h → takeTag h payload p = f (setNozzle h r.nozzle p)) :
    exec (.tagReport head payload) s =
      .next (s.told head 0x12 payload n fun p => f (modHose h (fun x => { x with nozzle := r.nozzle }) p)) := by
  refine outcome_told hn hears rfl ?_
  rw [handTelegram_reader _ (by rw [heard_binding, hears.1])]
  exact effect _ (heard_hose ..)

/-- Settles O31: a report that reads as none does nothing; any other makes its end request and its reset. -/
theorem tagReportsThatAreNoEdge : Obligations.TagReportsThatAreNoEdge := by
  refine ⟨fun head n h payload s hn hears bad => ?_, fun b a0 a1 a2 a3 h0 h1 h2 h3 rest => ?_,
    fun head n h payload r s hn hears read => ?_⟩
  · rcases bad with short | ⟨b, rest, rfl, large⟩
    · exact tag_noReading head n h payload s hn hears (readTag_short short)
    · exact tag_noReading head n h _ s hn hears (readTag_badNozzle large)
  · refine ⟨?_, ?_, ?_, ?_⟩ <;> rintro rfl <;> exact readTag_eq ..
  · refine ⟨fun nozzle was => ?_, fun rests => ?_, fun ph txn m going => ?_, fun ses run m open_ => ?_, fun still => ?_⟩
    · exact tag_told (f := id) hn hears fun p e => takeTag_stillCoupled read nozzle (by rw [e]; exact was)
    · have at_rest (p : Part) (e : p.hose h = s.hose h) := takeTag_resting read (p := p) (by rw [e]; exact rests)
      exact ⟨fun nozzle => tag_told (f := id) hn hears fun p e => (at_rest p e).1 nozzle,
        fun nozzle =>
          tag_told (f := fun p => sendLamp h lampOff (resetUncoupled h p)) hn hears fun p e => (at_rest p e).2 nozzle⟩
    · have filling (p : Part) (e : p.hose h = s.hose h) :=
        takeTag_filling read (p := p) (by rw [e]; exact m) (by rw [e]; exact going)
      exact ⟨fun nozzle =>
          tag_told (f := enterClosing h .nozzleOff txn) hn hears fun p e => (filling p e).1 nozzle,
        fun nozzle =>
          tag_told (f := fun p => resetUncoupled h (enterClosing h .nozzleOff txn p)) hn hears fun p e => (filling p e).2.1 nozzle,
        fun nozzle =>
          tag_told (f := enterClosing h .full txn) hn hears fun p e => (filling p e).2.2 nozzle⟩
    · have running (p : Part) (e : p.hose h = s.hose h) := takeTag_running read (p := p) (by rw [e]; exact m) open_
      exact ⟨fun nozzle =>
          tag_told (f := endRun h .nozzleOff ses run) hn hears fun p e => (running p e).1 nozzle,
        fun nozzle =>
          tag_told (f := fun p => resetUncoupled h (endRun h .nozzleOff ses run p)) hn hears fun p e => (running p e).2.1 nozzle,
        fun nozzle =>
          tag_told (f := endRun h .full ses run) hn hears fun p e => (running p e).2.2 nozzle⟩
    · have inert (p : Part) (e : p.hose h = s.hose h) := takeTag_inert read (p := p) (by rw [e]; exact still)
      exact ⟨fun nozzle => tag_told (f := id) hn hears fun p e => (inert p e).1 nozzle,
        fun nozzle => tag_told (f := resetUncoupled h) hn hears fun p e => (inert p e).2 nozzle⟩

end Sys2Proof.Machine
end

section
/-! A trip source and the hoses of its zone (R99, R100), and what follows a METER sample (R14 to R17, R22, R180, R181). -/

namespace Sys2Proof.Machine

open Sys2Proof

/-! ## A trip source -/

theorem tripSource_again {z : ZoneNo} {p : Part} (was : (p.zone z).state = .tripped) (c : Cause) :
    tripSource c z p = modZone z (fun x => x.addCause c) p := by unfold tripSource; rw [if_pos was]

/-- The part while a source trips its zone, from which the zone's fills and runs are ended. -/
def Part.tripping (p : Part) (z : ZoneNo) (c : Cause) : Part := syncLines (modZone z (fun x => x.trip c (now p)) p)

/-- A zone's trip up to its orders: every fill and run of the zone has been ended. -/
def Part.tripEnds (p : Part) (z : ZoneNo) (c : Cause) : Part :=
  each (p.zoneHoses z) (fun h => endRequest h .trip) (p.tripping z c)

theorem tripSource_new {z : ZoneNo} {p : Part} (new : (p.zone z).state ≠ .tripped) (c : Cause) :
    tripSource c z p = raise (.trip z) (each (p.zoneTanks z) tripDelivery
      (dropBarred (shutOrders (p.zoneHoses z) (p.zoneTanks z) (p.tripEnds z c)))) := by
  unfold tripSource; rw [if_neg new]; rfl

/-- What the orders, the inlets and the notice of a trip keep, is left as the ends of its fills and runs left it. -/
theorem tripSource_view {α : Type} (view : Part → α) (ports : ∀ p up fp, view { p with up := up, fp := fp } = view p)
    (tanks : ∀ t p, view (tripDelivery t p) = view p) (note : ∀ n p, view (raise n p) = view p) {z : ZoneNo} {p : Part}
    (new : (p.zone z).state ≠ .tripped) (c : Cause) : view (tripSource c z p) = view (p.tripEnds z c) := by
  have sent (us : List Telegram) (q : Part) : view (sendAll us q) = view q := ports q q.up _
  have orders (hs : List HoseNo) (ts : List TankNo) (q : Part) : view (shutOrders hs ts q) = view q := by
    unfold shutOrders
    rw [each_keep_mem view _ hs fun h _ r => by rw [forceLamp_eq, sent],
      each_keep_mem view _ ts fun t _ r => by rw [sendRun_eq, sent],
      each_keep_mem view _ ts fun t _ r => by rw [sendInlet_eq, sent],
      each_keep_mem view _ hs fun h _ r => by rw [sendValve_eq, sent]]
  rw [tripSource_new new, note, each_keep_mem view _ _ fun t _ r => tanks t r]
  exact (ports _ _ _).trans (orders ..)

theorem tripSource_hose_eq {z : ZoneNo} {p : Part} (new : (p.zone z).state ≠ .tripped) (c : Cause) (h : HoseNo) :
    (tripSource c z p).hose h = (p.tripEnds z c).hose h :=
  tripSource_view (·.hose h) (fun _ _ _ => rfl) (fun _ _ => rfl) (fun _ _ => raise_hose ..) new c

/-- A hose of the zone meets one end request of the trip, and nothing else. -/
theorem tripSource_hose_member {z : ZoneNo} {p : Part} (new : (p.zone z).state ≠ .tripped) (c : Cause) {h : HoseNo}
    (own : p.hoseZone h = some z) : ∃ before : Part, before.hose h = p.hose h ∧ now before = now p ∧
      (tripSource c z p).hose h = (endRequest h .trip before).hose h := by
  obtain ⟨first, last, hf, hl, e⟩ := each_split (zoneHoses_nodup p z) (mem_zoneHoses.2 own)
    (fun h => endRequest h .trip) (p.tripping z c)
  refine ⟨each first (fun h => endRequest h .trip) (p.tripping z c), ?_, ?_, ?_⟩
  · rw [each_keep_mem (·.hose h) _ first fun j hj q => endRequest_hose_other (hf j hj).1.symm _ q]
    unfold Part.tripping; rw [syncLines_hose, modZone_hose_keep]
  · rw [each_keep_mem now _ first fun j _ q => endRequest_now ..]; rfl
  · rw [tripSource_hose_eq new, Part.tripEnds, e]
    exact each_keep_mem (·.hose h) _ last (fun j hj q => endRequest_hose_other (hl j hj).1.symm _ q) _

/-- A trip does nothing to a fill that is in CLOSING. -/
theorem tripSource_hose_closing {z : ZoneNo} {p : Part} (c : Cause) {h : HoseNo} (own : p.hoseZone h = some z)
    (closing : (p.hose h).mode.isClosing = true) : (tripSource c z p).hose h = p.hose h := by
  by_cases was : (p.zone z).state = .tripped
  · rw [tripSource_again was]; rfl
  · obtain ⟨before, same, -, e⟩ := tripSource_hose_member was c own
    rw [e, endRequest_of_closing (by rw [same]; exact closing), if_pos rfl, sendLamp_hose, same]

/-- A trip ends an open fill of its zone with cause TRIP. -/
theorem tripSource_hose_fill {z : ZoneNo} {p : Part} (new : (p.zone z).state ≠ .tripped) (c : Cause) {h : HoseNo}
    (own : p.hoseZone h = some z) {ph : Phase} {t : Transaction} (m : (p.hose h).mode = .fill ph t)
    (going : (p.hose h).mode.isClosing = false) :
    (tripSource c z p).hose h = { p.hose h with mode := .fill (.closing .trip (now p)) t.shut } := by
  obtain ⟨before, same, stamp, e⟩ := tripSource_hose_member new c own
  rw [e, endRequest_of_fill (by rw [same]; exact m) (by rw [same]; exact going), enterClosing_hose_same, same, stamp]

/-- A trip ends the run in progress of a hose of its zone. -/
theorem tripSource_hose_run {z : ZoneNo} {p : Part} (new : (p.zone z).state ≠ .tripped) (c : Cause) {h : HoseNo}
    (own : p.hoseZone h = some z) {s : Session} {r : ProvingRun} (m : (p.hose h).mode = .proving s) (run : s.run = some r) :
    ∃ prod, (tripSource c z p).hose h =
      { p.hose h with mode := .proving (s.runEnded (r.finish .trip (p.hose h).cfg.curve prod)) } := by
  obtain ⟨before, same, -, e⟩ := tripSource_hose_member new c own
  refine ⟨before.hoseProduct h, ?_⟩
  rw [e, endRequest_of_run (by rw [same]; exact m) run, if_pos (by decide), endRun_hose_same, Part.runResult, same]

/-- An open fill stays one through a trip, in CLOSING if it was not. -/
theorem tripSource_keeps_fill {z : ZoneNo} {p : Part} (c : Cause) {h : HoseNo} (own : p.hoseZone h = some z) {ph : Phase}
    {t : Transaction} (m : (p.hose h).mode = .fill ph t) :
    ∃ ph' t', ((tripSource c z p).hose h).mode = .fill ph' t' := by
  by_cases was : (p.zone z).state = .tripped
  · exact ⟨ph, t, by rw [tripSource_again was]; exact m⟩
  · cases closing : (p.hose h).mode.isClosing with
    | true => exact ⟨ph, t, by rw [tripSource_hose_closing c own closing]; exact m⟩
    | false => exact ⟨_, _, by rw [tripSource_hose_fill was c own m closing]⟩

theorem tripHose_of_zone {h : HoseNo} {z : ZoneNo} {p : Part} (own : p.hoseZone h = some z) (c : Cause) :
    tripHose c h p = tripSource c z p := by unfold tripHose; rw [own]
theorem tripHose_of_none {h : HoseNo} {p : Part} (own : p.hoseZone h = none) (c : Cause) : tripHose c h p = p := by
  unfold tripHose; rw [own]

/-! ## The taper (R17) -/

/-- Of two taper steps, the first has the smaller threshold, or the lower code where they share it. -/
def TaperStep.Closer (a b : TaperStep) : Prop := a.litres < b.litres ∨ a.litres = b.litres ∧ a.code ≤ b.code

theorem TaperStep.Closer.trans {a b c : TaperStep} (h : a.Closer b) (k : b.Closer c) : a.Closer c := by
  unfold TaperStep.Closer at *; omega

theorem closerStep_closer (a b : TaperStep) :
    (closerStep a b).Closer a ∧ (closerStep a b).Closer b ∧ (closerStep a b = a ∨ closerStep a b = b) := by
  unfold closerStep TaperStep.Closer
  by_cases h : b.litres < a.litres ∨ b.litres = a.litres ∧ b.code < a.code
  · rw [if_pos (by simpa using h)]; exact ⟨by omega, by omega, .inr rfl⟩
  · rw [if_neg (by simpa using h)]; exact ⟨by omega, by omega, .inl rfl⟩

/-- The fold over the qualifying steps picks one of them, no other being closer. -/
theorem closest_of_fold (a : TaperStep) (rest : List TaperStep) :
    rest.foldl closerStep a ∈ a :: rest ∧ ∀ b ∈ a :: rest, (rest.foldl closerStep a).Closer b := by
  induction rest generalizing a with
  | nil => simp [TaperStep.Closer]
  | cons x xs ih =>
    obtain ⟨left, right, one⟩ := closerStep_closer a x
    obtain ⟨mem, least⟩ := ih (closerStep a x)
    rw [List.foldl_cons]
    refine ⟨?_, fun b hb => ?_⟩
    · rcases List.mem_cons.1 mem with e | inside
      · rw [e]; rcases one with one | one <;> simp [one]
      · simp [inside]
    · have head := least _ List.mem_cons_self
      rcases List.mem_cons.1 hb with rfl | hb
      · exact head.trans left
      · rcases List.mem_cons.1 hb with rfl | hb
        · exact head.trans right
        · exact least b (List.mem_cons_of_mem _ hb)

/-- The applicable code is that of the closest step that qualifies. -/
theorem taperCode_of_closest {steps : List TaperStep} {openCode : Nat} {remaining : Int} {st : TaperStep}
    (mem : st ∈ steps) (qualifies : remaining ≤ (st.litres * 1000 : Nat))
    (closest : ∀ b ∈ steps, remaining ≤ (b.litres * 1000 : Nat) → st.Closer b) :
    taperCode steps openCode remaining = st.code := by
  unfold taperCode
  have inside : st ∈ steps.filter fun s => remaining ≤ ((s.litres * 1000 : Nat) : Int) :=
    List.mem_filter.2 ⟨mem, decide_eq_true qualifies⟩
  cases filtered : steps.filter fun s => remaining ≤ ((s.litres * 1000 : Nat) : Int) with
  | nil => rw [filtered] at inside; cases inside
  | cons a rest =>
    obtain ⟨picked, least⟩ := closest_of_fold a rest
    have there : rest.foldl closerStep a ∈ steps ∧ remaining ≤ ((rest.foldl closerStep a).litres * 1000 : Nat) := by
      have := List.mem_filter.1 (filtered ▸ picked)
      exact ⟨this.1, of_decide_eq_true this.2⟩
    have one := least st (filtered ▸ inside)
    have two := closest _ there.1 there.2
    unfold TaperStep.Closer at one two
    dsimp only
    omega

theorem taperCode_of_none {steps : List TaperStep} {openCode : Nat} {remaining : Int}
    (none : ∀ st ∈ steps, ¬remaining ≤ (st.litres * 1000 : Nat)) : taperCode steps openCode remaining = openCode := by
  unfold taperCode
  have : steps.filter (fun s => remaining ≤ ((s.litres * 1000 : Nat) : Int)) = [] :=
    List.filter_eq_nil_iff.2 fun st hs => by simpa using none st hs
  rw [this]

/-- The tally of a throttled fill or run. -/
def Tally.lowered (code : Nat) (y : Tally) : Tally := { y with lastCode := code, flags := { y.flags with tapered := true } }

theorem lowerThrottle_of_below {h : HoseNo} {remaining : Int} {t : Tally} {p : Part} {code : Nat}
    (applies : taperCode (p.hose h).cfg.taper (p.hose h).cfg.openCode remaining = code) (below : code < t.lastCode) :
    lowerThrottle h remaining t p = modTally h (Tally.lowered code) (sendValve h code p) := by
  unfold lowerThrottle; dsimp only; rw [applies, if_pos below]; rfl
theorem lowerThrottle_of_above {h : HoseNo} {remaining : Int} {t : Tally} {p : Part} {code : Nat}
    (applies : taperCode (p.hose h).cfg.taper (p.hose h).cfg.openCode remaining = code) (above : t.lastCode ≤ code) :
    lowerThrottle h remaining t p = p := by
  unfold lowerThrottle; dsimp only; rw [applies, if_neg (by omega)]

/-! ## The steps after a sample, in a fill -/

section fill
variable {h : HoseNo} {p : Part} {ph : Phase} {t : Transaction} (m : (p.hose h).mode = .fill ph t)
include m

theorem capStep_reached (open_ : ph = .flowing ∨ ph = .paused) (reached : t.cap ≤ t.tally.net) :
    capStep h p = enterClosing h .capReached t p := by
  unfold capStep
  rcases open_ with rfl | rfl <;> rw [m] <;> dsimp only <;> rw [if_pos reached] <;>
    exact endRequest_of_fill m (by rw [m]; rfl) _

theorem capStep_below (below : t.tally.net < t.cap) : capStep h p = p := by
  unfold capStep; rw [m]; cases ph <;> dsimp only <;> rw [if_neg (by omega)]

theorem capStep_other (open_ : ph ≠ .flowing ∧ ph ≠ .paused) : capStep h p = p := by
  unfold capStep; rw [m]; obtain ⟨flowing, paused⟩ := open_
  cases ph with
  | flowing => exact absurd rfl flowing
  | paused => exact absurd rfl paused
  | _ => rfl

theorem overrunStep_beyond (beyond : t.cap + t.allowance < t.tally.net) : overrunStep h p = tripHose .overrun h p := by
  unfold overrunStep; rw [m]; exact if_pos beyond
theorem overrunStep_within (within : ¬t.cap + t.allowance < t.tally.net) : overrunStep h p = p := by
  unfold overrunStep; rw [m]; exact if_neg within

theorem runFlowStep_fill : runFlowStep h p = p := by unfold runFlowStep; rw [m]
theorem runCapStep_fill : runCapStep h p = p := by unfold runCapStep; rw [m]
theorem runTaperStep_fill : runTaperStep h p = p := by unfold runTaperStep; rw [m]

theorem flowStep_other (open_ : ph ≠ .ready ∧ ph ≠ .paused) : flowStep h p = p := by
  unfold flowStep; rw [m]; obtain ⟨ready, paused⟩ := open_
  cases ph with
  | ready => exact absurd rfl ready
  | paused => exact absurd rfl paused
  | _ => rfl

theorem taperStep_other (open_ : ph ≠ .flowing ∧ ph ≠ .paused) : taperStep h p = p := by
  unfold taperStep; rw [m]; obtain ⟨flowing, paused⟩ := open_
  cases ph with
  | flowing => exact absurd rfl flowing
  | paused => exact absurd rfl paused
  | _ => rfl

end fill

theorem flowStep_ready {h : HoseNo} {p : Part} {t : Transaction} (m : (p.hose h).mode = .fill .ready t) :
    flowStep h p = sendLamp h lampFlowing (setMode h (.fill .flowing t) p) := by unfold flowStep; rw [m]
theorem flowStep_paused {h : HoseNo} {p : Part} {t : Transaction} (m : (p.hose h).mode = .fill .paused t) :
    flowStep h p = setMode h (.fill .flowing t) p := by unfold flowStep; rw [m]
theorem taperStep_flowing {h : HoseNo} {p : Part} {t : Transaction} (m : (p.hose h).mode = .fill .flowing t) :
    taperStep h p = lowerThrottle h ((t.cap : Int) - t.tally.net) t.tally p := by unfold taperStep; rw [m]

section fill
variable {h : HoseNo} {z : ZoneNo} {p : Part} {ph : Phase} {t : Transaction}

/-- The cap and overrun steps of a fill in FLOWING or PAUSED at or above its cap. -/
theorem capSteps_reached (own : p.hoseZone h = some z) (m : (p.hose h).mode = .fill ph t)
    (open_ : ph = .flowing ∨ ph = .paused) (reached : t.cap ≤ t.tally.net) :
    overrunStep h (capStep h p) = (if t.cap + t.allowance < t.tally.net then
      tripSource .overrun z (enterClosing h .capReached t p) else enterClosing h .capReached t p) ∧
    ∃ c e t', ((overrunStep h (capStep h p)).hose h).mode = .fill (.closing c e) t' := by
  have zone : (enterClosing h .capReached t p).hoseZone h = some z := by
    rw [← own]
    exact hoseZone_congr (by rw [enterClosing_hose_same]) fun k => by simp only [Part.tank, enterClosing_tanks]
  have mode : ((enterClosing h .capReached t p).hose h).mode = .fill (.closing .capReached (now p)) t.shut := by
    rw [enterClosing_hose_same]
  rw [capStep_reached m open_ reached]
  by_cases beyond : t.cap + t.allowance < t.tally.net
  · rw [if_pos beyond, overrunStep_beyond mode beyond, tripHose_of_zone zone]
    exact ⟨rfl, _, _, _, by rw [tripSource_hose_closing _ zone (by rw [mode]; rfl), mode]⟩
  · rw [if_neg beyond, overrunStep_within mode beyond]
    exact ⟨rfl, _, _, _, mode⟩

/-- What follows a sample in such a fill: it ends, and above the allowance its zone is tripped. -/
theorem afterSample_reached (own : p.hoseZone h = some z) (m : (p.hose h).mode = .fill ph t) {moved : Bool}
    (open_ : ph = .flowing ∨ ph = .paused ∧ moved = false) (reached : t.cap ≤ t.tally.net) :
    afterSample h moved p = if t.cap + t.allowance < t.tally.net then
      tripSource .overrun z (enterClosing h .capReached t p) else enterClosing h .capReached t p := by
  obtain ⟨steps, c, e, t', mode⟩ := capSteps_reached own m (open_.imp_right And.left) reached
  cases moved with
  | false => rw [afterSample_still, runCapStep_fill mode, steps]
  | true =>
    have flowing : ph = .flowing := open_.resolve_right (by simp)
    rw [afterSample_moved, flowStep_other m (by simp [flowing]), runFlowStep_fill m, runCapStep_fill mode,
      taperStep_other mode (by simp), runTaperStep_fill mode, steps]

/-- Below its cap nothing but the flow and the taper follows. -/
theorem afterSample_still_below (m : (p.hose h).mode = .fill ph t) (below : t.tally.net < t.cap) :
    afterSample h false p = p := by
  rw [afterSample_still, capStep_below m below, overrunStep_within m (by omega), runCapStep_fill m]

theorem afterSample_tapers (m : (p.hose h).mode = .fill .flowing t) (below : t.tally.net < t.cap) :
    afterSample h true p = runTaperStep h (lowerThrottle h ((t.cap : Int) - t.tally.net) t.tally p) := by
  rw [afterSample_moved, flowStep_other m (by simp), runFlowStep_fill m, capStep_below m below,
    overrunStep_within m (by omega), runCapStep_fill m, taperStep_flowing m]

theorem afterSample_lowered (m : (p.hose h).mode = .fill .flowing t) (below : t.tally.net < t.cap) {code : Nat}
    (applies : taperCode (p.hose h).cfg.taper (p.hose h).cfg.openCode ((t.cap : Int) - t.tally.net) = code)
    (lower : code < t.tally.lastCode) : afterSample h true p =
      modHose h (fun x => { x with mode := .fill .flowing { t with tally := t.tally.lowered code } }) (sendValve h code p) := by
  have put : modTally h (Tally.lowered code) (sendValve h code p) =
      modHose h (fun x => { x with mode := .fill .flowing { t with tally := t.tally.lowered code } }) (sendValve h code p) :=
    modHose_congr (by rw [sendValve_hose, m]; rfl)
  rw [afterSample_tapers m below, lowerThrottle_of_below applies lower, put]
  exact runTaperStep_fill (ph := .flowing) (by rw [modHose_hose_same])

theorem afterSample_held (m : (p.hose h).mode = .fill .flowing t) (below : t.tally.net < t.cap) {code : Nat}
    (applies : taperCode (p.hose h).cfg.taper (p.hose h).cfg.openCode ((t.cap : Int) - t.tally.net) = code)
    (higher : t.tally.lastCode ≤ code) : afterSample h true p = p := by
  rw [afterSample_tapers m below, lowerThrottle_of_above applies higher, runTaperStep_fill m]

/-- A sample of a fill in CLOSING, or one with no delta in READY: only the overrun is looked at. -/
theorem afterSample_overrun (own : p.hoseZone h = some z) (m : (p.hose h).mode = .fill ph t) {moved : Bool}
    (quiet : (∃ c e, ph = .closing c e) ∨ ph = .ready ∧ moved = false) :
    afterSample h moved p = if t.cap + t.allowance < t.tally.net then tripSource .overrun z p else p := by
  have cap : capStep h p = p := capStep_other m (by rcases quiet with ⟨c, e, rfl⟩ | ⟨rfl, -⟩ <;> simp)
  have over_ : overrunStep h p = if t.cap + t.allowance < t.tally.net then tripSource .overrun z p else p := by
    split
    · rw [overrunStep_beyond m ‹_›, tripHose_of_zone own]
    · exact overrunStep_within m ‹_›
  obtain ⟨ph', t', mode⟩ : ∃ ph' t', ((overrunStep h p).hose h).mode = .fill ph' t' := by
    rw [over_]; split
    · exact tripSource_keeps_fill .overrun own m
    · exact ⟨ph, t, m⟩
  cases moved with
  | false => rw [afterSample_still, cap, runCapStep_fill mode, over_]
  | true =>
    obtain ⟨c, e, rfl⟩ := quiet.resolve_right (by simp)
    have closing : ((overrunStep h p).hose h).mode = .fill (.closing c e) t := by
      rw [over_]; split
      · rw [tripSource_hose_closing _ own (by rw [m]; rfl), m]
      · exact m
    rw [afterSample_moved, flowStep_other m (by simp), runFlowStep_fill m, cap, runCapStep_fill mode,
      taperStep_other closing (by simp), runTaperStep_fill mode, over_]

end fill

/-- A sample that moves a fill into FLOWING is then worked as one in FLOWING. -/
theorem afterSample_flows {h : HoseNo} {p : Part} {t : Transaction}
    (m : ((flowStep h p).hose h).mode = .fill .flowing t) : afterSample h true p = afterSample h true (flowStep h p) := by
  rw [afterSample_moved, afterSample_moved, flowStep_other m (by simp)]

/-! ## The steps after a sample, in a run -/

section run
variable {h : HoseNo} {p : Part} {s : Session} (m : (p.hose h).mode = .proving s)
include m

theorem flowStep_proving : flowStep h p = p := by unfold flowStep; rw [m]
theorem capStep_proving : capStep h p = p := by unfold capStep; rw [m]
theorem overrunStep_proving : overrunStep h p = p := by unfold overrunStep; rw [m]
theorem taperStep_proving : taperStep h p = p := by unfold taperStep; rw [m]
theorem runFlowStep_none (run : s.run = none) : runFlowStep h p = p := by unfold runFlowStep; simp only [m, run]
theorem runCapStep_none (run : s.run = none) : runCapStep h p = p := by unfold runCapStep; simp only [m, run]
theorem runTaperStep_none (run : s.run = none) : runTaperStep h p = p := by unfold runTaperStep; simp only [m, run]

variable {r : ProvingRun} (run : s.run = some r)
include run

theorem runFlowStep_flowed (flowed : r.flowed = true) : runFlowStep h p = p := by
  unfold runFlowStep; simp only [m, run, flowed]; rfl
theorem runFlowStep_first (flowed : r.flowed = false) : runFlowStep h p =
    sendLamp h lampFlowing (setMode h (.proving (s.withRun { r with flowed := true })) p) := by
  unfold runFlowStep; simp only [m, run, flowed]; rfl
theorem runCapStep_reached (reached : s.can ≤ r.tally.gross) : runCapStep h p = endRun h .capReached s r p := by
  unfold runCapStep; simp only [m, run, reached, if_true]
  rw [endRequest_of_run m run, if_pos (by decide)]
theorem runCapStep_below (below : r.tally.gross < s.can) : runCapStep h p = p := by
  unfold runCapStep; simp only [m, run]; exact if_neg (by omega)
theorem runTaperStep_run : runTaperStep h p = lowerThrottle h ((s.can : Int) - r.tally.gross) r.tally p := by
  unfold runTaperStep; simp only [m, run]

/-- What follows a sample in a run whose gross has reached the can volume: it ends. -/
theorem afterSample_canReached {moved : Bool} (quiet : moved = false ∨ r.flowed = true)
    (reached : s.can ≤ r.tally.gross) : afterSample h moved p = endRun h .capReached s r p := by
  have ended : ((endRun h .capReached s r p).hose h).mode = .proving (s.runEnded (p.runResult h .capReached r)) := by
    rw [endRun_hose_same]
  cases moved with
  | false => rw [afterSample_still, capStep_proving m, overrunStep_proving m, runCapStep_reached m run reached]
  | true =>
    rw [afterSample_moved, flowStep_proving m, runFlowStep_flowed m run (by simpa using quiet), capStep_proving m,
      overrunStep_proving m, runCapStep_reached m run reached, taperStep_proving ended, runTaperStep_none ended rfl]

theorem afterSample_still_run (below : r.tally.gross < s.can) : afterSample h false p = p := by
  rw [afterSample_still, capStep_proving m, overrunStep_proving m, runCapStep_below m run below]

theorem afterSample_tapers_run (flowed : r.flowed = true) (below : r.tally.gross < s.can) :
    afterSample h true p = lowerThrottle h ((s.can : Int) - r.tally.gross) r.tally p := by
  rw [afterSample_moved, flowStep_proving m, runFlowStep_flowed m run flowed, capStep_proving m, overrunStep_proving m,
    runCapStep_below m run below, taperStep_proving m, runTaperStep_run m run]

theorem afterSample_lowered_run (flowed : r.flowed = true) (below : r.tally.gross < s.can) {code : Nat}
    (applies : taperCode (p.hose h).cfg.taper (p.hose h).cfg.openCode ((s.can : Int) - r.tally.gross) = code)
    (lower : code < r.tally.lastCode) : afterSample h true p = modHose h (fun x =>
      { x with mode := .proving { s with run := some { r with tally := r.tally.lowered code } } }) (sendValve h code p) := by
  rw [afterSample_tapers_run m run flowed below, lowerThrottle_of_below applies lower]
  refine modHose_congr ?_
  rw [sendValve_hose, m]
  simp only [HoseMode.modTally, run, Option.map_some]

/-- The first sample of a run that moves it is then worked as any later one. -/
theorem afterSample_first (flowed : r.flowed = false) : afterSample h true p =
    afterSample h true (sendLamp h lampFlowing (setMode h (.proving (s.withRun { r with flowed := true })) p)) := by
  have m' : ((sendLamp h lampFlowing (setMode h (.proving (s.withRun { r with flowed := true })) p)).hose h).mode =
      .proving (s.withRun { r with flowed := true }) := by rw [sendLamp_hose, setMode_eq, modHose_hose_same]
  rw [afterSample_moved, afterSample_moved, flowStep_proving m, runFlowStep_first m run flowed, flowStep_proving m',
    runFlowStep_flowed m' rfl rfl]

end run

/-! ## With nothing open -/

theorem afterSample_idle {h : HoseNo} {p : Part} (none : (p.hose h).mode.tally = none) (moved : Bool) :
    afterSample h moved p = p := by
  match m : (p.hose h).mode with
  | .fill ph t => rw [m] at none; cases none
  | .proving s =>
    have run : s.run = .none := by simpa [m, HoseMode.tally] using none
    cases moved with
    | false => rw [afterSample_still, capStep_proving m, overrunStep_proving m, runCapStep_none m run]
    | true => rw [afterSample_moved, flowStep_proving m, runFlowStep_none m run, capStep_proving m, overrunStep_proving m,
        runCapStep_none m run, taperStep_proving m, runTaperStep_none m run]
  | .idle | .out =>
    cases moved <;> simp only [afterSample_still, afterSample_moved, flowStep, runFlowStep, capStep, overrunStep,
      runCapStep, taperStep, runTaperStep, m]

/-! ## Uncoupled flow (R22) -/

theorem addUncoupled_coupled {h : HoseNo} {p : Part} (n : (p.hose h).nozzle = .coupled ∨ (p.hose h).nozzle = .coupledShut)
    (ml : Nat) : addUncoupled h ml p = p := by
  unfold addUncoupled; rcases n with n | n <;> rw [n] <;> rfl

/-- A hose with its uncoupled volume raised by a sample's net. -/
def Hose.uncoupledSum (x : Hose) (ml : Nat) : Nat := min 4294967295 (x.uncoupled + ml)

theorem addUncoupled_uncoupled {h : HoseNo} {p : Part}
    (n : (p.hose h).nozzle = .holstered ∨ (p.hose h).nozzle = .lifted) (ml : Nat) : addUncoupled h ml p =
      if (p.hose h).cfg.dripLimit * 1000 < (p.hose h).uncoupledSum ml ∧ (p.hose h).uncoupledRaised = false then
        tripHose .uncoupledFlow h
          (modHose h (fun x => { x with uncoupled := (p.hose h).uncoupledSum ml, uncoupledRaised := true }) p)
      else modHose h (fun x => { x with uncoupled := (p.hose h).uncoupledSum ml }) p := by
  have off : (p.hose h).nozzle.uncoupled = true := by rcases n with n | n <;> rw [n] <;> rfl
  unfold addUncoupled
  rw [if_pos off]
  dsimp only
  rw [modHose_modHose, modHose_hose_same]
  simp only [Bool.and_eq_true, decide_eq_true_eq, Bool.not_eq_true']
  refine if_congr Iff.rfl ?_ ?_
  · exact congrArg (tripHose .uncoupledFlow h) (modHose_congr rfl)
  · exact modHose_congr rfl

/-! ## The obligation -/

theorem fill_afterSample (h : HoseNo) (z : ZoneNo) (p : Part) (own : p.hoseZone h = some z) (ph : Phase) (txn : Transaction)
    (moved : Bool) (m : (p.hose h).mode = .fill ph txn) :
    let beyond := txn.cap + txn.allowance < txn.tally.net
    let flowing := modHose h (fun x => { x with mode := .fill .flowing txn }) p
    (ph = .flowing ∨ ph = .paused ∧ moved = false →
      (txn.cap ≤ txn.tally.net → ¬beyond → afterSample h moved p = enterClosing h .capReached txn p) ∧
      (beyond → afterSample h moved p = tripSource .overrun z (enterClosing h .capReached txn p)) ∧
      (txn.tally.net < txn.cap → moved = false → afterSample h moved p = p)) ∧
    (ph = .ready → moved = true → afterSample h moved p = afterSample h true (sendLamp h 2 flowing)) ∧
    (ph = .paused → moved = true → afterSample h moved p = afterSample h true flowing) ∧
    ((∃ cause ended, ph = .closing cause ended) ∨ ph = .ready ∧ moved = false →
      (beyond → afterSample h moved p = tripSource .overrun z p) ∧ (¬beyond → afterSample h moved p = p)) := by
  intro beyond flowing
  refine ⟨fun open_ => ⟨fun reached within => ?_, fun over_ => ?_, fun below still => ?_⟩, fun e still => ?_,
    fun e still => ?_, fun quiet => ⟨fun over_ => ?_, fun within => ?_⟩⟩
  · rw [afterSample_reached own m open_ reached, if_neg within]
  · rw [afterSample_reached own m open_ (by simp only [beyond] at over_; omega), if_pos over_]
  · rw [still, afterSample_still_below m below]
  · subst e still
    have step : flowStep h p = sendLamp h lampFlowing flowing := flowStep_ready m
    rw [afterSample_flows (t := txn) (by rw [step, sendLamp_hose]; simp only [flowing, modHose_hose_same]), step]; rfl
  · subst e still
    have step : flowStep h p = flowing := flowStep_paused m
    rw [afterSample_flows (t := txn) (by rw [step]; simp only [flowing, modHose_hose_same]), step]
  · rw [afterSample_overrun own m quiet, if_pos over_]
  · rw [afterSample_overrun own m quiet, if_neg within]

/-- Settles O29: each step after a sample is read by the fill's or the run's state, the taper by its closest step. -/
theorem aSampleEndsTripsOrThrottlesTheFill : Obligations.ASampleEndsTripsOrThrottlesTheFill := by
  intro h z p own steps applies lowered
  have code {st : TaperStep} {remaining : Int} (on : applies st remaining) :
      taperCode (p.hose h).cfg.taper (p.hose h).cfg.openCode remaining = st.code :=
    taperCode_of_closest on.1 on.2.1 on.2.2
  refine ⟨fun ph txn moved m => ?_, fun ses r moved m run => ?_, fun moved none => afterSample_idle none moved,
    fun ml n => addUncoupled_coupled n ml, fun ml n => ?_⟩
  · obtain ⟨open_, ready, paused, quiet⟩ := fill_afterSample h z p own ph txn moved m
    refine ⟨open_, fun e still below => ?_, ready, paused, quiet⟩
    subst e still
    exact ⟨fun st on lower => afterSample_lowered m below (code on) lower,
      fun st on higher => afterSample_held m below (code on) higher,
      fun none higher => afterSample_held m below (taperCode_of_none none) higher⟩
  · refine ⟨fun quiet => ⟨fun reached => afterSample_canReached m run quiet reached, fun below still => ?_⟩,
      fun flowed still below => ?_, fun flowed still => ?_⟩
    · rw [still, afterSample_still_run m run below]
    · subst still
      have held {c : Nat} (applied : taperCode (p.hose h).cfg.taper (p.hose h).cfg.openCode ((ses.can : Int) - r.tally.gross) = c)
          (higher : r.tally.lastCode ≤ c) : afterSample h true p = p := by
        rw [afterSample_tapers_run m run flowed below, lowerThrottle_of_above applied higher]
      exact ⟨fun st on lower => afterSample_lowered_run m run flowed below (code on) lower,
        fun st on higher => held (code on) higher, fun none higher => held (taperCode_of_none none) higher⟩
    · rw [still, afterSample_first m run flowed]; rfl
  · intro sum
    rw [addUncoupled_uncoupled n, tripHose_of_zone (z := z)]
    · refine ⟨fun raised above => if_pos ⟨above, raised⟩, fun quiet => if_neg fun ⟨above, raised⟩ => ?_⟩
      rcases quiet with quiet | quiet
      · rw [quiet] at raised; cases raised
      · exact absurd above (by simp only [Hose.uncoupledSum]; simp only [sum] at quiet; omega)
    · rw [← own]
      exact hoseZone_congr (by rw [modHose_hose_same]) fun _ => rfl

end Sys2Proof.Machine
end

section
/-! A counted sample (R22, R29, R35 to R43, R76, R180): what it adds to the fill or the run, what it takes off the book,
and what its uncoupled flow trips. -/

namespace Sys2Proof.Machine

open Sys2Proof

/-! ## What a trip leaves of hoses, tanks and zones -/

/-- A trip changes nothing of a hose but its mode. -/
theorem tripSource_hose_mode (c : Cause) (z : ZoneNo) (p : Part) (j : HoseNo) :
    (tripSource c z p).hose j = { p.hose j with mode := ((tripSource c z p).hose j).mode } := by
  by_cases was : (p.zone z).state = .tripped
  · rw [tripSource_again was]; rfl
  · rw [tripSource_hose_eq was]
    refine each_invariant (fun q => q.hose j = { p.hose j with mode := (q.hose j).mode }) _ _ (fun h _ q hq => ?_) ?_
    · have := endRequest_hose_mode h j .trip q
      rw [hq] at this; exact this
    · unfold Part.tripping; rw [syncLines_hose]; rfl

/-- A trip leaves every tank's book. -/
theorem tripSource_book (c : Cause) (z : ZoneNo) (p : Part) (k : TankNo) :
    ((tripSource c z p).tank k).book = (p.tank k).book := by
  by_cases was : (p.zone z).state = .tripped
  · rw [tripSource_again was]; rfl
  · rw [tripSource_view (fun q => (q.tank k).book) (fun _ _ _ => rfl)
      (fun t q => by unfold tripDelivery; rw [modTank_tank]; split <;> rfl) (fun _ _ => by rw [raise_tank]) was c]
    refine (each_keep_mem (fun q => (q.tank k).book) _ _ (fun h _ q => ?_) _).trans ?_
    · rw [endRequest_tank]
    · unfold Part.tripping; rw [syncLines_tank]; rfl

theorem tripSource_zones_eq {z : ZoneNo} {p : Part} (new : (p.zone z).state ≠ .tripped) (c : Cause) :
    (tripSource c z p).zones = (modZone z (fun x => x.trip c (now p)) p).zones := by
  rw [tripSource_view (·.zones) (fun _ _ _ => rfl) (fun _ _ => rfl) (fun _ _ => raise_zones ..) new c]
  refine (each_keep_mem (·.zones) _ _ (fun h _ q => endRequest_zones ..) _).trans ?_
  unfold Part.tripping; rw [syncLines_zones]

/-- After its source the zone is TRIPPED, and the others are as they were. -/
theorem tripSource_zone (c : Cause) (z : ZoneNo) (p : Part) :
    ((tripSource c z p).zone z).state = .tripped ∧ ∀ y, y ≠ z → (tripSource c z p).zone y = p.zone y := by
  by_cases was : (p.zone z).state = .tripped
  · rw [tripSource_again was]
    exact ⟨by rw [modZone_zone_same]; exact was, fun y ne => by rw [modZone_zone, if_neg ne.symm]⟩
  · have zone (y : ZoneNo) : (tripSource c z p).zone y = (modZone z (fun x => x.trip c (now p)) p).zone y := by
      unfold Part.zone; rw [tripSource_zones_eq was]
    refine ⟨?_, fun y ne => ?_⟩
    · rw [zone, modZone_zone_same]; rfl
    · rw [zone, modZone_zone, if_neg ne.symm]

/-! ## Uncoupled flow -/

theorem nozzle_cases (n : Nozzle) : (n = .coupled ∨ n = .coupledShut) ∨ (n = .holstered ∨ n = .lifted) := by
  cases n <;> simp

section addUncoupled
variable (h : HoseNo) (ml : Nat) (p : Part)

/-- Net metered while uncoupled takes the source once: above the drip limit, uncoupled raised being clear. -/
def Hose.raises (x : Hose) (ml : Nat) : Prop :=
  ¬(x.nozzle = .coupled ∨ x.nozzle = .coupledShut) ∧ x.cfg.dripLimit * 1000 < x.uncoupledSum ml ∧ x.uncoupledRaised = false

/-- The hose with its uncoupled volume and flag after a sample of `ml` net. -/
def Hose.uncoupledBy (x : Hose) (ml : Nat) (raised : Bool) : Hose :=
  { x with uncoupled := x.uncoupledSum ml, uncoupledRaised := x.uncoupledRaised || raised }

/-- All that a sample's uncoupled flow can do. -/
theorem addUncoupled_cases :
    ((p.hose h).nozzle = .coupled ∨ (p.hose h).nozzle = .coupledShut) ∧ addUncoupled h ml p = p ∨
    ¬((p.hose h).nozzle = .coupled ∨ (p.hose h).nozzle = .coupledShut) ∧ ¬(p.hose h).raises ml ∧
      addUncoupled h ml p = modHose h (fun x => x.uncoupledBy ml false) p ∨
    (p.hose h).raises ml ∧ addUncoupled h ml p = tripHose .uncoupledFlow h (modHose h (fun x => x.uncoupledBy ml true) p) := by
  rcases nozzle_cases (p.hose h).nozzle with coupled | off
  · exact .inl ⟨coupled, addUncoupled_coupled coupled ml⟩
  · have not : ¬((p.hose h).nozzle = .coupled ∨ (p.hose h).nozzle = .coupledShut) := by
      rcases off with n | n <;> rw [n] <;> decide
    rw [addUncoupled_uncoupled off]
    refine .inr ?_
    split
    · rename_i above
      refine .inr ⟨⟨not, above⟩, congrArg (tripHose .uncoupledFlow h) (modHose_congr ?_)⟩
      simp only [Hose.uncoupledBy, Bool.or_true]
    · rename_i below
      refine .inl ⟨not, fun r => below r.2, modHose_congr ?_⟩
      simp only [Hose.uncoupledBy, Bool.or_false]

/-- A source for a hose changes nothing of it but its mode, and no book. -/
theorem tripHose_leaves (c : Cause) :
    (tripHose c h p).hose h = { p.hose h with mode := ((tripHose c h p).hose h).mode } ∧
    ∀ k, ((tripHose c h p).tank k).book = (p.tank k).book := by
  cases own : p.hoseZone h with
  | none => rw [tripHose_of_none own]; exact ⟨rfl, fun _ => rfl⟩
  | some z => rw [tripHose_of_zone own]; exact ⟨tripSource_hose_mode .., tripSource_book c z p⟩

theorem modHose_hoseZone (f : Hose → Hose) (cfg : (f (p.hose h)).cfg = (p.hose h).cfg) :
    (modHose h f p).hoseZone h = p.hoseZone h :=
  hoseZone_congr (by rw [modHose_hose_same, cfg]) fun _ => rfl

theorem addUncoupled_book (k : TankNo) : ((addUncoupled h ml p).tank k).book = (p.tank k).book := by
  obtain ⟨-, e⟩ | ⟨-, -, e⟩ | ⟨-, e⟩ := addUncoupled_cases h ml p <;> rw [e]
  · rfl
  · rw [(tripHose_leaves ..).2]; rfl

theorem addUncoupled_fields :
    ((addUncoupled h ml p).hose h).uncoupled =
      (if (p.hose h).nozzle = .coupled ∨ (p.hose h).nozzle = .coupledShut then (p.hose h).uncoupled
        else (p.hose h).uncoupledSum ml) ∧
    (((addUncoupled h ml p).hose h).uncoupledRaised = true ↔
      (p.hose h).uncoupledRaised = true ∨ (p.hose h).raises ml) := by
  obtain ⟨coupled, e⟩ | ⟨off, quiet, e⟩ | ⟨raises, e⟩ := addUncoupled_cases h ml p <;> rw [e]
  · rw [if_pos coupled]
    exact ⟨rfl, fun r => .inl r, fun r => r.resolve_right fun r => r.1 coupled⟩
  · rw [if_neg off, modHose_hose_same]
    refine ⟨rfl, ?_⟩
    simp only [Hose.uncoupledBy, Bool.or_false, quiet, or_false]
  · rw [if_neg raises.1, (tripHose_leaves ..).1, modHose_hose_same]
    refine ⟨rfl, ?_⟩
    simp only [Hose.uncoupledBy, Bool.or_true, raises, or_true]

theorem addUncoupled_zones :
    (¬(p.hose h).raises ml → (addUncoupled h ml p).zones = p.zones) ∧
    ((p.hose h).raises ml → (∀ z, p.hoseZone h = some z → ((addUncoupled h ml p).zone z).state = .tripped) ∧
      ∀ y, p.hoseZone h ≠ some y → (addUncoupled h ml p).zone y = p.zone y) := by
  obtain ⟨coupled, e⟩ | ⟨off, quiet, e⟩ | ⟨raises, e⟩ := addUncoupled_cases h ml p <;> rw [e]
  · exact ⟨fun _ => rfl, fun r => absurd coupled r.1⟩
  · exact ⟨fun _ => rfl, fun r => absurd r quiet⟩
  · have zone := modHose_hoseZone h p (fun x => x.uncoupledBy ml true) rfl
    refine ⟨fun quiet => absurd raises quiet, fun _ => ⟨fun z own => ?_, fun y other => ?_⟩⟩
    · rw [tripHose_of_zone (zone.trans own)]; exact (tripSource_zone ..).1
    · cases own : p.hoseZone h with
      | none => rw [tripHose_of_none (zone.trans own)]; rfl
      | some z =>
        rw [tripHose_of_zone (zone.trans own), (tripSource_zone ..).2 y fun e => other (by rw [own, e])]
        rfl

/-- The flow trips the hose's zone, which was not TRIPPED. -/
def Part.flowTrips (p : Part) (h : HoseNo) (ml : Nat) : Prop :=
  (p.hose h).raises ml ∧ ∃ z, p.hoseZone h = some z ∧ (p.zone z).state ≠ .tripped

theorem addUncoupled_mode_kept (quiet : ¬p.flowTrips h ml) :
    ((addUncoupled h ml p).hose h).mode = (p.hose h).mode := by
  obtain ⟨-, e⟩ | ⟨-, -, e⟩ | ⟨raises, e⟩ := addUncoupled_cases h ml p <;> rw [e]
  · rw [modHose_hose_same]; rfl
  · have zone := modHose_hoseZone h p (fun x => x.uncoupledBy ml true) rfl
    cases own : p.hoseZone h with
    | none => rw [tripHose_of_none (zone.trans own), modHose_hose_same]; rfl
    | some z =>
      have was : (p.zone z).state = .tripped := not_not.1 fun new => quiet ⟨raises, z, own, new⟩
      rw [tripHose_of_zone (zone.trans own),
        tripSource_again (p := modHose h (fun x => x.uncoupledBy ml true) p) was, modZone_hose_keep, modHose_hose_same]; rfl

theorem addUncoupled_trips (trips : p.flowTrips h ml) : ∃ z, p.hoseZone h = some z ∧ (p.zone z).state ≠ .tripped ∧
    addUncoupled h ml p = tripSource .uncoupledFlow z (modHose h (fun x => x.uncoupledBy ml true) p) := by
  obtain ⟨raises, z, own, new⟩ := trips
  obtain ⟨coupled, -⟩ | ⟨-, quiet, -⟩ | ⟨-, e⟩ := addUncoupled_cases h ml p
  · exact absurd coupled raises.1
  · exact absurd raises quiet
  · exact ⟨z, own, new, by rw [e, tripHose_of_zone ((modHose_hoseZone h p _ rfl).trans own)]⟩

/-- A fill is in CLOSING once its zone is tripped. -/
theorem addUncoupled_fill {ph : Phase} {t : Transaction} (m : (p.hose h).mode = .fill ph t) :
    (∃ ph' t', ((addUncoupled h ml p).hose h).mode = .fill ph' t' ∧ (t' = t ∨ t' = t.shut)) ∧
    (p.flowTrips h ml → ((addUncoupled h ml p).hose h).mode.isClosing = true) := by
  by_cases trips : p.flowTrips h ml
  · obtain ⟨z, own, new, e⟩ := addUncoupled_trips h ml p trips
    have mode : ((modHose h (fun x => x.uncoupledBy ml true) p).hose h).mode = .fill ph t := by
      rw [modHose_hose_same]; exact m
    have zone := (modHose_hoseZone h p (fun x => x.uncoupledBy ml true) rfl).trans own
    rw [e]
    cases closing : ((modHose h (fun x => x.uncoupledBy ml true) p).hose h).mode.isClosing with
    | true =>
      rw [tripSource_hose_closing _ zone closing, mode]
      exact ⟨⟨_, _, rfl, .inl rfl⟩, fun _ => by rw [← mode]; exact closing⟩
    | false =>
      rw [tripSource_hose_fill (p := modHose h (fun x => x.uncoupledBy ml true) p) new _ zone mode closing]
      exact ⟨⟨_, _, rfl, .inr rfl⟩, fun _ => rfl⟩
  · rw [addUncoupled_mode_kept h ml p trips, m]
    exact ⟨⟨_, _, rfl, .inl rfl⟩, fun t => absurd t trips⟩

/-- A run ends with TRIP and its figures once its zone is tripped. -/
theorem addUncoupled_run {s : Session} {r : ProvingRun} (m : (p.hose h).mode = .proving s) (run : s.run = some r)
    (trips : p.flowTrips h ml) : ∃ curve prod,
      ((addUncoupled h ml p).hose h).mode = .proving (s.runEnded (r.finish .trip curve prod)) := by
  obtain ⟨z, own, new, e⟩ := addUncoupled_trips h ml p trips
  obtain ⟨prod, hose⟩ := tripSource_hose_run (p := modHose h (fun x => x.uncoupledBy ml true) p) new .uncoupledFlow
    ((modHose_hoseZone h p _ rfl).trans own) (by rw [modHose_hose_same]; exact m) run
  exact ⟨_, prod, by rw [e, hose]⟩

end addUncoupled

/-! ## The hand-off -/

/-- The low-stock test ends an open fill of the tank, and leaves every hose else. -/
theorem endFills_low_hose (k : TankNo) (p : Part) (h : HoseNo) : (endFills k .tankLow p).hose h = p.hose h ∨
    ∃ ph t c e, (p.hose h).mode = .fill ph t ∧
      (endFills k .tankLow p).hose h = { p.hose h with mode := .fill (.closing c e) t.shut } := by
  have one (q : Part) : (endRequest h .tankLow q).hose h = q.hose h ∨ ∃ ph t c e, (q.hose h).mode = .fill ph t ∧
      (endRequest h .tankLow q).hose h = { q.hose h with mode := .fill (.closing c e) t.shut } := by
    obtain e | ⟨c, -⟩ | ⟨ph, t, m, -, e⟩ | ⟨_, _, -, -, c, -⟩ := endRequest_cases h .tankLow q
    · exact .inl (by rw [e])
    · cases c
    · exact .inr ⟨ph, t, _, _, m, by rw [e, enterClosing_hose_same]⟩
    · cases c
  have others (is : List HoseNo) (ne : ∀ j ∈ is, j ≠ h) (q : Part) :
      (each is (fun h q => if (q.hose h).mode.dispensing then endRequest h .tankLow q else q) q).hose h = q.hose h := by
    refine each_keep_mem (·.hose h) _ is (fun j hj r => ?_) q
    split
    · exact endRequest_hose_other (ne j hj).symm ..
    · rfl
  unfold endFills
  by_cases own : (p.hose h).cfg.tank = some k
  · obtain ⟨first, last, hf, hl, e⟩ := each_split (tankHoses_nodup p k) (mem_tankHoses.2 own)
      (fun h q => if (q.hose h).mode.dispensing then endRequest h .tankLow q else q) p
    have before := others first (fun j hj => (hf j hj).1) p
    rw [e, others last fun j hj => (hl j hj).1]
    generalize each first _ p = q at before ⊢
    rw [← before]
    split
    · exact one q
    · exact .inl rfl
  · exact .inl (others _ (fun j hj e => own (e ▸ mem_tankHoses.1 hj)) p)

theorem lowStockTest_hose (k : TankNo) (p : Part) (h : HoseNo) : (lowStockTest k p).hose h = p.hose h ∨
    ∃ ph t c e, (p.hose h).mode = .fill ph t ∧
      (lowStockTest k p).hose h = { p.hose h with mode := .fill (.closing c e) t.shut } := by
  have same : (lowStockTest k p).hose h = (endFills k .tankLow p).hose h ∨ (lowStockTest k p).hose h = p.hose h := by
    unfold lowStockTest
    split
    · dsimp only; split
      · exact .inl rfl
      · exact .inl (by rw [raise_hose]; rfl)
    · exact .inr rfl
  rcases same with e | e
  · rw [e]; exact endFills_low_hose k p h
  · exact .inl e

theorem handOff_hose (k : TankNo) (a : Account) (ml : Nat) (p : Part) (h : HoseNo) :
    (handOff k a ml p).hose h = p.hose h ∨ ∃ ph t c e, (p.hose h).mode = .fill ph t ∧
      (handOff k a ml p).hose h = { p.hose h with mode := .fill (.closing c e) t.shut } := by
  unfold handOff
  split
  · exact .inl rfl
  · exact lowStockTest_hose k _ h

@[simp] theorem bookChange_book (a : Account) (n : Int) (x : Tank) : (x.bookChange a n).book = x.book + a.sign * n := by
  unfold Tank.bookChange; dsimp only; split <;> rfl
@[simp] theorem bookChange_cfg (a : Account) (n : Int) (x : Tank) : (x.bookChange a n).cfg = x.cfg := by
  unfold Tank.bookChange; dsimp only; split <;> rfl

theorem handOff_book (k i : TankNo) (a : Account) (ml : Nat) (p : Part) : ((handOff k a ml p).tank i).book =
    if k = i then (p.tank i).book + a.sign * ml else (p.tank i).book := by
  unfold handOff
  split
  · rename_i zero; rw [zero]; simp
  · simp only [modTank_tank, lowStockTest_tank]
    split <;> simp

theorem handOff_cfg (k i : TankNo) (a : Account) (ml : Nat) (p : Part) :
    ((handOff k a ml p).tank i).cfg = (p.tank i).cfg := by
  unfold handOff
  split
  · rfl
  · simp only [modTank_tank, lowStockTest_tank]
    split <;> simp

/-- The hand-off leaves of a hose all but the mode of a fill that it ends. -/
theorem handOff_hose_mode (k : TankNo) (a : Account) (ml : Nat) (p : Part) (h : HoseNo) :
    (handOff k a ml p).hose h = { p.hose h with mode := ((handOff k a ml p).hose h).mode } := by
  obtain e | ⟨ph, t, c, s, -, e⟩ := handOff_hose k a ml p h <;> rw [e]

theorem handOff_hoseZone (k : TankNo) (a : Account) (ml : Nat) (p : Part) (h : HoseNo) :
    (handOff k a ml p).hoseZone h = p.hoseZone h :=
  hoseZone_congr (by rw [handOff_hose_mode]) fun t => by rw [handOff_cfg]

/-! ## The counted sample -/

/-- The rate of a sample, and the factor of the curve at it (R35, R36). -/
def MeterContext.rate (c : MeterContext) (x : Sample) (delta : Nat) (m : MeterSet) : Nat :=
  rateOf delta c.weight x.interval m.lastRate (c.curve.headD ⟨0, 0⟩).flow
def MeterContext.factor (c : MeterContext) (x : Sample) (delta : Nat) (m : MeterSet) : Nat :=
  factorAt c.curve (c.rate x delta m)

/-- A sample worked in a set, by the context of its meter (R37 to R41). -/
def MeterContext.work (c : MeterContext) (x : Sample) (delta : Nat) (m : MeterSet) : Worked :=
  workSample delta c.weight (c.factor x delta m) (vcfOf c.product.beta (usedTemp x.temp c.product.fallback))
    (c.rate x delta m) m

/-- What a sample makes of the mode of a hose with a fill or a run. -/
def HoseMode.counted (m : HoseMode) (c : MeterContext) (x : Sample) (delta : Nat) (t : Tally) : HoseMode :=
  (m.modTally fun y => y.count (c.work x delta t.meter) x.temp (usedTemp x.temp c.product.fallback)).addSums delta c.weight
    (c.factor x delta t.meter) x.interval

theorem countSample_open {h : HoseNo} {c : MeterContext} {p : Part} {t : Tally} (ok : curveOk c.curve = true)
    (open_ : (p.hose h).mode.tally = some t) (x : Sample) (delta : Nat) : countSample h x c delta p =
      addUncoupled h (c.work x delta t.meter).net (handOff c.tank .dispensed (c.work x delta t.meter).net
        (setMode h ((p.hose h).mode.counted c x delta t) p)) := by
  have set : (p.hose h).meterSet = t.meter := by unfold Hose.meterSet; rw [open_]
  unfold countSample
  simp only [open_, set, sampleFactor, ok, if_true]
  have moved : modHose h (fun y => { y with mode := y.mode.addSums delta c.weight (c.factor x delta t.meter) x.interval })
      (modTally h (fun y => y.count (c.work x delta t.meter) x.temp (usedTemp x.temp c.product.fallback)) p) =
      setMode h ((p.hose h).mode.counted c x delta t) p := by
    unfold modTally
    rw [modHose_modHose]
    exact modHose_congr rfl
  exact congrArg (fun r => addUncoupled h (c.work x delta t.meter).net
    (handOff c.tank .dispensed (c.work x delta t.meter).net r)) moved

/-- What is handed off: the part of a sample up to its uncoupled volume. -/
def Part.dispensed (p : Part) (h : HoseNo) (m : HoseMode) (k : TankNo) (net : Nat) : Part :=
  handOff k .dispensed net (setMode h m p)

section dispensed
variable (p : Part) (h : HoseNo) (m : HoseMode) (k : TankNo) (net : Nat)

theorem dispensed_hose : (p.dispensed h m k net).hose h =
    { p.hose h with mode := ((p.dispensed h m k net).hose h).mode } := by
  have handed := handOff_hose_mode k .dispensed net (setMode h m p) h
  rw [show (setMode h m p).hose h = { p.hose h with mode := m } by rw [setMode_eq, modHose_hose_same]] at handed
  exact handed

theorem dispensed_mode : ((p.dispensed h m k net).hose h).mode = m ∨
    ∃ ph t c e, m = .fill ph t ∧ ((p.dispensed h m k net).hose h).mode = .fill (.closing c e) t.shut := by
  have set : (setMode h m p).hose h = { p.hose h with mode := m } := by rw [setMode_eq, modHose_hose_same]
  unfold Part.dispensed
  obtain e | ⟨ph, t, c, s, mode, e⟩ := handOff_hose k .dispensed net (setMode h m p) h
  · exact .inl (by rw [e, set])
  · exact .inr ⟨ph, t, c, s, by rw [set] at mode; exact mode, by rw [e]⟩

theorem dispensed_hoseZone : (p.dispensed h m k net).hoseZone h = p.hoseZone h :=
  (handOff_hoseZone ..).trans (modHose_hoseZone h p _ rfl)

theorem dispensed_zones : (p.dispensed h m k net).zones = p.zones := handOff_zones ..

theorem dispensed_flowTrips : (p.dispensed h m k net).flowTrips h net ↔ p.flowTrips h net := by
  have zone (y : ZoneNo) : (p.dispensed h m k net).zone y = p.zone y := by unfold Part.zone; rw [dispensed_zones]
  unfold Part.flowTrips
  rw [dispensed_hose, dispensed_hoseZone]
  simp only [zone]
  exact Iff.rfl

/-- The book, the machines, the uncoupled volume and the zones after a sample of a fill or a run. -/
theorem sample_booked :
    let q := addUncoupled h net (p.dispensed h m k net)
    (q.tank k).book = (p.tank k).book - net ∧ (∀ i, i ≠ k → (q.tank i).book = (p.tank i).book) ∧
    q.machines = p.machines ∧
    (q.hose h).uncoupled = (if (p.hose h).nozzle = .coupled ∨ (p.hose h).nozzle = .coupledShut then (p.hose h).uncoupled
      else (p.hose h).uncoupledSum net) ∧
    ((q.hose h).uncoupledRaised = true ↔ (p.hose h).uncoupledRaised = true ∨ (p.hose h).raises net) ∧
    (¬(p.hose h).raises net → q.zones = p.zones) ∧
    ((p.hose h).raises net → (∀ z, p.hoseZone h = some z → (q.zone z).state = .tripped) ∧
      ∀ y, p.hoseZone h ≠ some y → q.zone y = p.zone y) := by
  intro q
  have book (i : TankNo) : (q.tank i).book = if k = i then (p.tank i).book - net else (p.tank i).book := by
    simp only [q, addUncoupled_book, Part.dispensed, handOff_book, Account.sign]
    split
    · rw [show (setMode h m p).tank i = p.tank i from rfl]; omega
    · rfl
  have machines : q.machines = p.machines :=
    (congrArg Part.machines (addUncoupled_sansTrips h net (p.dispensed h m k net))).trans (handOff_machines ..)
  obtain ⟨sum, raised⟩ := addUncoupled_fields h net (p.dispensed h m k net)
  obtain ⟨quiet, trips⟩ := addUncoupled_zones h net (p.dispensed h m k net)
  have zone (y : ZoneNo) : (p.dispensed h m k net).zone y = p.zone y := by unfold Part.zone; rw [dispensed_zones]
  rw [dispensed_hose] at sum raised quiet trips
  rw [dispensed_hoseZone] at trips
  refine ⟨by rw [book, if_pos rfl], fun i ne => by rw [book, if_neg ne.symm], machines, sum, raised, fun r =>
    (quiet r).trans (dispensed_zones ..), fun r => ⟨(trips r).1, fun y other => ((trips r).2 y other).trans (zone y)⟩⟩

end dispensed

/-- The tally a sample leaves, field by field. -/
theorem count_fields (t : Tally) (w : Worked) (own used : Int) : t.count w own used = { t with
    gross := min 4294967295 (t.gross + w.gross), net := min 4294967295 (t.net + w.net), meter := w.meter
    lastTemp := some used
    flags := { t.flags with tempSubstituted := t.flags.tempSubstituted || decide (¬(-500 ≤ own ∧ own ≤ 800)) } } := by
  have valid : (!tempValid own) = decide (¬(-500 ≤ own ∧ own ≤ 800)) := by
    unfold tempValid; rw [← Bool.decide_and, decide_not]
  unfold Tally.count
  rw [valid]
  rfl

theorem counted_run {s : Session} {r : ProvingRun} (run : s.run = some r) (c : MeterContext) (x : Sample) (delta : Nat) :
    (HoseMode.proving s).counted c x delta r.tally = .proving { s with run := some { r with
      tally := r.tally.count (c.work x delta r.tally.meter) x.temp (usedTemp x.temp c.product.fallback)
      sumVolume := r.sumVolume + delta * c.weight
      sumFactored := r.sumFactored + delta * c.weight * c.factor x delta r.tally.meter
      sumInterval := r.sumInterval + (if 0 < delta then x.interval else 0) } } := by
  have sum : (if 0 < delta then r.sumInterval + x.interval else r.sumInterval) =
      r.sumInterval + (if 0 < delta then x.interval else 0) := by split <;> rfl
  simp only [HoseMode.counted, HoseMode.modTally, HoseMode.addSums, run, Option.map_some, ProvingRun.addSums, sum]

/-- Settles O28: the tally is counted, the hand-off books the net, and the uncoupled flow is read by its three cases. -/
theorem aCountedSampleMovesFillAndBookAlike : Obligations.ACountedSampleMovesFillAndBookAlike := by
  intro h x c delta p ok q used rate work coupled sum raises trips booked
  refine ⟨fun ph txn m => ?_, fun ses r m run => ?_⟩
  · intro w
    have q_eq : q = addUncoupled h w.net (p.dispensed h
        (.fill ph { txn with tally := txn.tally.count w x.temp used }) c.tank w.net) := by
      have opened := countSample_open ok (t := txn.tally) (by rw [m]; rfl) x delta
      rw [m] at opened
      exact opened
    have books := sample_booked p h (.fill ph { txn with tally := txn.tally.count w x.temp used }) c.tank w.net
    rw [← q_eq] at books
    refine ⟨?_, books, fun t => ?_⟩
    · obtain ⟨ph', t', mode, kept⟩ : ∃ ph' t', (q.hose h).mode = .fill ph' t' ∧
          (t' = { txn with tally := txn.tally.count w x.temp used } ∨
            t' = ({ txn with tally := txn.tally.count w x.temp used } : Transaction).shut ∨
            t' = ({ txn with tally := txn.tally.count w x.temp used } : Transaction).shut.shut) := by
        rw [q_eq]
        obtain e | ⟨ph₁, t₁, cc, ee, same, e⟩ :=
          dispensed_mode p h (.fill ph { txn with tally := txn.tally.count w x.temp used }) c.tank w.net
        · obtain ⟨⟨ph', t', mode, kept⟩, -⟩ := addUncoupled_fill h w.net _ e
          exact ⟨ph', t', mode, kept.imp_right .inl⟩
        · cases same
          obtain ⟨⟨ph', t', mode, kept⟩, -⟩ := addUncoupled_fill h w.net _ e
          exact ⟨ph', t', mode, .inr kept⟩
      refine ⟨ph', t', mode, ?_⟩
      rcases kept with rfl | rfl | rfl <;> simp only [Transaction.shut, count_fields, and_self]
    · have flow := (dispensed_flowTrips p h (.fill ph { txn with tally := txn.tally.count w x.temp used }) c.tank w.net).2 t
      rw [q_eq]
      obtain e | ⟨ph₁, t₁, cc, ee, same, e⟩ :=
        dispensed_mode p h (.fill ph { txn with tally := txn.tally.count w x.temp used }) c.tank w.net
      · exact (addUncoupled_fill h w.net _ e).2 flow
      · exact (addUncoupled_fill h w.net _ e).2 flow
  · intro w worked
    have counted : r.tally.count w x.temp used = worked := count_fields ..
    have q_eq : q = addUncoupled h w.net (p.dispensed h ((HoseMode.proving ses).counted c x delta r.tally) c.tank w.net) := by
      have tally : (p.hose h).mode.tally = some r.tally := by simp [m, HoseMode.tally, run]
      have opened := countSample_open ok tally x delta
      rw [m] at opened
      exact opened
    have mode : ((p.dispensed h ((HoseMode.proving ses).counted c x delta r.tally) c.tank w.net).hose h).mode =
        (HoseMode.proving ses).counted c x delta r.tally := by
      obtain e | ⟨ph₁, t₁, cc, ee, same, -⟩ :=
        dispensed_mode p h ((HoseMode.proving ses).counted c x delta r.tally) c.tank w.net
      · exact e
      · rw [counted_run run] at same; cases same
    have books := sample_booked p h ((HoseMode.proving ses).counted c x delta r.tally) c.tank w.net
    rw [← q_eq] at books
    refine ⟨fun quiet => ?_, fun t => ?_, books⟩
    · rw [q_eq, addUncoupled_mode_kept _ _ _ fun flow => quiet ((dispensed_flowTrips ..).1 flow), mode, counted_run run,
        ← counted]
      rfl
    · obtain ⟨curve, prod, ended⟩ := addUncoupled_run h w.net _ (mode.trans (counted_run run c x delta)) rfl
        ((dispensed_flowTrips ..).2 t)
      rw [q_eq]
      exact ⟨_, rfl, congrArg Tally.gross counted, congrArg Tally.net counted, congrArg Tally.lastTemp counted,
        congrArg Tally.flags counted, congrArg Tally.jumps counted, rfl, ended⟩

end Sys2Proof.Machine
end

section
/-! METER samples (R23, R29 to R35, R41 to R43): the baseline, doubt, jumps, and flow with nothing open. -/

namespace Sys2Proof.Machine

open Sys2Proof

theorem readSample_short {d : List Byte} (short : d.length < 7) : readSample d = none := by
  unfold readSample
  split
  · simp at short; omega
  · rfl

theorem readSample_cons (c0 c1 i0 i1 t0 t1 st : Byte) (rest : List Byte) :
    readSample (c0 :: c1 :: i0 :: i1 :: t0 :: t1 :: st :: rest) = some
      { count := (join16 c0 c1).toNat, interval := (join16 i0 i1).toNat, temp := (join16 t0 t1).toInt
        fault := st.getLsbD 0 } := rfl

/-! ## What a sample starts with -/

/-- The mark of doubt, where there is cause for it, and the new baseline. -/
def startSample (h : HoseNo) (count : Nat) (doubt : Bool) (p : Part) : Part :=
  modHose h (fun x => { x with baseline := some count }) (if doubt then markDoubt h p else p)

theorem takeSample_unworked {h : HoseNo} {p : Part} (x : Sample) (doubtful : Bool)
    (not : (p.hose h).baseline = none ∨ p.meterContext h = none) :
    takeSample h x doubtful p = afterSample h false (startSample h x.count (x.fault || doubtful) p) := by
  unfold takeSample
  rcases not with e | e <;> rw [e]
  · rfl
  · cases (p.hose h).baseline <;> rfl

theorem takeSample_jump {h : HoseNo} {p : Part} {x : Sample} {base : Nat} {c : MeterContext} (doubtful : Bool)
    (hb : (p.hose h).baseline = some base) (hc : p.meterContext h = some c) (above : c.ceiling < deltaOf base x.count) :
    takeSample h x doubtful p =
      afterSample h false (countJump h (startSample h x.count (x.fault || doubtful) p)) := by
  unfold takeSample; rw [hb, hc]; exact if_pos above

theorem takeSample_counted {h : HoseNo} {p : Part} {x : Sample} {base : Nat} {c : MeterContext} (doubtful : Bool)
    (hb : (p.hose h).baseline = some base) (hc : p.meterContext h = some c) (within : deltaOf base x.count ≤ c.ceiling) :
    takeSample h x doubtful p = afterSample h (decide (0 < deltaOf base x.count))
      (countSample h x c (deltaOf base x.count) (startSample h x.count (x.fault || doubtful) p)) := by
  unfold takeSample; rw [hb, hc]; exact if_neg (by omega)

/-! ## The context of a meter -/

theorem meterContext_noTank {p : Part} {h : HoseNo} (noTank : (p.hose h).cfg.tank = none) : p.meterContext h = none := by
  unfold Part.meterContext; simp only [noTank]

theorem meterContext_unfit {p : Part} {h : HoseNo} {k : TankNo} (tank : (p.hose h).cfg.tank = some k)
    (unfit : p.tankProduct k = none ∨ (∃ i prod, p.tankProduct k = some (i, prod) ∧ prod.cls = .none) ∨
      (p.hose h).cfg.pulseWeight = 0 ∨ (p.hose h).cfg.pointCount = 0) : p.meterContext h = none := by
  unfold Part.meterContext
  simp only [tank]
  cases held : p.tankProduct k with
  | none => rfl
  | some pair =>
    obtain ⟨i, prod⟩ := pair
    refine if_pos ?_
    simp only [Bool.or_eq_true, decide_eq_true_eq]
    rcases unfit with noProduct | ⟨i', prod', e, cls⟩ | weight | points
    · rw [noProduct] at held; cases held
    · rw [e] at held; cases held; exact .inl (.inl cls)
    · exact .inl (.inr weight)
    · exact .inr points

theorem meterContext_fit {p : Part} {h : HoseNo} {k : TankNo} {i : ProductNo} {prod : Product}
    (tank : (p.hose h).cfg.tank = some k) (held : p.tankProduct k = some (i, prod)) (cls : prod.cls ≠ .none)
    (weight : 0 < (p.hose h).cfg.pulseWeight) (points : 0 < (p.hose h).cfg.pointCount) : p.meterContext h = some
      { tank := k, product := prod, weight := (p.hose h).cfg.pulseWeight, ceiling := (p.hose h).cfg.pulseCeiling
        curve := (p.hose h).cfg.curve } := by
  unfold Part.meterContext
  simp only [tank, held]
  exact if_neg (by simp [cls]; omega)

/-- A curve that passes R4's checks has points. -/
theorem pointCount_pos {c : HoseConfig} (ok : curveOk c.curve = true) : 0 < c.pointCount := by
  rcases Nat.eq_zero_or_pos c.pointCount with zero | pos
  · have : c.curve = [] := by unfold HoseConfig.curve; rw [zero]; rfl
    rw [this] at ok; cases ok
  · exact pos

theorem meterContext_congr {p q : Part} {h : HoseNo} (hose : q.hose h = p.hose h) (tanks : ∀ k, q.tank k = p.tank k)
    (products : ∀ i, q.product i = p.product i) : q.meterContext h = p.meterContext h := by
  have held (k : TankNo) : q.tankProduct k = p.tankProduct k := by unfold Part.tankProduct; simp only [tanks, products]
  unfold Part.meterContext; simp only [hose, held]

/-! ## Doubt and jumps (R33, R34) -/

theorem markDoubt_eq (h : HoseNo) (p : Part) : markDoubt h p = modHose h (fun x => { x with
    mode := x.mode.modTally fun y => { y with flags := { y.flags with meterDoubt := true } } }) p := rfl

/-- The hose with one more jump in its total, and in its fill or run. -/
def Hose.jumped (x : Hose) : Hose :=
  { x with jumpTotal := min 65535 (x.jumpTotal + 1)
           mode := x.mode.modTally fun y => { y with jumps := min 255 (y.jumps + 1) } }

/-- A jump counted, before it can end anything. -/
def jumpCounted (h : HoseNo) (p : Part) : Part := raise .meterJump (modHose h Hose.jumped p)

theorem countJump_eq (h : HoseNo) (p : Part) : countJump h p =
    match (p.hose h).mode.tally with
    | some t => if min 255 (t.jumps + 1) = 3 then endRequest h .meterFault (jumpCounted h p) else jumpCounted h p
    | none => jumpCounted h p := by
  have counted : raise .meterJump (modTally h (fun t => { t with jumps := satAdd 255 t.jumps 1 })
      (modHose h (fun x => { x with jumpTotal := satAdd max16 x.jumpTotal 1 }) p)) = jumpCounted h p := by
    unfold modTally jumpCounted; rw [modHose_modHose]; rfl
  have tally : ((jumpCounted h p).hose h).mode.tally =
      (p.hose h).mode.tally.map fun y => { y with jumps := min 255 (y.jumps + 1) } := by
    unfold jumpCounted; rw [raise_hose, modHose_hose_same]; simp only [Hose.jumped, HoseMode.modTally_tally]
  unfold countJump
  dsimp only
  rw [counted, tally]
  cases (p.hose h).mode.tally <;> rfl

theorem countJump_quiet {h : HoseNo} {p : Part} (quiet : ∀ t, (p.hose h).mode.tally = some t → t.jumps ≠ 2) :
    countJump h p = jumpCounted h p := by
  rw [countJump_eq]
  cases tally : (p.hose h).mode.tally with
  | none => rfl
  | some t => have := quiet t tally; exact if_neg (by omega)

theorem countJump_third {h : HoseNo} {p : Part} {t : Tally} (tally : (p.hose h).mode.tally = some t) (third : t.jumps = 2) :
    countJump h p = endRequest h .meterFault (jumpCounted h p) := by
  rw [countJump_eq, tally]; exact if_pos (by rw [third]; rfl)

/-! ## Flow with nothing open (R23) -/

/-- A trip leaves a hose with nothing open as it is. -/
theorem addUncoupled_mode_idle {h : HoseNo} {p : Part} (idle : (p.hose h).mode.tally = none) (ml : Nat) :
    ((addUncoupled h ml p).hose h).mode = (p.hose h).mode := by
  by_cases trips : p.flowTrips h ml
  · obtain ⟨z, own, new, e⟩ := addUncoupled_trips h ml p trips
    obtain ⟨before, same, -, hose⟩ := tripSource_hose_member (p := modHose h (fun x => x.uncoupledBy ml true) p) new
      .uncoupledFlow ((modHose_hoseZone h p _ rfl).trans own)
    have mode : (before.hose h).mode = (p.hose h).mode := by rw [same, modHose_hose_same]; rfl
    rw [e, hose, endRequest_of_none (by rw [mode]; exact idle), mode]
  · exact addUncoupled_mode_kept h ml p trips

theorem handOff_mode_idle {h : HoseNo} {p : Part} (idle : (p.hose h).mode.tally = none) (k : TankNo) (a : Account)
    (ml : Nat) : ((handOff k a ml p).hose h).mode = (p.hose h).mode := by
  obtain e | ⟨ph, t, c, s, m, -⟩ := handOff_hose k a ml p h
  · rw [e]
  · rw [m] at idle; cases idle

/-- The hose after stray flow: the set it was worked in, and the total. -/
def Hose.strayed (w : Worked) (x : Hose) : Hose := { x with straySet := w.meter, stray := min 4294967295 (x.stray + w.net) }

theorem countSample_stray {h : HoseNo} {c : MeterContext} {p : Part} (ok : curveOk c.curve = true)
    (idle : (p.hose h).mode.tally = none) (x : Sample) (delta : Nat) :
    let w := c.work x delta (p.hose h).straySet
    countSample h x c delta p = addUncoupled h w.net (handOff c.tank .stray w.net (modHose h (Hose.strayed w) p)) := by
  have set : (p.hose h).meterSet = (p.hose h).straySet := by unfold Hose.meterSet; rw [idle]
  unfold countSample
  simp only [idle, set, sampleFactor, ok, if_true]
  rfl

/-- With nothing open a sample is worked in the stray set, and no step after it does anything. -/
theorem takeSample_stray {h : HoseNo} {p : Part} {x : Sample} {base : Nat} {c : MeterContext} (doubtful : Bool)
    (hb : (p.hose h).baseline = some base) (hc : p.meterContext h = some c) (within : deltaOf base x.count ≤ c.ceiling)
    (ok : curveOk c.curve = true) (idle : (p.hose h).mode.tally = none) :
    let w := c.work x (deltaOf base x.count) (p.hose h).straySet
    takeSample h x doubtful p = addUncoupled h w.net (handOff c.tank .stray w.net
      (modHose h (fun y => { y with baseline := some x.count, straySet := w.meter
                                    stray := min 4294967295 (y.stray + w.net) }) p)) := by
  intro w
  have start : startSample h x.count (x.fault || doubtful) p = modHose h (fun y => { y with baseline := some x.count }) p := by
    unfold startSample
    split
    · unfold markDoubt; rw [modTally_of_none idle]
    · rfl
  have idle' : ((modHose h (fun y => { y with baseline := some x.count }) p).hose h).mode.tally = none := by
    rw [modHose_hose_same]; exact idle
  have set : ((modHose h (fun y => { y with baseline := some x.count }) p).hose h).straySet = (p.hose h).straySet := by
    rw [modHose_hose_same]
  have counted := countSample_stray ok idle' x (deltaOf base x.count)
  dsimp only at counted
  rw [set, modHose_modHose] at counted
  rw [takeSample_counted doubtful hb hc within, start, counted]
  refine afterSample_idle ?_ _
  have mode : ((modHose h (fun y => ({ y with baseline := some x.count } : Hose).strayed w) p).hose h).mode.tally = none := by
    rw [modHose_hose_same]; exact idle
  rw [addUncoupled_mode_idle (by rw [handOff_mode_idle mode]; exact mode), handOff_mode_idle mode]
  exact mode

/-! ## The obligation -/

@[simp] theorem heard_product (p : Part) (n : DevNo) (kind : Byte) (i : ProductNo) :
    (p.heard n kind).product i = p.product i := by
  have : (p.heard n kind).products = p.products := by unfold Part.heard; simp
  unfold Part.product; rw [this]
@[simp] theorem heard_meterContext (p : Part) (n : DevNo) (kind : Byte) (h : HoseNo) :
    (p.heard n kind).meterContext h = p.meterContext h := meterContext_congr (by simp) (by simp) (by simp)

/-- The outcome of a METER of a hose's meter that is not LOST, once its sample's effect is known. -/
theorem meter_told {head : Header} {n : DevNo} {h : HoseNo} {payload : List Byte} {x : Sample} {s : State}
    {f : Part → Part} (hn : deviceOf head.src = some n) (hears : s.Hears n (.meter h))
    (found : (s.device n).heardHealth ≠ .lost) (read : readSample payload = some x)
    (effect : ∀ p : Part, p.hose h = s.hose h → p.meterContext h = s.meterContext h →
      takeSample h x (decide ((s.device n).heardHealth = .doubtful)) p = f p) :
    exec (.meterSample head payload) s = .next (s.told head 0x10 payload n f) := by
  refine outcome_told hn hears rfl ?_
  rw [handTelegram_meter _ (by rw [heard_binding, hears.1]), heard_health, if_neg found]
  unfold takeMeter
  rw [read]
  exact effect _ (heard_hose ..) (heard_meterContext ..)

theorem jump_of_fill {h : HoseNo} {p : Part} {ph : Phase} {txn : Transaction} (m : (p.hose h).mode = .fill ph txn) :
    let kept : Transaction := { txn with tally := { txn.tally with jumps := min 255 (txn.tally.jumps + 1) } }
    let q := raise .meterJump
      (modHose h (fun x => { x with jumpTotal := min 65535 ((p.hose h).jumpTotal + 1), mode := .fill ph kept }) p)
    (txn.tally.jumps ≠ 2 ∨ (p.hose h).mode.isClosing = true → countJump h p = q) ∧
    (txn.tally.jumps = 2 → (p.hose h).mode.isClosing = false → countJump h p = enterClosing h .meterFault kept q) := by
  intro kept q
  have tally : (p.hose h).mode.tally = some txn.tally := by rw [m]; rfl
  have q_eq : jumpCounted h p = q :=
    congrArg (raise .meterJump) (modHose_congr (by simp only [Hose.jumped, m, HoseMode.modTally]; rfl))
  have mode : (q.hose h).mode = .fill ph kept := by simp only [q, raise_hose, modHose_hose_same]
  have closing : (q.hose h).mode.isClosing = (p.hose h).mode.isClosing := by rw [mode, m]; cases ph <;> rfl
  refine ⟨fun quiet => ?_, fun third going => ?_⟩
  · by_cases third : txn.tally.jumps = 2
    · rw [countJump_third tally third, q_eq,
        endRequest_of_closing (closing.trans (quiet.resolve_left (not_not.2 third))), if_neg (by decide)]
    · rw [countJump_quiet fun t e => by rw [tally] at e; cases e; exact third, q_eq]
  · rw [countJump_third tally third, q_eq, endRequest_of_fill mode (closing.trans going)]

theorem jump_of_run {h : HoseNo} {p : Part} {ses : Session} {r : ProvingRun} (m : (p.hose h).mode = .proving ses)
    (run : ses.run = some r) :
    let kept : ProvingRun := { r with tally := { r.tally with jumps := min 255 (r.tally.jumps + 1) } }
    let q := raise .meterJump (modHose h (fun x => { x with
      jumpTotal := min 65535 ((p.hose h).jumpTotal + 1), mode := .proving { ses with run := some kept } }) p)
    (r.tally.jumps ≠ 2 → countJump h p = q) ∧
    (r.tally.jumps = 2 → countJump h p = endRun h .meterFault { ses with run := some kept } kept q) := by
  intro kept q
  have tally : (p.hose h).mode.tally = some r.tally := by simp [m, HoseMode.tally, run]
  have q_eq : jumpCounted h p = q := congrArg (raise .meterJump)
    (modHose_congr (by simp only [Hose.jumped, m, HoseMode.modTally, run, Option.map_some]; rfl))
  have mode : (q.hose h).mode = .proving { ses with run := some kept } := by simp only [q, raise_hose, modHose_hose_same]
  refine ⟨fun quiet => ?_, fun third => ?_⟩
  · rw [countJump_quiet fun t e => by rw [tally] at e; cases e; exact quiet, q_eq]
  · rw [countJump_third tally third, q_eq, endRequest_of_run mode rfl, if_pos (by decide)]

theorem markDoubt_run {h : HoseNo} {p : Part} {ses : Session} {r : ProvingRun} (m : (p.hose h).mode = .proving ses)
    (run : ses.run = some r) : markDoubt h p = modHose h (fun x => { x with mode := .proving { ses with
      run := some { r with tally := { r.tally with flags := { r.tally.flags with meterDoubt := true } } } } }) p := by
  rw [markDoubt_eq]
  refine modHose_congr ?_
  simp only [m, HoseMode.modTally, run, Option.map_some]

/-- Settles O26: a METER is taken by its health and its length, and a sample by its baseline, context and delta. -/
theorem baselineSamplesAndStrayFlowAreWorked : Obligations.BaselineSamplesAndStrayFlowAreWorked := by
  refine ⟨fun head n h payload s hn hears lost => ?_, fun head n h payload s hn hears short => ?_,
    fun head n h c0 c1 i0 i1 t0 t1 st rest s hn hears found => ?_, fun h p => ?_, fun h p => ?_,
    fun head n h c0 c1 i0 i1 t0 t1 st rest s base k i prod hn hears found hb idle tank held cls weight ok => ?_⟩
  · refine outcome_told hn hears rfl ?_
    rw [handTelegram_meter _ (by rw [heard_binding, hears.1]), heard_health, if_pos lost]; rfl
  · refine outcome_told hn hears rfl ?_
    rw [handTelegram_meter _ (by rw [heard_binding, hears.1])]
    unfold takeMeter
    rw [readSample_short short]
    split <;> rfl
  · have read := readSample_cons c0 c1 i0 i1 t0 t1 st rest
    refine ⟨fun not => meter_told hn hears found read fun p hose context => ?_, fun base c hb hc =>
      ⟨fun above => meter_told hn hears found read fun p hose context => ?_,
        fun within => meter_told hn hears found read fun p hose context => ?_⟩⟩
    · exact takeSample_unworked _ _ (by rw [hose, context]; exact not)
    · exact takeSample_jump _ (by rw [hose]; exact hb) (by rw [context]; exact hc) above
    · exact takeSample_counted _ (by rw [hose]; exact hb) (by rw [context]; exact hc) within
  · exact ⟨fun noTank => meterContext_noTank (Option.eq_none_iff_forall_ne_some.2 noTank), fun k tank =>
      ⟨meterContext_unfit tank, fun i prod held cls weight points => meterContext_fit tank held cls weight points⟩⟩
  · refine ⟨fun idle => ⟨modTally_of_none idle _, ?_⟩, fun ph txn m => ?_, fun ses r m run => ?_⟩
    · rw [countJump_quiet fun t e => by rw [idle] at e; cases e]
      refine congrArg (raise .meterJump) (modHose_congr ?_)
      simp only [Hose.jumped]
      rw [HoseMode.modTally_eq_self fun t e => by rw [idle] at e; cases e]
    · exact ⟨by rw [markDoubt_eq]; exact modHose_congr (by simp only [m, HoseMode.modTally]), jump_of_fill m⟩
    · exact ⟨markDoubt_run m run, jump_of_run m run⟩
  · intro x payload count delta interval own temp rate w within
    have read := readSample_cons c0 c1 i0 i1 t0 t1 st rest
    refine meter_told hn hears found read fun p hose context => ?_
    have fit := meterContext_fit tank held cls weight (pointCount_pos ok)
    let sample : Sample := { count := count, interval := interval, temp := own, fault := st.getLsbD 0 }
    have worked := takeSample_stray (x := sample) (decide ((s.device n).heardHealth = .doubtful)) (by rw [hose]; exact hb)
      (context.trans fit) within ok (by rw [hose]; exact idle)
    rw [hose] at worked
    have temp_eq : usedTemp own prod.fallback = temp := by
      unfold usedTemp tempValid; simp only [temp, Bool.and_eq_true, decide_eq_true_eq]
    let meter : MeterContext :=
      { tank := k, product := prod, weight := x.cfg.pulseWeight, ceiling := x.cfg.pulseCeiling, curve := x.cfg.curve }
    have w_eq : meter.work sample delta x.straySet = w := by
      simp only [MeterContext.work, sample, meter, temp_eq]; rfl
    exact worked.trans (by rw [← w_eq]; rfl)

end Sys2Proof.Machine
end

section
/-! An authorization (R7 to R9): its checks in their order, the refusal, and the opening that ends it. -/

namespace Sys2Proof.Machine

open Sys2Proof

/-! ## The first entry of a table that satisfies a test -/

theorem firstAt_some {α : Type} {t : α → Bool} {l : List α} {k i : Nat} (e : firstAt t l k = some i) :
    ∃ j a, i = k + j ∧ l[j]? = some a ∧ t a = true := by
  induction l generalizing k with
  | nil => cases e
  | cons a rest ih =>
    unfold firstAt at e
    split at e
    · cases e
      exact ⟨0, a, rfl, rfl, ‹_›⟩
    · obtain ⟨j, b, rfl, at_, hb⟩ := ih e
      exact ⟨j + 1, b, by omega, at_, hb⟩

theorem firstAt_none {α : Type} {t : α → Bool} {l : List α} (no : ∀ a ∈ l, t a = false) (k : Nat) :
    firstAt t l k = none := by
  induction l generalizing k with
  | nil => rfl
  | cons a rest ih =>
    unfold firstAt
    rw [if_neg (by simp [no a (.head _)])]
    exact ih (fun b hb => no b (.tail _ hb)) _

theorem firstIdx_some {α : Type} {n : Nat} {t : α → Bool} {v : Vector α n} {i : Fin n} (e : firstIdx t v = some i) :
    t (nth v i) = true := by
  unfold firstIdx at e
  split at e
  · rename_i k found
    split at e
    · rename_i lt
      cases e
      obtain ⟨j, a, rfl, at_, ha⟩ := firstAt_some found
      have : nth v ⟨0 + j, lt⟩ = a := by
        rw [List.getElem?_eq_some_iff] at at_
        obtain ⟨_, rfl⟩ := at_
        simp [nth]
      rw [this]; exact ha
    · cases e
  · cases e

theorem firstIdx_none {α : Type} {n : Nat} {t : α → Bool} {v : Vector α n} (no : ∀ i, t (nth v i) = false) :
    firstIdx t v = none := by
  have : firstAt t v.toList 0 = none := firstAt_none (fun a ha => by
    obtain ⟨i, lt, rfl⟩ := List.getElem_of_mem ha
    simpa [nth] using no ⟨i, by simpa using lt⟩) 0
  unfold firstIdx; rw [this]

/-- The tag found is the machine's (R46). -/
theorem findTag_tag {p : Part} {tag : Long} {m : SlotNo} (found : p.findTag tag = some m) :
    (p.machine m).tag = tag := by
  unfold Part.findTag at found
  split at found
  · cases found
  · exact beq_iff_eq.1 (firstIdx_some found)

theorem findTag_unknown {p : Part} {tag : Long} (no : tag = 0 ∨ ∀ m, (p.machine m).tag ≠ tag) :
    p.findTag tag = none := by
  unfold Part.findTag
  split
  · rfl
  · rename_i nonzero
    exact firstIdx_none fun m => by simpa [Part.machine] using (no.resolve_left nonzero) m

/-! ## The checks in their order -/

theorem firstFailure_cons (b : Bool) (cause : RefusalCause) (rest : List (Bool × RefusalCause)) :
    firstFailure ((b, cause) :: rest) = if b then firstFailure rest else some cause := by
  cases b <;> rfl

theorem firstFailure_nil : firstFailure [] = none := rfl

section authorize
variable {h : HoseNo} {r : TagReading} {p : Part}

theorem authorize_hoseFails {cause : RefusalCause} (fails : firstFailure (hoseChecks h p) = some cause) :
    authorize h r p = refuseFill h cause r.tag none r.hours {} p := by unfold authorize; simp only [fails]

theorem authorize_unknown (passed : firstFailure (hoseChecks h p) = none) (unknown : p.findTag r.tag = none) :
    authorize h r p = refuseFill h .unknownTag r.tag none r.hours {} p := by unfold authorize; simp only [passed, unknown]

theorem authorize_machineFails {m : SlotNo} {cause : RefusalCause} (passed : firstFailure (hoseChecks h p) = none)
    (found : p.findTag r.tag = some m) (fails : firstFailure (machineChecks h (p.machine m) p) = some cause) :
    authorize h r p = refuseFill h cause r.tag (some m) r.hours {} p := by
  unfold authorize; simp only [passed, found, fails]

/-- Checks 11 to 13, once those before them passed. -/
theorem authorize_passed {m : SlotNo} {k : TankNo} {i : ProductNo} (passed : firstFailure (hoseChecks h p) = none)
    (found : p.findTag r.tag = some m) (machine : firstFailure (machineChecks h (p.machine m) p) = none)
    (tank : (p.hose h).cfg.tank = some k) (product : (p.tank k).cfg.product = some i) : authorize h r p =
      let q := holdEvaluation m (p.product i).cls r.hours p
      if (p.product i).cls == .lube && (q.machine m).hold then refuseFill h .serviceHold r.tag (some m) r.hours {} q
      else if !q.canReserve 1 then refuseFill h .queueFull r.tag (some m) r.hours {} q
      else capCheck h r m k i q := by
  unfold authorize; simp only [passed, found, machine, tank, Part.tankProduct, product, Option.map_some]

/-- The machine's four checks, once its hose's tank has a product. -/
theorem machineChecks_of_product {m : MachineRec} {k : TankNo} {i : ProductNo} (tank : (p.hose h).cfg.tank = some k)
    (product : (p.tank k).cfg.product = some i) : firstFailure (machineChecks h m p) =
      if m.state = .opened then if m.openHose = none then if 0 < nth m.allowances i then
        if p.current.allows (p.product i).cls then none else some .profileClass
        else some .productNotAllowed else some .machineBusy else some .barred := by
  simp [machineChecks, firstFailure_cons, firstFailure_nil, tank, Part.tankProduct, product, Part.hoseProduct]

end authorize

theorem canReserve_one (p : Part) : p.canReserve 1 = true ↔ p.records.length + p.reserved < 64 := by
  simp [Part.canReserve, Part.occupied, Config.recordPlaces]

/-! ## The service hold (R53) -/

theorem hoursSinceService_iff (x : MachineRec) (hours : Option Nat) (used : Nat) :
    x.hoursSinceService hours = some used ↔ ∃ now at_, hours = some now ∧ x.trusts hours = true ∧
      x.hoursAtService = some at_ ∧ x.serviceInterval ≠ 0 ∧ now - at_ = used := by
  unfold MachineRec.hoursSinceService
  rcases hours with _ | now <;> rcases x.hoursAtService with _ | at_ <;> simp [and_assoc]

theorem serviceDue_iff (x : MachineRec) (hours : Option Nat) : x.serviceDue hours = true ↔
    ∃ now at_, hours = some now ∧ x.trusts hours = true ∧ x.hoursAtService = some at_ ∧ x.serviceInterval ≠ 0 ∧
      x.serviceInterval * 10 ≤ now - at_ := by
  have met : x.serviceDue hours = true ↔ ∃ used, x.hoursSinceService hours = some used ∧ x.serviceInterval * 10 ≤ used := by
    unfold MachineRec.serviceDue; cases x.hoursSinceService hours <;> simp
  rw [met]
  constructor
  · rintro ⟨used, e, le⟩
    obtain ⟨now, at_, a, b, c, d, rfl⟩ := (hoursSinceService_iff ..).1 e
    exact ⟨now, at_, a, b, c, d, le⟩
  · rintro ⟨now, at_, a, b, c, d, le⟩
    exact ⟨_, (hoursSinceService_iff ..).2 ⟨now, at_, a, b, c, d, rfl⟩, le⟩

theorem hoursTestMet_iff (x : MachineRec) (hours : Option Nat) : x.hoursTestMet hours = true ↔
    ∃ now at_, hours = some now ∧ x.trusts hours = true ∧ x.hoursAtService = some at_ ∧ x.serviceInterval ≠ 0 ∧
      x.serviceInterval * 1250 ≤ (now - at_) * 100 := by
  have met : x.hoursTestMet hours = true ↔
      ∃ used, x.hoursSinceService hours = some used ∧ x.serviceInterval * 1250 ≤ used * 100 := by
    unfold MachineRec.hoursTestMet; cases x.hoursSinceService hours <;> simp
  rw [met]
  constructor
  · rintro ⟨used, e, le⟩
    obtain ⟨now, at_, a, b, c, d, rfl⟩ := (hoursSinceService_iff ..).1 e
    exact ⟨now, at_, a, b, c, d, le⟩
  · rintro ⟨now, at_, a, b, c, d, le⟩
    exact ⟨_, (hoursSinceService_iff ..).2 ⟨now, at_, a, b, c, d, rfl⟩, le⟩

theorem lubeTestMet_iff (x : MachineRec) : x.lubeTestMet = true ↔ x.lubeLimit ≠ 0 ∧ x.lubeLimit ≤ x.lubeSinceService := by
  simp [MachineRec.lubeTestMet]

/-- A hold stays on a reading that is not trusted: no test needs the hours then but the lube one. -/
theorem evaluatedHold_iff (x : MachineRec) (hours : Option Nat) : x.evaluatedHold hours = true ↔
    x.hoursTestMet hours = true ∨ x.lubeTestMet = true ∨ x.trusts hours = false ∧ x.hold = true := by
  unfold MachineRec.evaluatedHold
  cases x.hoursTestMet hours <;> cases x.lubeTestMet <;> cases x.trusts hours <;> simp

theorem holdEvaluation_lube (m : SlotNo) (hours : Option Nat) (p : Part) : holdEvaluation m .lube hours p =
    let q := modMachine m (fun y => { y with hold := (p.machine m).evaluatedHold hours }) p
    if (p.machine m).serviceDue hours then raise .serviceDue q else q := by rfl

theorem holdEvaluation_other {m : SlotNo} {cls : ProductClass} (no : cls ≠ .lube) (hours : Option Nat) (p : Part) :
    holdEvaluation m cls hours p = p := by unfold holdEvaluation; rw [if_neg no]

theorem holdEvaluation_hold (m : SlotNo) (hours : Option Nat) (p : Part) :
    ((holdEvaluation m .lube hours p).machine m).hold = (p.machine m).evaluatedHold hours := by
  rw [holdEvaluation_lube]; dsimp only; split <;> simp

/-! ## The refusal (R9) -/

section refuseFill
variable (h : HoseNo) (cause : RefusalCause) (tag : Long) (slot : Option SlotNo) (hours : Option Nat) (flags : Flags)
  (p : Part)

theorem refuseFill_free (free : p.records.length + p.reserved < 64) : refuseFill h cause tag slot hours flags p =
    placeRecord (refusalRecord h cause tag slot hours flags p) (sendAll (p.lampTo h lampRefused) p) := by
  unfold refuseFill
  rw [sendLamp_eq]
  dsimp only
  rw [if_pos ((canReserve_one (sendAll _ p)).2 free)]
  rfl

theorem refuseFill_full (full : 64 ≤ p.records.length + p.reserved) : refuseFill h cause tag slot hours flags p =
    sendAll (p.lampTo h lampRefused) (modHose h (fun x => { x with
      refusals := setNth x.refusals cause.index (satAdd max16 (nth x.refusals cause.index) 1) }) p) := by
  unfold refuseFill
  rw [sendLamp_eq]
  dsimp only
  rw [if_neg (fun can => Nat.not_lt.2 full ((canReserve_one (sendAll _ p)).1 can))]
  rfl

theorem refuseFill_fp : (refuseFill h cause tag slot hours flags p).fp =
    (p.lampTo h lampRefused).foldl (fun x u => x.queueOrder u) p.fp := by
  rcases Nat.lt_or_ge (p.records.length + p.reserved) 64 with free | full
  · rw [refuseFill_free (free := free), placeRecord_fp]; rfl
  · rw [refuseFill_full (full := full)]; rfl

/-- A refusal changes nothing but the record queue or its hose's counter, and the field port. -/
theorem refuseFill_keeps : let q := refuseFill h cause tag slot hours flags p
    (∀ j, j ≠ h → q.hose j = p.hose j) ∧ q.machines = p.machines ∧ q.pumps = p.pumps ∧ q.tanks = p.tanks ∧
      q.reserved = p.reserved ∧ q.zones = p.zones := by
  rcases Nat.lt_or_ge (p.records.length + p.reserved) 64 with free | full
  · rw [refuseFill_free (free := free)]
    refine ⟨fun j _ => placeRecord_hose _ _ j, ?_, ?_, ?_, ?_, ?_⟩ <;> simp <;> rfl
  · rw [refuseFill_full (full := full)]
    exact ⟨fun j ne => (sendAll_hose ..).trans ((modHose_hose h j _ p).trans (if_neg ne.symm)), rfl, rfl, rfl, rfl, rfl⟩

end refuseFill

/-- LAMP refused goes to the hose's reader unless the hose's zone is TRIPPED (R10). -/
theorem lampTo_of_notTripped {p : Part} {h : HoseNo} {lamp : Byte} (ne : lamp ≠ lampTrip) (free : p.hoseTripped h = false) :
    p.lampTo h lamp = p.orderTo kindLamp (.reader h) lamp := by
  unfold Part.lampTo; rw [if_neg ne, if_neg (by simp [free])]

theorem lampTo_of_tripped {p : Part} {h : HoseNo} {lamp : Byte} (ne : lamp ≠ lampTrip) (tripped : p.hoseTripped h = true) :
    p.lampTo h lamp = [] := by
  unfold Part.lampTo; rw [if_neg ne, if_pos tripped]

theorem hoseProductNo_eq (p : Part) (h : HoseNo) : p.hoseProductNo h =
    numberOf ((p.hose h).cfg.tank.bind fun k => (p.tank k).cfg.product) := by
  unfold Part.hoseProductNo; cases (p.hose h).cfg.tank <;> rfl

end Sys2Proof.Machine
end

section
/-! COUPLED edges (R7 to R9, R50 to R56, R180): refused, opening a fill, or beginning a proving run. -/

namespace Sys2Proof.Machine

open Sys2Proof

/-! ## Checks 1 to 5 -/

section hoseChecks
variable {h : HoseNo} {p : Part}

theorem hoseChecks_out (out : (p.hose h).mode = .out) : firstFailure (hoseChecks h p) = some .hoseOut := by
  simp [hoseChecks, firstFailure_cons, out]

theorem hoseChecks_layUp (idle : (p.hose h).mode = .idle) (layUp : p.bayMode = .layUp) :
    firstFailure (hoseChecks h p) = some .bayLayup := by
  simp [hoseChecks, firstFailure_cons, idle, layUp]

theorem hoseChecks_tripped (idle : (p.hose h).mode = .idle) (run : p.bayMode = .run) (tripped : p.hoseTripped h = true) :
    firstFailure (hoseChecks h p) = some .zoneTripped := by
  simp [hoseChecks, firstFailure_cons, idle, run, tripped]

variable (idle : (p.hose h).mode = .idle) (run : p.bayMode = .run) (free : p.hoseTripped h = false)
include idle run free

theorem hoseChecks_tankOut (no : ∀ k, (p.hose h).cfg.tank = some k → (p.tank k).state ≠ .inService) :
    firstFailure (hoseChecks h p) = some .tankOut := by
  cases tank : (p.hose h).cfg.tank with
  | none => simp [hoseChecks, firstFailure_cons, idle, run, free, tank]
  | some k => simp [hoseChecks, firstFailure_cons, idle, run, free, tank, no k tank]

theorem hoseChecks_of_tank {k : TankNo} (tank : (p.hose h).cfg.tank = some k) (serves : (p.tank k).state = .inService) :
    firstFailure (hoseChecks h p) =
      if p.roleGood (.meter h) && p.roleGood (.reader h) then none else some .deviceNotGood := by
  simp [hoseChecks, firstFailure_cons, firstFailure_nil, idle, run, free, tank, serves]

end hoseChecks

/-! ## Checks 6 to 12 -/

/-- Check 11 for a LUBE product, said by the service record of the machine. -/
theorem holdEvaluation_eq {m : SlotNo} {hours : Option Nat} {p q : Part} {cls : ProductClass} {b : Bool} {due : Prop}
    (other : cls ≠ .lube → q = p) (dueIff : (p.machine m).serviceDue hours = true ↔ due)
    (isDue : cls = .lube → due → q = raise .serviceDue (modMachine m (fun y => { y with hold := b }) p))
    (notDue : cls = .lube → ¬due → q = modMachine m (fun y => { y with hold := b }) p)
    (held : b = (p.machine m).evaluatedHold hours) : holdEvaluation m cls hours p = q := by
  by_cases lube : cls = .lube
  · subst held lube
    rw [holdEvaluation_lube]
    dsimp only
    by_cases d : due
    · rw [isDue rfl d, if_pos (dueIff.2 d)]
    · rw [notDue rfl d, if_neg (d ∘ dueIff.1)]
  · rw [other lube, holdEvaluation_other lube]

/-- What is left of an authorization once the checks up to the tenth passed. -/
theorem authorize_lastChecks {h : HoseNo} {r : TagReading} {p : Part} {m : SlotNo} {k : TankNo} {i : ProductNo}
    (passed : firstFailure (hoseChecks h p) = none) (found : p.findTag r.tag = some m)
    (machine : firstFailure (machineChecks h (p.machine m) p) = none) (tank : (p.hose h).cfg.tank = some k)
    (product : (p.tank k).cfg.product = some i) :
    let q := holdEvaluation m (p.product i).cls r.hours p
    let b := (p.machine m).evaluatedHold r.hours
    ((p.product i).cls = .lube → b = true →
      authorize h r p = refuseFill h .serviceHold r.tag (some m) r.hours {} q) ∧
    (¬(p.product i).cls = .lube ∨ b = false →
      (64 ≤ q.records.length + q.reserved → authorize h r p = refuseFill h .queueFull r.tag (some m) r.hours {} q) ∧
      (q.records.length + q.reserved < 64 → authorize h r p = capCheck h r m k i q)) := by
  dsimp only
  rw [authorize_passed passed found machine tank product]
  dsimp only
  refine ⟨fun lube b => ?_, fun free => ?_⟩
  · rw [if_pos]
    rw [lube, holdEvaluation_hold, b]; rfl
  · rw [if_neg]
    · refine ⟨fun full => ?_, fun room => ?_⟩
      · rw [if_pos]
        rw [Bool.not_eq_true', ← Bool.not_eq_true, canReserve_one]; omega
      · rw [if_neg]
        rw [Bool.not_eq_true', Bool.not_eq_false, canReserve_one]; exact room
    · rcases free with other | b
      · simp [other]
      · intro both
        obtain ⟨lube, hold⟩ := (Bool.and_eq_true _ _).mp both
        rw [beq_iff_eq.1 lube, holdEvaluation_hold, b] at hold
        cases hold

/-! ## Check 13 -/

/-- The part once check 13 has recorded how it judges the reading (R51). -/
def Part.assessed (p : Part) (m : SlotNo) (hours : Option Nat) : Part :=
  let doubt := min 7 ((p.machine m).doubt + 1)
  if (p.machine m).trusts hours then modMachine m (fun y => { y with doubt := 0, lastHours := hours }) p
  else if doubt = 7 then raise .hoursFault (modMachine m (fun y => { y with doubt := 7, state := .barred }) p)
  else modMachine m (fun y => { y with doubt := doubt }) p

theorem assess_assessed (p : Part) (m : SlotNo) (hours : Option Nat) :
    (if ((p.machine m).assess hours).2 then raise .hoursFault (modMachine m (fun _ => ((p.machine m).assess hours).1) p)
      else modMachine m (fun _ => ((p.machine m).assess hours).1) p) = p.assessed m hours := by
  unfold Part.assessed MachineRec.assess
  dsimp only
  split
  · rfl
  · split <;> rfl

/-- The transaction a coupling opens with a cap (R8, R56). -/
def Part.newTransaction (p : Part) (h : HoseNo) (r : TagReading) (m : SlotNo) (t : TankNo) (i : ProductNo) (flags : Flags)
    (cap : Nat) : Transaction :=
  let recovering := (p.zone (p.tank t).cfg.zone).state == .recovery
  { tag := r.tag, slot := m, hours := if (p.machine m).trusts r.hours then r.hours else none, cap := cap
    allowance := max 20000 (cap * 2 / 100), letter := p.letter, tank := t, product := i, cls := (p.product i).cls
    zone := (p.tank t).cfg.zone, start := ⟨p.clock, p.clockUnset⟩
    tally := { lastCode := (p.hose h).cfg.openCode
               flags := { flags with recoveryCap := recovering, profileB := decide (p.letter = .b) } } }

theorem tankLimited_eq (bound : Int) (room : Nat) : tankLimited bound room = decide (bound < room ∨ bound ≤ 0) := by
  simp [tankLimited, Bool.decide_or]

/-- Check 13: the assessment, then the cap against 1,000 mL. -/
theorem capCheck_eq (h : HoseNo) (r : TagReading) (m : SlotNo) (t : TankNo) (i : ProductNo) (p : Part) :
    let x := p.machine m
    let room := profileBound p.current ((p.zone (p.tank t).cfg.zone).state == .recovery)
      (classCap p.current x (p.product i).cls (nth x.allowances i) r.hours)
    let bound := (p.tank t).bound
    let limited := bound < room ∨ bound ≤ 0
    let flags : Flags := { hoursDoubt := hoursDoubt x (p.product i).cls r.hours, tankLimited := decide limited }
    capCheck h r m t i p =
      if min (room : Int) bound < 1000 then
        refuseFill h (if limited then .tankLow else .noHeadroom) r.tag (some m)
          (if x.trusts r.hours then r.hours else none) flags (p.assessed m r.hours)
      else openFill h (p.newTransaction h r m t i flags (min (room : Int) bound).toNat) (p.assessed m r.hours) := by
  dsimp only
  rw [← assess_assessed]
  unfold capCheck fillCap
  simp only [tankLimited_eq, decide_eq_true_eq]
  rfl

theorem assessed_trusted {p : Part} {m : SlotNo} {hours : Option Nat} (trusts : (p.machine m).trusts hours = true) :
    p.assessed m hours = modMachine m (fun y => { y with doubt := 0, lastHours := hours }) p := by
  unfold Part.assessed; dsimp only; rw [if_pos trusts]

theorem trusts_eq_false_iff (m : MachineRec) (hours : Option Nat) : m.trusts hours = false ↔
    hours = none ∨ ∃ h last, hours = some h ∧ m.lastHours = some last ∧ (h < last ∨ last + 2000 < h) := by
  unfold MachineRec.trusts
  rcases hours with _ | h
  · simp
  · rcases m.lastHours with _ | last
    · simp
    · simp; omega

/-! ## What an opening leaves -/

theorem opened_machine (p : Part) (h : HoseNo) (f : Hose → Hose) (t : TankNo) (m : SlotNo) :
    (p.opened h f t).machine m = p.machine m := by rfl

theorem openFill_effect (h : HoseNo) (txn : Transaction) (p : Part) :
    let q := openFill h txn p
    q.hose h = { p.hose h with
      mode := .fill .ready { txn with tally := txn.tally.awaiting (p.claimWaits txn.tank) }
      uncoupled := 0, uncoupledRaised := false } ∧
    (∀ j, j ≠ h → q.hose j = p.hose j) ∧
    q.machine txn.slot = { p.machine txn.slot with openHose := some h } ∧
    (∀ m, m ≠ txn.slot → q.machine m = p.machine m) ∧
    q.tank txn.tank = (p.tank txn.tank).hoseOpened ∧ (∀ j, j ≠ txn.tank → q.tank j = p.tank j) ∧
    q.pump txn.tank = (p.pump txn.tank).claimed (p.boundNode (.starter txn.tank)).isSome ∧
    (∀ j, j ≠ txn.tank → q.pump j = p.pump j) ∧
    q.fp = (p.openOrders h txn.tank).foldl (fun x u => x.queueOrder u) p.fp ∧
    q = { p with hoses := q.hoses, machines := q.machines, tanks := q.tanks, pumps := q.pumps, fp := q.fp,
                 reserved := p.reserved + 1 } := by
  have e := openFill_eq h txn p
  dsimp only
  refine ⟨?_, fun j ne => ?_, ?_, fun m ne => ?_, ?_, fun j ne => ?_, ?_, fun j ne => ?_, ?_, ?_⟩ <;> rw [e]
  · exact opened_hose_same ..
  · exact opened_hose_other _ ne _ _
  · rw [opened_machine, modMachine_machine_same]; rfl
  · rw [opened_machine, modMachine_machine, if_neg ne.symm]; rfl
  · exact (opened_tank ..).trans (if_pos rfl)
  · exact (opened_tank ..).trans (if_neg ne.symm)
  · exact (opened_pump ..).trans (if_pos rfl)
  · exact (opened_pump ..).trans (if_neg ne.symm)
  · exact opened_fp ..
  · exact opened_frame ..

theorem beginRun_effect {h : HoseNo} {ses : Session} {p : Part} {k : TankNo} (may : p.runMayBegin h ses = true)
    (tank : (p.hose h).cfg.tank = some k) :
    let q := beginRun h ses p
    let tally : Tally := { lastCode := (p.hose h).cfg.openCode }
    let run : ProvingRun := { start := now p, tally := tally.awaiting (p.claimWaits k) }
    q.hose h = { p.hose h with mode := .proving { ses with run := some run } } ∧
    (∀ j, j ≠ h → q.hose j = p.hose j) ∧
    q.tank k = (p.tank k).hoseOpened ∧ (∀ j, j ≠ k → q.tank j = p.tank j) ∧
    (q.pump k = (p.pump k).claimed (p.boundNode (.starter k)).isSome ∧
      q.fp = (p.openOrders h k).foldl (fun x u => x.queueOrder u) p.fp) ∧
    (∀ j, j ≠ k → q.pump j = p.pump j) ∧
    q = { p with hoses := q.hoses, tanks := q.tanks, pumps := q.pumps, fp := q.fp } := by
  have e := beginRun_eq may tank
  dsimp only
  refine ⟨?_, fun j ne => ?_, ?_, fun j ne => ?_, ⟨?_, ?_⟩, fun j ne => ?_, ?_⟩ <;> rw [e]
  · exact opened_hose_same ..
  · exact opened_hose_other _ ne _ _
  · exact (opened_tank ..).trans (if_pos rfl)
  · exact (opened_tank ..).trans (if_neg ne.symm)
  · exact (opened_pump ..).trans (if_pos rfl)
  · exact opened_fp ..
  · exact (opened_pump ..).trans (if_neg ne.symm)
  · exact opened_frame ..

theorem hoseTripped_of_tank {p : Part} {h : HoseNo} {k : TankNo} (tank : (p.hose h).cfg.tank = some k) :
    p.hoseTripped h = ((p.zone (p.tank k).cfg.zone).state == .tripped) :=
  hoseTripped_of_zone (by simp [Part.hoseZone, tank])

/-! ## COUPLED edges -/

theorem tag_edge {head : Header} {n : DevNo} {h : HoseNo} {payload : List Byte} {r : TagReading} {s : State}
    {f : Part → Part} (hn : deviceOf head.src = some n) (hears : s.Hears n (.reader h)) (read : readTag payload = some r)
    (nozzle : r.nozzle = .coupled) (was : (s.hose h).nozzle = .holstered ∨ (s.hose h).nozzle = .lifted)
    (effect : ∀ p : Part, (p.hose h).mode = (s.hose h).mode → coupledEdge h r p = f p) :
    exec (.tagReport head payload) s =
      .next (s.told head 0x12 payload n fun p => f (modHose h (fun x => { x with nozzle := .coupled }) p)) := by
  have told := tag_told (f := f) hn hears fun p e => by
    rw [takeTag_edge read nozzle (by rw [e]; exact was), effect _ (by rw [setNozzle_mode, e]), nozzle]
  rw [nozzle] at told
  exact told

end Sys2Proof.Machine
end

section
/-! A COUPLED edge is refused by the first check that fails, or opens a fill, or begins a proving run (R7 to R9, R180). -/

namespace Sys2Proof.Machine

open Sys2Proof

/-- The orders of an opening, by the zone of its hose. -/
theorem openOrders_eq (p : Part) (h : HoseNo) (t : TankNo) : p.openOrders h t =
    p.orderTo 0x21 (.valve h) (BitVec.ofNat 8 (p.hose h).cfg.openCode) ++
      (if p.hoseTripped h then [] else p.orderTo 0x22 (.reader h) 1) ++
      (if decide ((p.pump t).count = 0) then p.orderTo 0x20 (.starter t) 1 else []) := by
  unfold Part.openOrders Part.lampTo
  rw [if_neg (by decide : lampReady ≠ lampTrip)]
  simp only [decide_eq_true_eq]
  rfl

theorem hoseOpened_eq (x : Tank) : x.hoseOpened =
    { x with openHoses := x.openHoses + 1, rest := .none,
             loss := if x.openHoses = 0 ∧ x.loss = .none then .waiting else x.loss } := by
  unfold Tank.hoseOpened
  simp only [Bool.and_eq_true, decide_eq_true_eq, beq_iff_eq]

theorem claimed_eq (u : Pump) (starter : Bool) : u.claimed starter =
    { count := u.count + 1, confirmed := if decide (u.count = 0) then !starter else u.confirmed } := by
  unfold Pump.claimed
  simp only [decide_eq_true_eq]

/-- A fuel cap by the machine's hours, in the words of R54. -/
theorem fuelCap_eq (pr : Profile) (x : MachineRec) (allowance : Nat) (hours : Option Nat) :
    fuelCap pr x allowance hours =
      match hours, x.hoursAtFull with
      | some now, some full =>
        if x.trusts hours then
          let headroom := min (allowance * 1000) ((now - full) * x.burnRate / 10 - x.addedSinceFull)
          min (allowance * 1000) (headroom + max (pr.marginFloor * 1000) (headroom * pr.marginPct / 100))
        else allowance * 1000 * pr.blindPct / 100
      | _, _ => allowance * 1000 * pr.blindPct / 100 := by
  unfold fuelCap MachineRec.fuelBasis
  rcases hours with _ | now
  · rfl
  · rcases x.hoursAtFull with _ | full
    · rfl
    · cases x.trusts (some now) <;> rfl

/-- The refusal of R9, and the counter when no place is free. -/
theorem refuseFill_leaves (h : HoseNo) (cause : RefusalCause) (tag : Long) (slot : Option SlotNo) (hours : Option Nat)
    (flags : Flags) (p : Part) :
    let q := refuseFill h cause tag slot hours flags p
    (p.records.length + p.reserved < 64 →
      q.records = p.records ++ [{ refusalRecord h cause tag slot hours flags p with serial := p.nextSerial }] ∧
      q.hoses = p.hoses) ∧
    (64 ≤ p.records.length + p.reserved → q.records = p.records ∧ q.hose h = { p.hose h with
      refusals := setNth (p.hose h).refusals cause.index (min 65535 (nth (p.hose h).refusals cause.index + 1)) }) ∧
    (p.hoseTripped h = true → q.fp = p.fp) ∧
    (p.hoseTripped h = false → q.fp = (p.orderTo 0x22 (.reader h) 3).foldl (fun x u => x.queueOrder u) p.fp) := by
  refine ⟨fun free => ?_, fun full => ?_, fun tripped => ?_, fun free => ?_⟩
  · rw [refuseFill_free (free := free), placeRecord_records, placeRecord_hoses]
    exact ⟨rfl, rfl⟩
  · rw [refuseFill_full (full := full), sendAll_hose, modHose_hose_same]
    exact ⟨rfl, rfl⟩
  · rw [refuseFill_fp, lampTo_of_tripped (by decide) tripped]; rfl
  · rw [refuseFill_fp, lampTo_of_notTripped (by decide) free]; rfl

/-- A coupling for a FUEL product with a trusted reading in a NORMAL zone, once every check passed: check 13 opens the
fill with a reading that was recorded as good. -/
theorem authorize_fuel {h : HoseNo} {r : TagReading} {m : SlotNo} {k : TankNo} {i : ProductNo} {p : Part}
    (passed : firstFailure (hoseChecks h p) = none) (found : p.findTag r.tag = some m)
    (machine : firstFailure (machineChecks h (p.machine m) p) = none) (tank : (p.hose h).cfg.tank = some k)
    (normal : (p.zone (p.tank k).cfg.zone).state = .normal)
    (product : (p.tank k).cfg.product = some i) (fuel : (p.product i).cls = .fuel)
    (room : p.records.length + p.reserved < 64) (trusts : (p.machine m).trusts r.hours = true) :
    let cap := min ((min (fuelCap p.current (p.machine m) (nth (p.machine m).allowances i) r.hours)
      (p.current.ceiling * 1000) : Nat) : Int) (p.tank k).bound
    1000 ≤ cap → ∃ flags, authorize h r p = openFill h (p.newTransaction h r m k i flags cap.toNat)
      (modMachine m (fun y => { y with doubt := 0, lastHours := r.hours }) p) := by
  intro cap enough
  have notRecovery : ((p.zone (p.tank k).cfg.zone).state == .recovery) = false := by rw [normal]; rfl
  have held := holdEvaluation_other (m := m) (show (p.product i).cls ≠ .lube by rw [fuel]; decide) r.hours p
  have last := (authorize_lastChecks (r := r) passed found machine tank product).2 (.inl (by rw [fuel]; decide))
  rw [held] at last
  rw [last.2 room, capCheck_eq]
  rw [notRecovery, fuel, assessed_trusted trusts, if_neg]
  · exact ⟨_, rfl⟩
  · exact Int.not_lt.2 enough

/-- Settles O32: each check's refusal is the first failure of the list; check 13 opens the fill or refuses it. -/
theorem aCouplingIsRefusedOrOpensAFill : Obligations.ACouplingIsRefusedOrOpensAFill := by
  unfold Obligations.ACouplingIsRefusedOrOpensAFill
  intro classRoom
  have rooms : classRoom = classCap := by
    funext pr x cls allowance hours
    cases cls with
    | fuel => exact (fuelCap_eq pr x allowance hours).symm
    | _ => rfl
  clear_value classRoom
  subst rooms
  refine ⟨?edges, ?checks, ?refusal, ?cap, ?opens, ?whole, ?run, trusts_eq_false_iff⟩
  case edges =>
    intro head n h payload r s hn hears read nozzle was
    refine ⟨fun rests => tag_edge hn hears read nozzle was fun p m => ?_,
      fun ses m => tag_edge hn hears read nozzle was fun p e => ?_,
      fun ph txn m => tag_edge (f := id) hn hears read nozzle was fun p e => ?_⟩ <;> unfold coupledEdge
    · rcases rests with idle | out
      · rw [m, idle]
      · rw [m, out]
    · rw [e, m]
    · rw [e, m]; rfl
  case checks =>
    intro h r p
    refine ⟨fun out => authorize_hoseFails (hoseChecks_out out),
      fun idle layUp => authorize_hoseFails (hoseChecks_layUp idle layUp),
      fun idle run tripped => authorize_hoseFails (hoseChecks_tripped idle run tripped), fun idle run free =>
      ⟨fun no => authorize_hoseFails (hoseChecks_tankOut idle run free no), fun k tank serves => ?_⟩⟩
    have devices := hoseChecks_of_tank idle run free tank serves
    refine ⟨fun bad => authorize_hoseFails ?_, fun meter reader => ?_⟩
    · rcases bad with bad | bad <;> simp [devices, bad]
    have passed : firstFailure (hoseChecks h p) = none := by simp [devices, meter, reader]
    refine ⟨fun no => authorize_unknown passed (findTag_unknown no), fun m found =>
      ⟨findTag_tag found, fun barred => authorize_machineFails passed found ?_,
        fun opened busy => authorize_machineFails passed found ?_, fun opened freeMachine => ⟨fun none => ?_,
        fun i product allowed => ?_⟩⟩⟩
    · simp [machineChecks, firstFailure_cons, barred]
    · simp [machineChecks, firstFailure_cons, opened, busy]
    · refine authorize_machineFails passed found ?_
      cases product : (p.tank k).cfg.product with
      | none => simp [machineChecks, firstFailure_cons, opened, freeMachine, tank, Part.tankProduct, product]
      | some i => simp [machineChecks_of_product tank product, opened, freeMachine, none i product]
    · have class_ := machineChecks_of_product (m := p.machine m) tank product
      simp only [opened, freeMachine, allowed, if_true] at class_
      refine ⟨fun no => authorize_machineFails passed found (by simp [class_, no]), fun b q may other isDue notDue held => ?_⟩
      have holds : b = (p.machine m).evaluatedHold r.hours := by
        rw [Bool.eq_iff_iff, held, evaluatedHold_iff, hoursTestMet_iff, lubeTestMet_iff]
      have evaluated := holdEvaluation_eq other (serviceDue_iff ..) isDue notDue holds
      have last := authorize_lastChecks (r := r) passed found (by simp [class_, may]) tank product
      rw [evaluated, ← holds] at last
      exact last
  case refusal =>
    intro h cause tag slot hours flags p
    obtain ⟨free, full, tripped, notTripped⟩ := refuseFill_leaves h cause tag slot hours flags p
    refine ⟨fun room => ⟨_, (free room).1, rfl, rfl, rfl, rfl, rfl, ?_, rfl, rfl, rfl, ?_, ?_, ?_, ?_, (free room).2⟩, full,
      tripped, fun off => ⟨fun unbound => ?_, fun n bound => ?_⟩, refuseFill_keeps h cause tag slot hours flags p⟩
    · cases slot <;> rfl
    · show numberOf _ = _
      cases (p.hose h).cfg.tank <;> rfl
    · show p.hoseProductNo h = _
      rw [hoseProductNo_eq]
      cases ((p.hose h).cfg.tank.bind fun k => (p.tank k).cfg.product) <;> rfl
    · exact Bool.or_self _
    · rfl
    · rw [notTripped off]; simp [Part.orderTo, unbound]
    · rw [notTripped off]; simp [Part.orderTo, bound]
  case cap =>
    intro h r m k i p x class_ trusted recovering whole room bound limited doubt assessed flags
    have check : capCheck h r m k i p = if min (room : Int) bound < 1000 then
        refuseFill h (if limited then .tankLow else .noHeadroom) r.tag (some m) (if trusted then r.hours else none)
          flags assessed
        else openFill h (p.newTransaction h r m k i flags (min (room : Int) bound).toNat) assessed :=
      capCheck_eq h r m k i p
    refine ⟨fun small => check.trans (if_pos small), fun enough => ⟨_, check.trans (if_neg (Int.not_lt.2 enough)), ?_, rfl,
      rfl, rfl, rfl, rfl, rfl, rfl, rfl, rfl, rfl, rfl⟩⟩
    exact Int.toNat_of_nonneg (by omega)
  case opens =>
    intro h txn p
    obtain ⟨hose, others, machine, machines, tank, tanks, pump, pumps, fp, frame⟩ := openFill_effect h txn p
    rw [hoseOpened_eq] at tank
    rw [claimed_eq] at pump
    rw [openOrders_eq] at fp
    exact ⟨hose, others, machine, machines, tank, tanks, pump, pumps, fp, frame⟩
  case whole =>
    intro h r m k i p idle run tank serves normal meter reader found opened freeMachine product fuel
      allowed may room trusts cap enough q
    have devices := hoseChecks_of_tank idle run (by rw [hoseTripped_of_tank tank, normal]; rfl) tank serves
    have class_ := machineChecks_of_product (m := p.machine m) tank product
    let trusted := modMachine m (fun y => { y with doubt := 0, lastHours := r.hours }) p
    obtain ⟨flags, opens⟩ : ∃ flags, q = openFill h (p.newTransaction h r m k i flags cap.toNat) trusted :=
      authorize_fuel (by simp [devices, meter, reader]) found
        (by simp [class_, opened, freeMachine, allowed, fuel, Profile.allows, may]) tank normal product fuel room trusts enough
    obtain ⟨hose, others, machine, machines, tank, -, pump, -, -, frame⟩ := openFill_effect h
      (p.newTransaction h r m k i flags cap.toNat) trusted
    rw [← opens] at hose others machine machines tank pump frame
    have machineNow : q.machine m = { p.machine m with doubt := 0, lastHours := r.hours, openHose := some h } := by
      rw [show q.machine m = _ from machine]
      exact congrArg (fun y : MachineRec => { y with openHose := some h }) (modMachine_machine_same ..)
    refine ⟨⟨_, congrArg Hose.mode hose, rfl, rfl, if_pos trusts, Int.toNat_of_nonneg (by omega), rfl, rfl, rfl, rfl, rfl, rfl,
      rfl, rfl, rfl, rfl, ?_⟩, congrArg Hose.uncoupled hose, (congrArg Hose.baseline hose).trans rfl, congrArg Part.reserved frame,
      (congrArg Part.records frame).trans rfl, congrArg MachineRec.openHose machineNow, congrArg MachineRec.doubt machineNow,
      congrArg MachineRec.lastHours machineNow, congrArg Pump.count pump, congrArg Tank.openHoses tank, others,
      fun j ne => (machines j ne).trans ((modMachine_machine ..).trans (if_neg ne.symm)), (congrArg Part.zones frame).trans rfl,
      (congrArg Part.devices frame).trans rfl⟩
    show (false || p.claimWaits k) = true ↔ _
    simp [Part.claimWaits]
  case run =>
    intro h ses p may
    refine ⟨fun no => beginRun_refused ?_, fun k ⟨left, idle, tank, normal, serves, meter, reader⟩ => ?_⟩
    · rw [← Bool.not_eq_true, runMayBegin_iff]
      rintro ⟨k, tank, left, idle, normal, serves, meter, reader⟩
      exact no k ⟨left, idle, tank, normal, serves, meter, reader⟩
    · have begins := (runMayBegin_iff p h ses).2 ⟨k, tank, left, idle, normal, serves, meter, reader⟩
      have free : p.hoseTripped h = false := by rw [hoseTripped_of_tank tank, normal]; rfl
      obtain ⟨hose, others, tank_, tanks, ⟨pump, fp⟩, pumps, frame⟩ := beginRun_effect begins tank
      rw [hoseOpened_eq] at tank_
      rw [claimed_eq] at pump
      rw [openOrders_eq, free] at fp
      exact ⟨hose, others, tank_, tanks, ⟨pump, fp⟩, pumps, frame⟩

end Sys2Proof.Machine
end

section
/-! The end of the drain window (R21): its record, the close update by class (R60 to R63), and what it frees. -/

namespace Sys2Proof.Machine

open Sys2Proof

/-! ## A notice that is raised is pending -/

theorem bit_isIn (n : Notice) : n.isIn n.bit = true := by
  cases n with
  | trip z => revert z; decide
  | _ => rfl

theorem raise_isIn (n : Notice) (p : Part) : n.isIn (raise n p).pendingNotices = true := by
  cases pending : n.isIn p.pendingNotices with
  | true => rw [raise_pending pending]; exact pending
  | false =>
    rw [raise_new pending]
    show (p.pendingNotices ||| n.bit).getLsbD (n.rank - 1) = true
    rw [BitVec.getLsbD_or, show n.bit.getLsbD (n.rank - 1) = true from bit_isIn n, Bool.or_true]

/-! ## The close update -/

section close
variable (m : MachineRec) (net : Nat) (hours : Option Nat)

theorem close_fuel (cause : EndCause) : m.close .fuel net cause hours =
    MachineRec.fuelClose { m with fillCount := satAdd max16 m.fillCount 1 } net cause hours := rfl

theorem fuelClose_partial {cause : EndCause} (ne : cause ≠ .full) : m.fuelClose net cause hours =
    ({ m with lifetimeFuel := satAdd max32 m.lifetimeFuel (net / 1000)
              addedSinceFull := satAdd max32 m.addedSinceFull net }, false) := by
  unfold MachineRec.fuelClose; dsimp only; rw [if_neg ne]

theorem learnsFrom_lifetime (n : Nat) : MachineRec.learnsFrom { m with lifetimeFuel := n } hours = m.learnsFrom hours := rfl
theorem learned_lifetime (n observed : Nat) : MachineRec.learned { m with lifetimeFuel := n } observed = m.learned observed :=
  rfl

/-- A FULL fill that has no elapsed time to learn from only marks the machine full. -/
theorem fuelClose_marks (no : m.learnsFrom hours = none) : m.fuelClose net .full hours =
    ({ m with lifetimeFuel := satAdd max32 m.lifetimeFuel (net / 1000), addedSinceFull := 0, hoursAtFull := hours },
      false) := by
  unfold MachineRec.fuelClose; dsimp only
  rw [if_pos rfl, learnsFrom_lifetime, no]

/-- A FULL fill that learns. -/
theorem fuelClose_learns {elapsed rate : Nat} {odd : Bool} (from_ : m.learnsFrom hours = some elapsed)
    (learned : m.learned ((m.addedSinceFull + net) * 10 / elapsed) = (rate, odd)) : m.fuelClose net .full hours =
    ({ m with lifetimeFuel := satAdd max32 m.lifetimeFuel (net / 1000), burnRate := rate, abnormal := m.abnormal || odd
              learnCount := satAdd 255 m.learnCount 1, hoursAtFull := hours, addedSinceFull := 0 }, odd) := by
  unfold MachineRec.fuelClose; dsimp only
  rw [if_pos rfl, learnsFrom_lifetime, from_]
  dsimp only
  rw [learned_lifetime, learned]

theorem learnsFrom_none
    (no : hours = none ∨ m.hoursAtFull = none ∨
      ∃ now full, hours = some now ∧ m.hoursAtFull = some full ∧ now < full + 20) : m.learnsFrom hours = none := by
  unfold MachineRec.learnsFrom
  rcases no with e | e | ⟨now, full, e, f, lt⟩
  · simp only [e]
  · simp only [e]
  · simp only [e, f]; exact if_neg (Nat.not_le.2 lt)

theorem learnsFrom_some {now full : Nat} (e : hours = some now) (f : m.hoursAtFull = some full) (le : full + 20 ≤ now) :
    m.learnsFrom hours = some (now - full) := by
  unfold MachineRec.learnsFrom; simp only [e, f]; exact if_pos le

variable (observed : Nat)

theorem learned_first (first : m.learnCount = 0) : m.learned observed = (min 2000000 observed, false) := by
  unfold MachineRec.learned; rw [if_pos first]

theorem learned_abnormal (known : 4 ≤ m.learnCount) (above : 3 * m.burnRate < 2 * observed) :
    m.learned observed = (m.burnRate, true) := by
  unfold MachineRec.learned
  rw [if_neg (by omega), if_pos (by simp [known, above])]

theorem learned_averaged (some_ : m.learnCount ≠ 0) (usual : m.learnCount < 4 ∨ 2 * observed ≤ 3 * m.burnRate) :
    m.learned observed = (min 2000000 ((3 * m.burnRate + observed) / 4), false) := by
  unfold MachineRec.learned
  rw [if_neg some_, if_neg (by simp; omega)]

end close

/-- The abnormal notice of a close update is pending after it. -/
theorem closeMachine_abnormal (t : Transaction) (cause : EndCause) (p : Part)
    (odd : ((p.machine t.slot).close t.cls t.tally.net cause t.hours).2 = true) :
    Notice.abnormalUse.isIn (closeMachine t cause p).pendingNotices = true := by
  obtain ⟨-, even⟩ | ⟨e, -⟩ := closeMachine_cases t cause p
  · rw [even] at odd; cases odd
  · rw [e]; exact raise_isIn ..

/-- Settles O35: the part after a hose leaves CLOSING is the one of its closed fill, with the hose free. -/
theorem theDrainWindowEndsWithAFillRecord : Obligations.TheDrainWindowEndsWithAFillRecord := by
  refine ⟨fun h cause ended txn s m => ?_, fun m net cause hours => ⟨fun ne => ?_, fun no => ?_, fun now full e f le => ?_,
    rfl, rfl⟩⟩
  · have left := leaveClosing_eq m
    have orders : s.toPart.freedOrders h = if (s.hose h).pendingOut then
        s.orderTo 0x21 (.valve h) 0 ++ (if s.hoseTripped h then [] else s.orderTo 0x22 (.reader h) 0) else [] := by
      unfold Part.freedOrders Part.lampTo
      rw [if_neg (by decide : lampOff ≠ lampTrip)]
      rfl
    refine ⟨s.on (leaveClosing h), { fillRecord h txn cause ended with serial := s.nextSerial }, rfl, ?_⟩
    show (leaveClosing h s.toPart).records = _ ∧ _
    refine ⟨?_, ?_, rfl, rfl, rfl, rfl, rfl, rfl, rfl, rfl, rfl, rfl, rfl, rfl, rfl, rfl, ?_, ?_, fun j ne =>
      leaveClosing_hose_other ne _, ⟨?_, fun odd => ?_⟩, fun j ne => ?_, ?_, fun k ne => ?_, ?_, ?_, ?_, ?_⟩
    · rw [left]; exact fillClosed_records ..
    · show (leaveClosing h s.toPart).reserved = _
      rw [left]; exact fillClosed_reserved ..
    · show ((leaveClosing h s.toPart).hose h).mode = _
      rw [leaveClosing_hose_same (by rw [m]; rfl)]; rfl
    · show ((leaveClosing h s.toPart).hose h).pendingOut = _
      rw [leaveClosing_hose_same (by rw [m]; rfl)]; rfl
    · show (leaveClosing h s.toPart).machine txn.slot = _
      rw [left]; exact fillClosed_machine_same ..
    · show Notice.abnormalUse.isIn (leaveClosing h s.toPart).pendingNotices = true
      rw [left]
      refine closeMachine_abnormal txn cause _ ?_
      rw [placeReserved_machine]; exact odd
    · show (leaveClosing h s.toPart).machine j = _
      rw [left]; exact fillClosed_machine_other _ _ _ _ _ ne
    · show (leaveClosing h s.toPart).tank txn.tank = _
      rw [left, ← hoseClosed_eq]; exact (fillClosed_tank ..).trans (if_pos rfl)
    · show (leaveClosing h s.toPart).tank k = _
      rw [left]; exact (fillClosed_tank ..).trans (if_neg ne.symm)
    · show (leaveClosing h s.toPart).fp = _
      rw [left, orders, sendAll_fp, modHose_fp, fillClosed_fp]; rfl
    · show (leaveClosing h s.toPart).pumps = _
      rw [left]; exact fillClosed_pumps ..
    · show (leaveClosing h s.toPart).zones = _
      rw [left]; exact fillClosed_zones ..
    · show (leaveClosing h s.toPart).devices = _
      rw [left]; exact fillClosed_devices ..
  · exact fuelClose_partial _ net hours ne
  · exact fuelClose_marks _ net hours (learnsFrom_none m hours no)
  · let one : MachineRec := { m with fillCount := satAdd max16 m.fillCount 1 }
    have from_ : one.learnsFrom (some now) = some (now - full) := learnsFrom_some one _ rfl f le
    subst e
    refine ⟨fun first => ?_, fun known above => ?_, fun some_ usual => ?_⟩ <;> rw [close_fuel]
    · rw [show MachineRec.fuelClose _ net .full (some now) = _ from fuelClose_learns one net _ from_ (learned_first one _ first), Bool.or_false]; rfl
    · rw [show MachineRec.fuelClose _ net .full (some now) = _ from fuelClose_learns one net _ from_ (learned_abnormal one _ known above), Bool.or_true]; rfl
    · rw [show MachineRec.fuelClose _ net .full (some now) = _ from fuelClose_learns one net _ from_ (learned_averaged one _ some_ usual), Bool.or_false]; rfl

end Sys2Proof.Machine
end

section
/-! PROVE_START and PROVE_RESULT (R179, R182), and what a credit does to its tank (R78, R80, R81, R83). -/

namespace Sys2Proof.Machine

open Sys2Proof

/-! ## The low-stock test and the hoses of its tank -/

/-- What the test has done to the hoses before it comes to one of its tank's is nothing to that hose, nor to the clock. -/
theorem endFills_low_turn {k : TankNo} {p : Part} {h : HoseNo} (own : (p.hose h).cfg.tank = some k) :
    ∃ q : Part, q.hose h = p.hose h ∧ now q = now p ∧ (endFills k .tankLow p).hose h =
      (if (q.hose h).mode.dispensing then endRequest h .tankLow q else q).hose h := by
  have clock (j : HoseNo) (r : Part) : now (endRequest j .tankLow r) = now r :=
    endRequest_keep now j .tankLow r (fun v => by rw [sendLamp_eq]; rfl)
      (fun t => by rw [enterClosing_frame]; rfl) (fun _ _ c => by cases c)
  have others (is : List HoseNo) (ne : ∀ j ∈ is, j ≠ h) (q : Part) :
      let r := each is (fun h q => if (q.hose h).mode.dispensing then endRequest h .tankLow q else q) q
      (r.hose h, now r) = (q.hose h, now q) := by
    refine each_keep_mem (fun r => (r.hose h, now r)) _ is (fun j hj r => ?_) q
    split
    · rw [endRequest_hose_other (ne j hj).symm, clock]
    · rfl
  obtain ⟨first, last, hf, hl, e⟩ := each_split (tankHoses_nodup p k) (mem_tankHoses.2 own)
    (fun h q => if (q.hose h).mode.dispensing then endRequest h .tankLow q else q) p
  have before := others first (fun j hj => (hf j hj).1) p
  refine ⟨_, congrArg Prod.fst before, congrArg Prod.snd before, ?_⟩
  unfold endFills
  rw [e]
  exact congrArg Prod.fst (others last (fun j hj => (hl j hj).1) _)

/-- An open fill of the tank ends with TANK_LOW. -/
theorem endFills_low_fill {k : TankNo} {p : Part} {h : HoseNo} {ph : Phase} {t : Transaction}
    (own : (p.hose h).cfg.tank = some k) (m : (p.hose h).mode = .fill ph t) (going : (p.hose h).mode.isClosing = false) :
    ((endFills k .tankLow p).hose h).mode = .fill (.closing .tankLow (now p)) t.shut := by
  obtain ⟨q, hose, clock, e⟩ := endFills_low_turn own
  have open_ : (q.hose h).mode.dispensing = true := by
    rw [hose]
    cases ph with
    | closing c s => rw [m] at going; cases going
    | _ => rw [m]; rfl
  rw [e, if_pos open_, endRequest_of_fill (by rw [hose]; exact m) (by rw [hose]; exact going), enterClosing_hose_same, clock]

/-- A hose that dispenses nothing, or is of another tank, is left as it was. -/
theorem endFills_low_still {k : TankNo} {p : Part} {h : HoseNo}
    (still : (p.hose h).cfg.tank ≠ some k ∨ (p.hose h).mode.dispensing = false) :
    (endFills k .tankLow p).hose h = p.hose h := by
  by_cases own : (p.hose h).cfg.tank = some k
  · obtain ⟨q, hose, -, e⟩ := endFills_low_turn own
    rw [e, hose, still.resolve_left (not_not.2 own), if_neg (by decide), hose]
  · refine each_keep_mem (·.hose h) _ _ (fun j hj r => ?_) p
    split
    · exact endRequest_hose_other (fun e : h = j => own (e ▸ mem_tankHoses.1 hj)) ..
    · rfl

theorem lowStockTest_hose_of_low {k : TankNo} {p : Part} (low : (p.tank k).bound ≤ 0) (h : HoseNo) :
    (lowStockTest k p).hose h = (endFills k .tankLow p).hose h := by
  unfold lowStockTest
  rw [if_pos low]
  dsimp only
  split
  · rfl
  · rw [raise_hose]; rfl

theorem lowStockTest_hose_of_free {k : TankNo} {p : Part} (free : 0 < (p.tank k).bound) (h : HoseNo) :
    (lowStockTest k p).hose h = p.hose h := by
  unfold lowStockTest
  rw [if_neg (Int.not_le.2 free)]
  rfl

/-! ## PROVE_START -/

theorem canReserve_iff (p : Part) (n : Nat) : p.canReserve n = true ↔ p.records.length + p.reserved + n ≤ 64 := by
  unfold Part.canReserve Part.occupied Config.recordPlaces
  exact decide_eq_true_iff

section proveStart
variable {b runs : Byte} {h : HoseNo} {can : Long} {p : Part} (hb : b.toNat = h.val + 1)
include hb

theorem proveStart_badValue (bad : runs = 0 ∨ 5 < runs.toNat ∨ can.toNat < 1000 ∨ 2000000 < can.toNat) :
    proveStartCommand (some (b, runs, can)) p = refuse .badValue p := by
  unfold proveStartCommand
  rw [withArgs_some]; dsimp only; rw [withIndex_of h hb]
  exact if_pos (by simpa [or_assoc] using bad)

variable (ok : (runs = 0 || 5 < runs.toNat || can.toNat < 1000 || 2000000 < can.toNat) = false)
include ok

theorem proveStart_notOut (notOut : (p.hose h).mode ≠ .out) :
    proveStartCommand (some (b, runs, can)) p = refuse .refusedMode p := by
  unfold proveStartCommand
  rw [withArgs_some]; dsimp only; rw [withIndex_of h hb, ok, if_neg (by decide), if_pos notOut]

variable (out : (p.hose h).mode = .out)
include out

theorem proveStart_unfit (unfit : p.hoseFit h = false) :
    proveStartCommand (some (b, runs, can)) p = refuse .badValue p := by
  unfold proveStartCommand
  rw [withArgs_some]; dsimp only; rw [withIndex_of h hb, ok, if_neg (by decide), if_neg (not_not.2 out), unfit]
  rfl

/-- The zone, then the places in the record queue, are checked last. -/
theorem proveStart_fit (fit : p.hoseFit h = true) : proveStartCommand (some (b, runs, can)) p =
    if !p.zoneNormal h then refuse .refusedMode p
    else if !p.canReserve runs.toNat then refuse .queueFull p
    else done (startSession h runs.toNat can.toNat p) := by
  unfold proveStartCommand
  rw [withArgs_some]; dsimp only; rw [withIndex_of h hb, ok, if_neg (by decide), if_neg (not_not.2 out), fit]
  rfl

end proveStart

theorem zoneNormal_of {p : Part} {h : HoseNo} {z : ZoneNo} (zone : p.hoseZone h = some z) :
    p.zoneNormal h = ((p.zone z).state == .normal) := by unfold Part.zoneNormal; rw [zone]

@[simp] theorem consumeUp_hoseFit (p : Part) (h : HoseNo) : (consumeUp p).hoseFit h = p.hoseFit h := by
  simp only [Part.hoseFit, consumeUp_hose, consumeUp_boundNode]

@[simp] theorem consumeUp_canReserve (p : Part) (n : Nat) : (consumeUp p).canReserve n = p.canReserve n := by
  rw [Bool.eq_iff_iff, canReserve_iff, canReserve_iff]; simp

/-! ## PROVE_RESULT -/

section proveResult
variable {b run : Byte} {h : HoseNo} {can : Long} {p : Part} (hb : b.toNat = h.val + 1)
include hb

theorem proveResult_noSession (no : ∀ ses, (p.hose h).mode ≠ .proving ses) :
    proveResultCommand (some (b, run, can)) p = refuse .refusedMode p := by
  unfold proveResultCommand
  rw [withArgs_some]; dsimp only; rw [withIndex_of h hb]
  cases m : (p.hose h).mode with
  | proving ses => exact absurd m (no ses)
  | _ => rfl

variable {ses : Session} (m : (p.hose h).mode = .proving ses)
include m

theorem proveResult_noRun (no : ses.endedRun run.toNat = none) :
    proveResultCommand (some (b, run, can)) p = refuse .badIndex p := by
  unfold proveResultCommand
  rw [withArgs_some]; dsimp only; rw [withIndex_of h hb]
  simp only [m, no]

variable {r : EndedRun} (at_ : ses.endedRun run.toNat = some r)
include at_

theorem proveResult_resulted (done_ : r.result.isSome = true) :
    proveResultCommand (some (b, run, can)) p = refuse .inUse p := by
  unfold proveResultCommand
  rw [withArgs_some]; dsimp only; rw [withIndex_of h hb]
  simp only [m, at_, done_, if_true]

variable (new : r.result = none)
include new

theorem proveResult_badValue (no : r.resultOf can.toNat = none) :
    proveResultCommand (some (b, run, can)) p = refuse .badValue p := by
  unfold proveResultCommand
  rw [withArgs_some]; dsimp only; rw [withIndex_of h hb]
  simp only [m, at_, new, no, Option.isSome_none, Bool.false_eq_true, if_false]

theorem proveResult_taken {x : RunResult} (result : r.resultOf can.toNat = some x) :
    proveResultCommand (some (b, run, can)) p = takeResult h ses run.toNat r x p := by
  unfold proveResultCommand
  rw [withArgs_some]; dsimp only; rw [withIndex_of h hb]
  simp only [m, at_, new, result, Option.isSome_none, Bool.false_eq_true, if_false]

end proveResult

theorem resultOf_none {r : EndedRun} {can : Nat}
    (bad : r.gross = 0 ∨ can = 0 ∨ ¬(90000 ≤ r.factorUsed * can / r.gross ∧ r.factorUsed * can / r.gross ≤ 110000)) :
    r.resultOf can = none := by
  unfold EndedRun.resultOf factorOk
  dsimp only
  rw [if_pos]
  simpa [or_assoc, imp_iff_not_or] using bad

theorem resultOf_some {r : EndedRun} {can : Nat} (gross : 0 < r.gross) (some_ : can ≠ 0)
    (ok : 90000 ≤ r.factorUsed * can / r.gross ∧ r.factorUsed * can / r.gross ≤ 110000) :
    r.resultOf can = some { can := can, factor := r.factorUsed * can / r.gross, credit := can * r.vcf / 1000000 } := by
  unfold EndedRun.resultOf factorOk
  dsimp only
  rw [if_neg]
  simp [ok, some_]; omega

/-! ## The credit -/

theorem bookChange_adjustment (x : Tank) (n : Int) : x.bookChange .adjustment n =
    let folds := decide (1000000000 < |x.totals.adjustment + n|)
    { x with
      book := x.book + n, setPoint := if folds then x.book else x.setPoint
      totals := if folds then { adjustment := n } else { x.totals with adjustment := x.totals.adjustment + n }
      folds := if folds then min 255 (x.folds + 1) else x.folds } := by
  have limit : (Config.foldLimit < x.totals.get .adjustment + n || x.totals.get .adjustment + n < -Config.foldLimit) =
      decide (1000000000 < |x.totals.adjustment + n|) := by
    rw [Bool.eq_iff_iff, Bool.or_eq_true, decide_eq_true_iff, decide_eq_true_iff, decide_eq_true_iff, lt_abs]
    simp only [Totals.get, Config.foldLimit]
    omega
  unfold Tank.bookChange
  dsimp only
  rw [limit]
  cases decide (1000000000 < |x.totals.adjustment + n|) <;> simp [Tank.fold, Totals.add, Account.sign, satAdd]

theorem creditTank_of {h : HoseNo} {t : TankNo} {p : Part} (tank : (p.hose h).cfg.tank = some t) (ml : Nat) :
    creditTank h ml p = disturbWindows t (lowStockTest t (modTank t (fun x => x.bookChange .adjustment ml) p)) := by
  unfold creditTank; simp only [tank]

end Sys2Proof.Machine
end

section
/-! Proving sessions open, and take the results of their runs (R179, R182). -/

namespace Sys2Proof.Machine

open Sys2Proof

/-- The part after a result is taken: the run resulted, and its credit given to the tank. -/
def Part.credited (p : Part) (h : HoseNo) (ses : Session) (t : TankNo) (credit : Nat) : Part :=
  modTank t (fun x => x.bookChange .adjustment credit) (setMode h (.proving ses) p)

section credited
variable {p : Part} {h : HoseNo} {ses : Session} {t : TankNo} {credit : Nat}

theorem credited_hose (j : HoseNo) : (p.credited h ses t credit).hose j =
    if h = j then { p.hose j with mode := .proving ses } else p.hose j := by
  rw [← modHose_hose h j (fun y => { y with mode := .proving ses })]; rfl

theorem credited_tank (k : TankNo) : (p.credited h ses t credit).tank k =
    if t = k then (p.tank k).bookChange .adjustment credit else p.tank k := modTank_tank ..

theorem credited_bound : ((p.credited h ses t credit).tank t).bound =
    (p.tank t).book + credit - ((p.tank t).cfg.lowCutoff * 1000 : Nat) := by
  rw [credited_tank, if_pos rfl, bookChange_adjustment]; rfl

/-- The credit as a whole. -/
theorem creditTank_credited (tank : (p.hose h).cfg.tank = some t) :
    creditTank h credit (setMode h (.proving ses) p) = disturbWindows t (lowStockTest t (p.credited h ses t credit)) :=
  creditTank_of (by rw [setMode_eq, modHose_hose_same]; exact tank) credit

variable (tank : (p.hose h).cfg.tank = some t)
include tank

theorem creditTank_tank (k : TankNo) : (creditTank h credit (setMode h (.proving ses) p)).tank k =
    if t = k then
      { (p.tank k).bookChange .adjustment credit with
        low := decide ((p.tank k).book + credit - ((p.tank k).cfg.lowCutoff * 1000 : Nat) ≤ 0), rest := .none
        loss := ((p.tank k).bookChange .adjustment credit).loss.restart }
    else p.tank k := by
  rw [creditTank_credited tank, disturbWindows, modTank_tank, lowStockTest_tank]
  by_cases e : t = k
  · subst e
    simp only [if_true]
    rw [credited_bound, credited_tank, if_pos rfl]
  · simp only [if_neg e]
    rw [credited_tank, if_neg e]

/-- The session's own hose is no fill, and the credit ends none of it. -/
theorem creditTank_hose_same : (creditTank h credit (setMode h (.proving ses) p)).hose h =
    { p.hose h with mode := .proving ses } := by
  have here : (p.credited h ses t credit).hose h = { p.hose h with mode := .proving ses } := by
    rw [credited_hose, if_pos rfl]
  rw [creditTank_credited tank, ← here]
  show (lowStockTest t _).hose h = _
  rcases lt_or_ge 0 ((p.credited h ses t credit).tank t).bound with free | low
  · exact lowStockTest_hose_of_free free h
  · rw [lowStockTest_hose_of_low low, endFills_low_still (.inr (by rw [here]; rfl))]

theorem creditTank_hose_still {j : HoseNo} (ne : j ≠ h)
    (still : 0 < (p.tank t).book + credit - ((p.tank t).cfg.lowCutoff * 1000 : Nat) ∨ (p.hose j).cfg.tank ≠ some t ∨
      (p.hose j).mode.dispensing = false) :
    (creditTank h credit (setMode h (.proving ses) p)).hose j = p.hose j := by
  have here : (p.credited h ses t credit).hose j = p.hose j := by rw [credited_hose, if_neg ne.symm]
  rw [creditTank_credited tank, ← here]
  show (lowStockTest t _).hose j = _
  rw [← credited_bound (h := h) (ses := ses)] at still
  rcases lt_or_ge 0 ((p.credited h ses t credit).tank t).bound with free | low
  · exact lowStockTest_hose_of_free free j
  · rw [lowStockTest_hose_of_low low]
    exact endFills_low_still (by rw [here]; exact still.resolve_left (Int.not_lt.2 low))

theorem creditTank_hose_low {j : HoseNo} {ph : Phase} {txn : Transaction}
    (low : (p.tank t).book + credit - ((p.tank t).cfg.lowCutoff * 1000 : Nat) ≤ 0) (ne : j ≠ h)
    (own : (p.hose j).cfg.tank = some t) (m : (p.hose j).mode = .fill ph txn) (going : (p.hose j).mode.isClosing = false) :
    ((creditTank h credit (setMode h (.proving ses) p)).hose j).mode = .fill (.closing .tankLow (now p)) txn.shut := by
  have here : (p.credited h ses t credit).hose j = p.hose j := by rw [credited_hose, if_neg ne.symm]
  rw [creditTank_credited tank]
  show ((lowStockTest t _).hose j).mode = _
  rw [lowStockTest_hose_of_low (by rw [credited_bound]; exact low)]
  exact endFills_low_fill (by rw [here]; exact own) (by rw [here]; exact m) (by rw [here]; exact going)

theorem creditTank_notice (low : (p.tank t).book + credit - ((p.tank t).cfg.lowCutoff * 1000 : Nat) ≤ 0)
    (new : (p.tank t).low = false) :
    Notice.tankLow.isIn (creditTank h credit (setMode h (.proving ses) p)).pendingNotices = true := by
  rw [creditTank_credited tank]
  show Notice.tankLow.isIn (lowStockTest t _).pendingNotices = true
  rw [lowStockTest_notice (by rw [credited_bound]; exact low)
    (by rw [credited_tank, if_pos rfl, bookChange_adjustment]; exact new)]
  exact raise_isIn ..

theorem creditTank_rest : let q := creditTank h credit (setMode h (.proving ses) p)
    q.records = p.records ∧ q.zones = p.zones ∧ q.machines = p.machines := by
  rw [creditTank_credited tank]
  exact ⟨lowStockTest_records .., lowStockTest_zones .., lowStockTest_machines ..⟩

end credited

/-- What an accepted result leaves: R182's effects on the hose, the tank, the fills of the tank, and nothing else. -/
theorem creditTank_effect {p : Part} {h : HoseNo} {ses old : Session} {t : TankNo} (m : (p.hose h).mode = .proving old)
    (tank : (p.hose h).cfg.tank = some t) (credit : Nat) :
    let x := p.tank t
    let u := creditTank h credit (setMode h (.proving ses) p)
    let free : Int := x.book + credit - (x.cfg.lowCutoff * 1000 : Nat)
    let folds := decide (1000000000 < |x.totals.adjustment + credit|)
    (u.hose h).mode = .proving ses ∧
    u.tank t = { x with
      book := x.book + credit, low := decide (free ≤ 0), rest := .none
      setPoint := if folds then x.book else x.setPoint
      totals := if folds then { adjustment := credit }
        else { x.totals with adjustment := x.totals.adjustment + credit }
      folds := if folds then min 255 (x.folds + 1) else x.folds
      loss := x.loss.restart } ∧
    (free ≤ 0 → (x.low = false → (Notice.tankLow).isIn u.pendingNotices = true) ∧
      ∀ j ph txn, (p.hose j).cfg.tank = some t → (p.hose j).mode = .fill ph txn → (p.hose j).mode.isClosing = false →
        ∃ txn', (u.hose j).mode = .fill (.closing .tankLow ⟨p.clock, p.clockUnset⟩) txn') ∧
    (∀ j, j ≠ h → 0 < free ∨ (p.hose j).cfg.tank ≠ some t ∨ (p.hose j).mode.dispensing = false →
      u.hose j = p.hose j) ∧
    (∀ k, k ≠ t → u.tank k = p.tank k) ∧ u.records = p.records ∧ u.zones = p.zones ∧ u.machines = p.machines := by
  refine ⟨?_, ?_, fun low => ⟨creditTank_notice tank low, fun j ph txn own mj going =>
    ⟨_, creditTank_hose_low tank low ?_ own mj going⟩⟩, fun j => creditTank_hose_still tank, fun k ne => ?_, creditTank_rest tank⟩
  · rw [creditTank_hose_same tank]
  · rw [creditTank_tank tank, if_pos rfl, bookChange_adjustment]
  · rintro rfl
    rw [m] at mj; cases mj
  · rw [creditTank_tank tank, if_neg ne.symm]

/-- Settles O57: each check in its order, then the effect of the accepted command. -/
theorem provingSessionsOpenAndTakeResults : Obligations.ProvingSessionsOpenAndTakeResults := by
  refine ⟨fun src b runs h can s hb => ⟨fun bad => outcome_command (proveStart_badValue hb bad),
    fun least most canLeast canMost => ?_⟩, fun src b run h can s hb => ⟨fun no => outcome_command
      (proveResult_noSession hb (by simpa using no)), fun ses m => ?_⟩⟩
  · have nonzero : runs ≠ 0 := by rintro rfl; simp at least
    have ok : (runs = 0 || 5 < runs.toNat || can.toNat < 1000 || 2000000 < can.toNat) = false := by
      simp only [nonzero, decide_false, Bool.false_or, Bool.or_eq_false_iff, decide_eq_false_iff_not]; omega
    refine ⟨fun notOut => outcome_command (proveStart_notOut hb ok (by simpa using notOut)), ⟨fun out unfit =>
      outcome_command (proveStart_unfit hb ok (by simpa using out) ?_), (hoseFit_iff s.toPart h).symm⟩, fun out fit => ?_⟩
    · rw [consumeUp_hoseFit, ← Bool.not_eq_true]
      exact fun fit => unfit ((hoseFit_iff s.toPart h).1 fit)
    · have last := proveStart_fit (p := consumeUp s.toPart) hb ok (by simpa using out) (by rwa [consumeUp_hoseFit])
      refine ⟨fun z zone normal => ?_, fun z zone abnormal => ?_⟩
      · rw [zoneNormal_of (by simpa using zone), consumeUp_zone, normal, if_neg (by decide), consumeUp_canReserve] at last
        refine ⟨fun full => outcome_command (last.trans (if_pos ?_)), fun room => outcome_command (last.trans (if_neg ?_))⟩
        · rw [Bool.not_eq_true', ← Bool.not_eq_true, canReserve_iff]; omega
        · rw [Bool.not_eq_true', Bool.not_eq_false, canReserve_iff]; exact room
      · rw [zoneNormal_of (by simpa using zone), consumeUp_zone, beq_false_of_ne abnormal] at last
        exact outcome_command last
  · have mode : ((consumeUp s.toPart).hose h).mode = .proving ses := by simpa using m
    refine ⟨fun bad => outcome_command (proveResult_noRun hb mode ?_), fun r least at_ => ?_⟩
    · unfold Session.endedRun
      split
      · rfl
      · exact List.getElem?_eq_none (by
          rcases bad with rfl | past
          · contradiction
          · omega)
    have run_ : ses.endedRun run.toNat = some r := by unfold Session.endedRun; rw [if_neg (by omega), at_]
    refine ⟨fun resulted => outcome_command (proveResult_resulted hb mode run_ (Option.isSome_iff_ne_none.2 resulted)),
      fun new bad => outcome_command (proveResult_badValue hb mode run_ new (resultOf_none ?_)),
      fun t new gross some_ tank => ⟨fun range => outcome_command (proveResult_badValue hb mode run_ new
        (resultOf_none (.inr (.inr range)))), fun range => ?_⟩⟩
    · rcases bad with none | rfl
      · exact .inl none
      · exact .inr (.inl rfl)
    · have result := resultOf_some gross (can := can.toNat) (fun e => some_ (BitVec.eq_of_toNat_eq e)) range
      let reading : RunResult :=
        { can := can.toNat, factor := r.factorUsed * can.toNat / r.gross, credit := can.toNat * r.vcf / 1000000 }
      let after : Session := { ses with ended := ses.ended.set (run.toNat - 1) { r with result := some reading } }
      refine ⟨fun p => creditTank h (can.toNat * r.vcf / 1000000) (setMode h (.proving after) p),
        outcome_command (proveResult_taken hb mode run_ new result), ?_⟩
      have effect := creditTank_effect (ses := after) mode (by simpa using tank) (can.toNat * r.vcf / 1000000)
      exact effect

end Sys2Proof.Machine
end

section
/-! Writes through the table window (R170): the slots of an entry's words, and what a write to each kind of slot does. -/

namespace Sys2Proof.Machine

open Sys2Proof

/-! ## The slots of an entry -/

/-- What a write to each word of some cells does, in their order. -/
def slots (cs : List Cell) : List Slot := cs.map (·.slot)

/-- The slot of a one-word and of a two-word number of a range, of a counter that takes 0 only, and of an hour figure. -/
def numberSlot (lo hi : Nat) (f : Nat → Part → Part) : Slot :=
  .one fun w => within (decide (lo ≤ w.toNat) && decide (w.toNat ≤ hi)) (f w.toNat)
def number2Slot (lo hi : Nat) (f : Nat → Part → Part) : Slot :=
  .upper fun w => within (decide (lo ≤ w.toNat) && decide (w.toNat ≤ hi)) (f w.toNat)
def zeroSlot (f : Part → Part) : Slot := .one fun w => within (w == 0) f
def zero2Slot (f : Part → Part) : Slot := .upper fun w => within (w == 0) f
def hourSlot (f : Option Nat → Part → Part) : Slot := .upper fun w p => .ok (f (hoursOf w) p)

section slots
variable (v : Word) (n lo hi : Nat)

@[simp] theorem slots_append (a b : List Cell) : slots (a ++ b) = slots a ++ slots b := List.map_append
@[simp] theorem slots_flatMap {ι : Type} (is : List ι) (f : ι → List Cell) :
    slots (is.flatMap f) = is.flatMap fun i => slots (f i) := List.map_flatMap ..
@[simp] theorem slots_ro : slots (ro v) = [.shut .badValue] := rfl
@[simp] theorem slots_ro2 (l : Long) : slots (ro2 l) = [.shut .badValue, .shut .badValue] := rfl
@[simp] theorem slots_rw1 (f : Word → Part → Except Status Part) : slots (rw1 v f) = [.one f] := rfl
@[simp] theorem slots_rw2 (l : Long) (f : Long → Part → Except Status Part) : slots (rw2 l f) = [.lower, .upper f] := rfl
@[simp] theorem slots_number (f : Nat → Part → Part) : slots (number n lo hi f) = [numberSlot lo hi f] := rfl
@[simp] theorem slots_number2 (f : Nat → Part → Part) : slots (number2 n lo hi f) = [.lower, number2Slot lo hi f] := rfl
@[simp] theorem slots_throttle (f : Nat → Part → Part) :
    slots (throttle n f) = [numberSlot 1 max16 fun n => f (min n 15)] := rfl
@[simp] theorem slots_hourField (x : Option Nat) (f : Option Nat → Part → Part) :
    slots (hourField x f) = [.lower, hourSlot f] := rfl
@[simp] theorem slots_zeroOnly (f : Part → Part) : slots (zeroOnly n f) = [zeroSlot f] := rfl
@[simp] theorem slots_zeroOnly2 (f : Part → Part) : slots (zeroOnly2 n f) = [.lower, zero2Slot f] := rfl
@[simp] theorem slots_gated_open (st : Status) (cs : List Cell) : slots (gated true st cs) = slots cs := rfl
@[simp] theorem slots_gated_shut (st : Status) (cs : List Cell) :
    slots (gated false st cs) = (slots cs).map fun _ => .shut st := by
  unfold gated slots; simp
@[simp] theorem slots_openWords (m : HoseMode) : slots (openWords m) = List.replicate 9 (.shut .badValue) := by
  unfold openWords; cases m.tally <;> rfl
@[simp] theorem slots_deliveryWords (d : Option Delivery) : slots (deliveryWords d) = List.replicate 6 (.shut .badValue) := by
  unfold deliveryWords; cases d <;> rfl
@[simp] theorem slots_readOnlyWords (ws : List Word) : slots (ws.flatMap ro) = List.replicate ws.length (.shut .badValue) := by
  induction ws with
  | nil => rfl
  | cons w ws ih => rw [List.flatMap_cons, slots_append, ih]; rfl

end slots

/-! ## A write by the slot of its word -/

section writeWord
variable {sel : Selection} {k : Nat} {p : Part}

theorem cell_of_slot {s : Slot} (at_ : (slots (cells sel p))[k]? = some s) :
    ∃ v, (cells sel p)[k]? = some ⟨v, s⟩ := by
  rw [slots, List.getElem?_map, Option.map_eq_some_iff] at at_
  obtain ⟨⟨v, t⟩, e, rfl⟩ := at_
  exact ⟨v, e⟩

theorem writeWord_shut {st : Status} (at_ : (slots (cells sel p))[k]? = some (.shut st)) (w : Word) :
    writeWord sel k w p = .error st := by
  obtain ⟨v, e⟩ := cell_of_slot at_
  unfold writeWord; simp only [e]

theorem writeWord_one {f : Word → Part → Except Status Part} (at_ : (slots (cells sel p))[k]? = some (.one f)) (w : Word) :
    writeWord sel k w p = f w p := by
  obtain ⟨v, e⟩ := cell_of_slot at_
  unfold writeWord; simp only [e]

theorem writeWord_lower (at_ : (slots (cells sel p))[k]? = some .lower) (w : Word) :
    writeWord sel k w p = .ok { p with cursor := p.cursor.keep k w } := by
  obtain ⟨v, e⟩ := cell_of_slot at_
  unfold writeWord; simp only [e]

theorem writeWord_upper {f : Long → Part → Except Status Part} (at_ : (slots (cells sel p))[k + 1]? = some (.upper f))
    (w : Word) : writeWord sel (k + 1) w p = f (w ++ p.cursor.keptAt k) p := by
  obtain ⟨v, e⟩ := cell_of_slot at_
  unfold writeWord; simp only [e, Nat.add_sub_cancel]

theorem writeWord_beyond (past : (cells sel p).length ≤ k) (w : Word) : writeWord sel k w p = .ok p := by
  unfold writeWord; simp only [List.getElem?_eq_none past]

end writeWord

theorem within_eq {c : Prop} [Decidable c] {b : Bool} (e : b = true ↔ c) (f : Part → Part) (p : Part) :
    within b f p = if c then .ok (f p) else .error .badValue := by
  unfold within
  by_cases h : c
  · rw [if_pos (e.2 h), if_pos h]
  · rw [if_neg (h ∘ e.1), if_neg h]

/-! ## The fields of one word and of two -/

/-- A word of an entry takes the numbers of a range, in the states that meet a condition. -/
def OneWord (sel : Selection) (when_ : Part → Prop) (k lo hi : Nat) (f : Nat → Part → Part) : Prop :=
  ∀ (w : Word) (p : Part), when_ p →
    writeWord sel k w p = if lo ≤ w.toNat ∧ w.toNat ≤ hi then .ok (f w.toNat p) else .error .badValue

/-- Two words of an entry take the numbers of a range, in the states that meet a condition. -/
def TwoWords (sel : Selection) (when_ : Part → Prop) (k lo hi : Nat) (f : Nat → Part → Part) : Prop :=
  ∀ (w : Word) (p : Part), when_ p →
    writeWord sel k w p = .ok { p with cursor := p.cursor.keep k w } ∧
    (let v := (w ++ p.cursor.keptAt k).toNat
     writeWord sel (k + 1) w p = if lo ≤ v ∧ v ≤ hi then .ok (f v p) else .error .badValue)

/-- Some words of an entry are read-only, in the states that meet a condition. -/
def ReadOnly (sel : Selection) (when_ : Part → Prop) (ks : List Nat) : Prop :=
  ∀ k ∈ ks, ∀ (w : Word) (p : Part), when_ p → writeWord sel k w p = .error .badValue

section fields
variable {sel : Selection} {when_ : Part → Prop} {k lo hi : Nat}

theorem oneWord_number {f : Nat → Part → Part}
    (at_ : ∀ p, when_ p → (slots (cells sel p))[k]? = some (numberSlot lo hi f)) : OneWord sel when_ k lo hi f :=
  fun w p hp => (writeWord_one (at_ p hp) w).trans (within_eq (by simp) _ p)

/-- A word that takes every value. -/
theorem oneWord_any {f : Nat → Part → Part}
    (at_ : ∀ p, when_ p → (slots (cells sel p))[k]? = some (.one fun w p => .ok (f w.toNat p))) :
    OneWord sel when_ k 0 65535 f :=
  fun w p hp => (writeWord_one (at_ p hp) w).trans (if_pos ⟨Nat.zero_le _, Nat.le_of_lt_succ w.isLt⟩).symm

theorem oneWord_zero {f : Part → Part} (at_ : ∀ p, when_ p → (slots (cells sel p))[k]? = some (zeroSlot f)) :
    OneWord sel when_ k 0 0 fun _ => f :=
  fun w p hp => (writeWord_one (at_ p hp) w).trans (within_eq (by
    rw [beq_iff_eq, ← BitVec.toNat_inj]; simp) f p)

theorem twoWords_number {f : Nat → Part → Part} (low : ∀ p, when_ p → (slots (cells sel p))[k]? = some .lower)
    (up : ∀ p, when_ p → (slots (cells sel p))[k + 1]? = some (number2Slot lo hi f)) : TwoWords sel when_ k lo hi f :=
  fun w p hp => ⟨writeWord_lower (low p hp) w, (writeWord_upper (up p hp) w).trans (within_eq (by simp) _ p)⟩

theorem twoWords_zero {f : Part → Part} (low : ∀ p, when_ p → (slots (cells sel p))[k]? = some .lower)
    (up : ∀ p, when_ p → (slots (cells sel p))[k + 1]? = some (zero2Slot f)) : TwoWords sel when_ k 0 0 fun _ => f :=
  fun w p hp => ⟨writeWord_lower (low p hp) w, (writeWord_upper (up p hp) w).trans (within_eq (by
    rw [beq_iff_eq, ← BitVec.toNat_inj]; simp) f p)⟩

theorem hoursOf_eq (w : Long) : hoursOf w = if w.toNat = 4294967295 then none else some w.toNat := by
  unfold hoursOf
  simp only [← BitVec.toNat_inj]
  rfl

/-- An hour figure takes every value, FFFFFFFFh as none. -/
theorem twoWords_hours {f : Option Nat → Part → Part} (low : ∀ p, when_ p → (slots (cells sel p))[k]? = some .lower)
    (up : ∀ p, when_ p → (slots (cells sel p))[k + 1]? = some (hourSlot f)) :
    TwoWords sel when_ k 0 4294967295 fun n => f (if n = 4294967295 then none else some n) :=
  fun w p hp => ⟨writeWord_lower (low p hp) w, by
    rw [writeWord_upper (up p hp) w, hoursOf_eq]
    exact (if_pos ⟨Nat.zero_le _, Nat.le_of_lt_succ (BitVec.isLt _)⟩).symm⟩

theorem readOnly_of {ks : List Nat} (at_ : ∀ p, when_ p →
    ks.map (fun k => (slots (cells sel p))[k]?) = List.replicate ks.length (some (.shut .badValue))) :
    ReadOnly sel when_ ks :=
  fun k hk w p hp => writeWord_shut (List.map_eq_replicate_iff.1 (at_ p hp) k hk) w

end fields

end Sys2Proof.Machine
end

section
/-! What the words of the tables do (R46 to R48, R170, R171): the fields that are not plain numbers, the words beyond an
entry, the course of a WRITE, and tags. -/

namespace Sys2Proof.Machine

open Sys2Proof

/-! ## Fields that are not plain numbers -/

theorem bitsOf_eq (w : Word) (lo n : Nat) : bitsOf w lo n = w.toNat / 2 ^ lo % 2 ^ n := by
  simp [bitsOf, Nat.shiftRight_eq_div_pow]

theorem writeDoubt_eq (m : SlotNo) (w : Word) (p : Part) : writeDoubt m w p =
    if w.getLsbD 15 then .error .badValue
    else .ok (modMachine m (fun x => { x with doubt := w.toNat % 8, abnormal := false }) p) := by
  unfold writeDoubt within
  rw [bitsOf_eq]
  cases w.getLsbD 15 <;> simp

theorem writeTankField_eq (h : HoseNo) (w : Word) (p : Part) : writeTankField h w p =
    if 0 ≤ w.toNat ∧ w.toNat ≤ 6 then .ok (giveTank h (fromOne 6 w.toNat) p) else .error .badValue :=
  within_eq (by simp) _ p

theorem writeClass_eq (i : ProductNo) (w : Word) (p : Part) : writeClass i w p =
    if 0 ≤ w.toNat ∧ w.toNat ≤ 3 then .ok (modProduct i (fun x => { x with
      cls := if w.toNat = 0 then .none else if w.toNat = 1 then .fuel else if w.toNat = 2 then .lube else .coolant }) p)
    else .error .badValue := by
  unfold writeClass
  obtain e | e | e | e | large : w.toNat = 0 ∨ w.toNat = 1 ∨ w.toNat = 2 ∨ w.toNat = 3 ∨ 3 < w.toNat := by omega
  · rw [e]; rfl
  · rw [e]; rfl
  · rw [e]; rfl
  · rw [e]; rfl
  · have none : classOf w.toNat = none := by
      unfold classOf; split <;> first | omega | rfl
    rw [none, if_neg (by omega)]

theorem writeFallback_eq (i : ProductNo) (w : Word) (p : Part) : writeFallback i w p =
    if -500 ≤ w.toInt ∧ w.toInt ≤ 800 then .ok (modProduct i (fun x => { x with fallback := w.toInt }) p)
    else .error .badValue :=
  within_eq (by simp [tempValid]) _ p

theorem writeRuleHead_eq (r : RuleNo) (w : Word) (p : Part) : writeRuleHead r w p =
    let code := w.toNat / 16 % 4
    if code = 3 then .error .badValue
    else .ok (modRule r (fun x => { x with
      inUse := w.getLsbD 0, dir := if w.getLsbD 1 then .upToField else .fieldToUp
      action := if code = 0 then .pass else if code = 1 then .drop else .thin (w.toNat / 256 % 8) }) p) := by
  unfold writeRuleHead
  rw [bitsOf_eq, bitsOf_eq]
  dsimp only
  obtain e | e | e | e : w.toNat / 16 % 4 = 0 ∨ w.toNat / 16 % 4 = 1 ∨ w.toNat / 16 % 4 = 2 ∨ w.toNat / 16 % 4 = 3 := by
    omega
  all_goals simp only [Nat.reducePow, e]; rfl

theorem join16_getLsbD (lo hi : Byte) (i : Nat) :
    (join16 lo hi).getLsbD i = if i < 8 then lo.getLsbD i else hi.getLsbD (i - 8) := BitVec.getLsbD_append

theorem lowByte_join16 (lo hi : Byte) : lowByte (join16 lo hi) = lo := by
  unfold lowByte
  ext i lt
  simp [join16_getLsbD, lt]

theorem highByte_join16 (lo hi : Byte) : highByte (join16 lo hi) = hi := by
  unfold highByte
  ext i lt
  simp [join16_getLsbD, BitVec.getLsbD_eq_getElem lt]

theorem writeRuleNode_join16 (r : RuleNo) (lo hi : Byte) (p : Part) : writeRuleNode r (join16 lo hi) p =
    if lo.toNat ≤ 63 ∧ hi.toNat ≤ 63 then
      .ok (modRule r (fun x => { x with nodeValue := lo.setWidth 6, nodeMask := hi.setWidth 6 }) p)
    else .error .badValue := by
  have low : lowPart (join16 lo hi) = lo.toNat := congrArg BitVec.toNat (lowByte_join16 lo hi)
  have high : highPart (join16 lo hi) = hi.toNat := congrArg BitVec.toNat (highByte_join16 lo hi)
  have value : (join16 lo hi).extractLsb' 0 6 = lo.setWidth 6 := by
    ext i lt
    simp [join16_getLsbD, show i < 8 by omega]
  have mask : (join16 lo hi).extractLsb' 8 6 = hi.setWidth 6 := by
    ext i lt
    simp [join16_getLsbD]
  unfold writeRuleNode
  rw [low, high, value, mask]
  exact within_eq (by simp) _ p

theorem inUse_eq_false_iff (p : Part) (i : ProductNo) : p.inUse i = false ↔
    ∀ t, (p.tank t).cfg.product = some i → (p.tank t).state = .outOfService := by
  simp [Part.inUse, mem_tankNos]

/-! ## Words beyond the entry -/

theorem length_slots (cs : List Cell) : (slots cs).length = cs.length := List.length_map ..

theorem slots_gated_length (ok : Bool) (st : Status) (cs : List Cell) :
    (slots (gated ok st cs)).length = (slots cs).length := by cases ok <;> simp

theorem headWords_length (rs : List Record) : (headWords rs).length = 24 := by
  cases rs with
  | nil => rfl
  | cons r rs =>
    cases body : r.body <;> simp [headWords, Record.words, RecordBody.words, longWords, body]

theorem strapNos_length : strapNos.length = 32 := rfl

theorem cells_length (sel : Selection) (p : Part) : (cells sel p).length = sel.words := by
  rw [← length_slots]
  cases sel with
  | recordHead =>
    simp [cells, Selection.words, headWords_length]
  | hose h =>
    simp [cells, Selection.words, hoseEntry, hoseConfigWords, slots_gated_length, handlingField, pointNos, stepNos, refusalNos]
  | tank t =>
    show (slots (tankEntry t p)).length = 43
    unfold tankEntry
    simp [slots_gated_length, tankConfigWords]
  | strap t => simp [cells, Selection.words, strapEntry, slots_gated_length, List.length_flatMap, strapNos_length]
  | product i => simp [cells, Selection.words, productEntry, slots_gated_length]
  | machine m => simp [cells, Selection.words, machineEntry, productNos]
  | device n => simp [cells, Selection.words, deviceEntry]
  | rule r => simp [cells, Selection.words, ruleEntry]
  | filter => simp [cells, Selection.words, filterEntry]
  | profileA => simp [cells, Selection.words, profileEntry]
  | profileB => simp [cells, Selection.words, profileEntry]
  | zone z => simp [cells, Selection.words, zoneEntry]

/-! ## The course of a WRITE -/

theorem wholeWords_pairs (ws : List (Byte × Byte)) {odd : List Byte} (short : odd.length ≤ 1) :
    wholeWords (ws.flatMap (fun w => [w.1, w.2]) ++ odd) = ws.map fun w => join16 w.1 w.2 := by
  induction ws with
  | nil =>
    match odd with
    | [] | [_] => rfl
    | _ :: _ :: _ => simp at short
  | cons w ws ih =>
    show join16 w.1 w.2 :: wholeWords (ws.flatMap (fun w => [w.1, w.2]) ++ odd) = _
    rw [ih]; rfl

theorem writeCommand_none {data : List Byte} (none : wholeWords data = []) (p : Part) :
    writeCommand data p = refuse .badValue p := by
  unfold writeCommand; rw [none]; rfl

/-- A WRITE of at least one whole word. -/
theorem writeCommand_some {data : List Byte} {ws : List Word} (words : wholeWords data = ws) (some_ : ws ≠ []) (p : Part) :
    let r := writeWords p.cursor.sel ws p.cursor.offset 1 p
    writeCommand data p = {
      part := if p.cursor.mode = .hold ∨ p.cursor.sel = .recordHead then r.1
        else { r.1 with cursor := r.1.cursor.advance ws.length }
      status := (r.2.map (·.1)).getD .done
      data := [if p.cursor.sel.words ≤ p.cursor.offset + ws.length then 1 else 0, BitVec.ofNat 8 ((r.2.map (·.2)).getD 0)] } := by
  unfold writeCommand
  rw [words]
  dsimp only
  rw [if_neg (by simpa using some_)]
  simp only [Bool.or_eq_true, decide_eq_true_eq, endFlag]
  cases (writeWords p.cursor.sel ws p.cursor.offset 1 p).2 <;> rfl

/-! ## Tags -/

theorem firstAt_isSome {α : Type} {t : α → Bool} {l : List α} {a : α} (mem : a ∈ l) (ha : t a = true) (k : Nat) :
    (firstAt t l k).isSome = true := by
  induction l generalizing k with
  | nil => cases mem
  | cons b rest ih =>
    unfold firstAt
    split
    · rfl
    · rcases List.mem_cons.1 mem with rfl | later
      · contradiction
      · exact ih later _

theorem firstIdx_isSome {α : Type} {n : Nat} {t : α → Bool} {v : Vector α n} {i : Fin n} (hi : t (nth v i) = true) :
    (firstIdx t v).isSome = true := by
  have mem : nth v i ∈ v.toList := by simp [nth]
  obtain ⟨k, found⟩ := Option.isSome_iff_exists.1 (firstAt_isSome mem hi 0)
  obtain ⟨j, a, rfl, at_, -⟩ := firstAt_some found
  have lt : 0 + j < n := by
    rw [List.getElem?_eq_some_iff] at at_
    obtain ⟨lt, -⟩ := at_
    simpa using lt
  unfold firstIdx
  simp only [found, dif_pos lt, Option.isSome_some]

theorem findTag_isSome {p : Part} {tag : Long} (nonzero : tag ≠ 0) (held : ∃ j, (p.machine j).tag = tag) :
    (p.findTag tag).isSome = true := by
  obtain ⟨j, e⟩ := held
  unfold Part.findTag
  rw [if_neg nonzero]
  exact firstIdx_isSome (i := j) (beq_iff_eq.2 e)

section writeTag
variable {m : SlotNo} {tag : Long} {p : Part}

theorem writeTag_same (same : tag = (p.machine m).tag) : writeTag m tag p = .ok p := if_pos same

theorem writeTag_busy (new : tag ≠ (p.machine m).tag) (busy : (p.machine m).openHose ≠ none) :
    writeTag m tag p = .error .inUse := by
  unfold writeTag; rw [if_neg new, if_pos (Option.isSome_iff_ne_none.2 busy)]

variable (new : tag ≠ (p.machine m).tag) (free : (p.machine m).openHose = none)
include new free

theorem writeTag_empty (zero : tag = 0) : writeTag m tag p = .ok (modMachine m (fun _ => MachineRec.empty) p) := by
  unfold writeTag; rw [if_neg new, if_neg (by simp [free]), if_pos zero]

theorem writeTag_held (nonzero : tag ≠ 0) (held : ∃ j, (p.machine j).tag = tag) : writeTag m tag p = .error .inUse := by
  unfold writeTag; rw [if_neg new, if_neg (by simp [free]), if_neg nonzero, if_pos (findTag_isSome nonzero held)]

theorem writeTag_taken (nonzero : tag ≠ 0) (unheld : ∀ j, (p.machine j).tag ≠ tag) :
    writeTag m tag p = .ok (modMachine m (fun x => { x with tag := tag }) p) := by
  unfold writeTag
  rw [if_neg new, if_neg (by simp [free]), if_neg nonzero, findTag_unknown (.inr unheld)]
  rfl

end writeTag

end Sys2Proof.Machine
end

section
/-! A tag written whole (R47, R170), and the words of each table (R46 to R48, R170, R171). -/

namespace Sys2Proof.Machine

open Sys2Proof

/-! ## Words in their order -/

section writeWords
variable {sel : Selection} {w : Word} {k : Nat} {p : Part} (rest : List Word) (pos : Nat)

theorem writeWords_taken {q : Part} (ok : writeWord sel k w p = .ok q) :
    writeWords sel (w :: rest) k pos p = writeWords sel rest (k + 1) (pos + 1) q := by
  rw [writeWords, ok]

theorem writeWords_refused {st : Status} (error : writeWord sel k w p = .error st) :
    writeWords sel (w :: rest) k pos p = ((writeWords sel rest (k + 1) (pos + 1) p).1, some (st, pos)) := by
  rw [writeWords, error]

end writeWords

/-! ## A tag written in one WRITE -/

theorem join16_bytes (w : Word) : join16 (lowByte w) (highByte w) = w := by
  refine BitVec.eq_of_getLsbD_eq fun i lt => ?_
  rw [join16_getLsbD]
  split
  · simp [lowByte, *]
  · simp only [highByte, BitVec.getLsbD_extractLsb']
    rw [show decide (i - 8 < 8) = true by simp; omega, Bool.true_and, show 8 + (i - 8) = i by omega]

theorem wholeWords_two (a b : Word) : wholeWords (bytes16 a ++ bytes16 b) = [a, b] := by
  show [join16 (lowByte a) (highByte a), join16 (lowByte b) (highByte b)] = _
  rw [join16_bytes, join16_bytes]

theorem append_halves (x : Long) : (x.extractLsb' 16 16 ++ x.extractLsb' 0 16 : Long) = x := by
  refine BitVec.eq_of_getLsbD_eq fun i lt => ?_
  rw [BitVec.getLsbD_append]
  simp only [BitVec.getLsbD_extractLsb']
  split
  · simp [*]
  · rw [show decide (i - 16 < 16) = true by simp; omega, Bool.true_and, show 16 + (i - 16) = i by omega]

theorem machine_low (m : SlotNo) (p : Part) : (slots (cells (.machine m) p))[0]? = some .lower := by
  simp [cells, machineEntry]
theorem machine_tag (m : SlotNo) (p : Part) : (slots (cells (.machine m) p))[0 + 1]? = some (.upper (writeTag m)) := by
  simp [cells, machineEntry]

/-- The lower word of a tag kept for its field. -/
def Part.lowKept (p : Part) (tag : Long) : Part := { p with cursor := p.cursor.keep 0 (tag.extractLsb' 0 16) }

section tag
variable {m : SlotNo} {tag : Long} {p : Part} (kept : p.cursor.kept.map (·.1) = [0, 12, 15, 17, 19, 21, 26])
include kept

theorem keep_first (w : Word) : p.cursor.keep 0 w = { p.cursor with kept := (0, w) :: p.cursor.kept.tail } := by
  unfold Cursor.keep
  congr 1
  match list : p.cursor.kept with
  | [] => rw [list] at kept; cases kept
  | (k, v) :: rest =>
    rw [list, List.map_cons, List.cons.injEq] at kept
    obtain ⟨rfl, others⟩ := kept
    have same : rest.map (fun e => if e.1 = 0 then (0, w) else e) = rest := by
      refine List.map_congr_left (g := id) (fun e he => if_neg fun zero => ?_) |>.trans (List.map_id rest)
      have : e.1 ∈ [12, 15, 17, 19, 21, 26] := others ▸ List.mem_map_of_mem he
      rw [zero] at this
      simp at this
    show (if (0 : Nat) = 0 then (0, w) else _) :: _ = _
    rw [if_pos rfl, same]
    rfl

theorem lowKept_keptAt : (p.lowKept tag).cursor.keptAt 0 = tag.extractLsb' 0 16 := by
  unfold Part.lowKept
  dsimp only
  rw [keep_first kept]
  rfl

theorem writeWord_tag : writeWord (.machine m) (0 + 1) (tag.extractLsb' 16 16) (p.lowKept tag) =
    writeTag m tag (p.lowKept tag) := by
  rw [writeWord_upper (machine_tag m _), lowKept_keptAt kept, append_halves]

theorem writeWords_tag_ok {q : Part} (ok : writeTag m tag (p.lowKept tag) = .ok q) :
    writeWords (.machine m) [tag.extractLsb' 0 16, tag.extractLsb' 16 16] 0 1 p = (q, none) :=
  (writeWords_taken _ _ (writeWord_lower (machine_low m p) _)).trans
    (writeWords_taken _ _ ((writeWord_tag kept).trans ok))

theorem writeWords_tag_refused {st : Status} (error : writeTag m tag (p.lowKept tag) = .error st) :
    writeWords (.machine m) [tag.extractLsb' 0 16, tag.extractLsb' 16 16] 0 1 p = (p.lowKept tag, some (st, 2)) :=
  (writeWords_taken _ _ (writeWord_lower (machine_low m p) _)).trans
    (writeWords_refused _ _ ((writeWord_tag kept).trans error))

/-- A tag's lower word kept, and the offset moved past the two words in STEP and STEP_ON_WRITE. -/
def Part.tagKept (p : Part) (tag : Long) : Part := { p with cursor := { p.cursor with
  kept := (0, tag.extractLsb' 0 16) :: p.cursor.kept.tail
  offset := match p.cursor.mode with
    | .hold => 0
    | .step | .stepOnWrite => 2 } }

variable (sel : p.cursor.sel = .machine m) (start : p.cursor.offset = 0)
include sel start

/-- The offset after a WRITE of a whole tag. -/
theorem advanced_tagKept {g : Part → Part} (commutes : ∀ (c : Cursor) (q : Part), g { q with cursor := c } = { g q with cursor := c })
    (same : ∀ q : Part, (g q).cursor = q.cursor) :
    (if p.cursor.mode = .hold ∨ p.cursor.sel = .recordHead then g (p.lowKept tag)
      else { g (p.lowKept tag) with cursor := (g (p.lowKept tag)).cursor.advance 2 }) = g (p.tagKept tag) := by
  have e (c : Cursor) : ({ g (p.lowKept tag) with cursor := c } : Part) = g { p with cursor := c } := by
    rw [commutes c p]
    exact congrArg (fun q : Part => { q with cursor := c }) (commutes (p.lowKept tag).cursor p)
  have low : (p.lowKept tag).cursor = { p.cursor with kept := (0, tag.extractLsb' 0 16) :: p.cursor.kept.tail } :=
    keep_first kept _
  have moved : (if p.cursor.mode = .hold ∨ p.cursor.sel = .recordHead then (p.lowKept tag).cursor
      else (p.lowKept tag).cursor.advance 2) = (p.tagKept tag).cursor := by
    rw [low]
    unfold Part.tagKept Cursor.advance
    cases mode : p.cursor.mode <;> simp [sel, start, mode, Selection.words]
  have whole : g (p.tagKept tag) = g { p with cursor := (p.tagKept tag).cursor } := rfl
  rw [whole, ← moved, same]
  split
  · rfl
  · exact e _

theorem writeCommand_tag_ok {g : Part → Part} (commutes : ∀ (c : Cursor) (q : Part), g { q with cursor := c } = { g q with cursor := c })
    (same : ∀ q : Part, (g q).cursor = q.cursor) (ok : writeTag m tag (p.lowKept tag) = .ok (g (p.lowKept tag))) :
    writeCommand (bytes16 (tag.extractLsb' 0 16) ++ bytes16 (tag.extractLsb' 16 16)) p =
      ⟨g (p.tagKept tag), .done, [0, 0]⟩ := by
  have write := writeCommand_some (wholeWords_two (tag.extractLsb' 0 16) (tag.extractLsb' 16 16)) (by simp) p
  dsimp only at write
  rw [sel, start, writeWords_tag_ok kept ok] at write
  rw [write, ← advanced_tagKept kept sel start commutes same, sel]
  rfl

theorem writeCommand_tag_refused {st : Status} (error : writeTag m tag (p.lowKept tag) = .error st) :
    writeCommand (bytes16 (tag.extractLsb' 0 16) ++ bytes16 (tag.extractLsb' 16 16)) p =
      ⟨p.tagKept tag, st, [0, 2]⟩ := by
  have write := writeCommand_some (wholeWords_two (tag.extractLsb' 0 16) (tag.extractLsb' 16 16)) (by simp) p
  dsimp only at write
  rw [sel, start, writeWords_tag_refused kept error] at write
  have moved := advanced_tagKept (tag := tag) (g := id) kept sel start (fun _ _ => rfl) fun _ => rfl
  rw [write, show p.tagKept tag = id (p.tagKept tag) from rfl, ← moved, sel]
  rfl

end tag

end Sys2Proof.Machine
end

section
/-! The words of each table, one by one (R46 to R48, R170, R171). -/

namespace Sys2Proof.Machine

open Sys2Proof

/-- Settles O55: the words of each entry are laid out once as slots, and each clause reads the slot at its place. -/
theorem wordsAndTagsAreWrittenToTheirFields : Obligations.WordsAndTagsAreWrittenToTheirFields := by
  refine ⟨?writes, fun sel w rest k pos p => ⟨rfl, fun q ok => writeWords_taken rest pos ok, fun st error =>
    writeWords_refused rest pos error, fun past => writeWord_beyond (by rwa [cells_length]) w⟩, ?tables, ?tags⟩
  case writes =>
    intro src ws odd s short data c r
    have words : wholeWords data = ws.map fun w => join16 w.1 w.2 := wholeWords_pairs ws short
    refine ⟨fun empty => outcome_command (writeCommand_none (by rw [words, empty]; rfl) _), fun some_ => ?_⟩
    have write := writeCommand_some words (by simpa using some_) (consumeUp s.toPart)
    rw [List.length_map] at write
    exact outcome_command write
  case tags =>
    intro src m tag s sel start kept x keep data
    have keep_eq (p : Part) : keep p = p.tagKept tag := rfl
    have taken {g : Part → Part} (commutes : ∀ (c : Cursor) (q : Part), g { q with cursor := c } = { g q with cursor := c })
        (same : ∀ q : Part, (g q).cursor = q.cursor)
        (ok : writeTag m tag ((consumeUp s.toPart).lowKept tag) = .ok (g ((consumeUp s.toPart).lowKept tag))) :
        exec (.write src data) s = .next (s.answered src .done [0, 0] fun p => g (keep p)) :=
      outcome_command (writeCommand_tag_ok (p := consumeUp s.toPart) kept sel start commutes same ok)
    have refused {st : Status} (error : writeTag m tag ((consumeUp s.toPart).lowKept tag) = .error st) :
        exec (.write src data) s = .next (s.answered src st [0, 2] keep) :=
      outcome_command (writeCommand_tag_refused (p := consumeUp s.toPart) kept sel start error)
    refine ⟨fun same => taken (g := id) (fun _ _ => rfl) (fun _ => rfl) (writeTag_same same), fun new busy =>
      refused (writeTag_busy new busy), fun new free => ⟨fun nonzero unheld => ?_, fun zero => ?_, fun nonzero held =>
      refused (writeTag_held new free nonzero held)⟩⟩
    · exact taken (g := modMachine m fun x => { x with tag := tag }) (fun _ _ => rfl) (fun _ => rfl)
        (writeTag_taken new free nonzero unheld)
    · exact taken (g := modMachine m fun _ => MachineRec.empty) (fun _ _ => rfl) (fun _ => rfl) (writeTag_empty new free zero)
  case tables =>
    intro one two readOnly always hours
    have one_eq : one = OneWord := rfl
    have two_eq : two = TwoWords := rfl
    have readOnly_eq : readOnly = ReadOnly := rfl
    clear_value one two readOnly
    subst one_eq two_eq readOnly_eq
    refine ⟨?machine, ?hose, ?tank, ?product, ?device, ?rule, ?defaults, ?guards, ?holds, ?filter, ?profile, ?head, ?zone⟩
    case machine =>
      intro m put
      have words (p : Part) : slots (cells (.machine m) p) = slots (cells (.machine m) p) := rfl
      conv at words => intro p; rhs; simp [cells, machineEntry, productNos]
      refine ⟨readOnly_of ?_, fun w p => ?_, fun i => oneWord_number ?_, twoWords_number ?_ ?_, oneWord_number ?_,
        twoWords_hours (f := fun n => modMachine m fun x => { x with lastHours := n }) ?_ ?_,
        twoWords_hours (f := fun n => modMachine m fun x => { x with hoursAtFull := n }) ?_ ?_, twoWords_number ?_ ?_,
        twoWords_hours (f := fun n => modMachine m fun x => { x with hoursAtService := n }) ?_ ?_, oneWord_number ?_,
        oneWord_number ?_, oneWord_number ?_, twoWords_number ?_ ?_, oneWord_number ?_⟩
      case refine_2 => exact (writeWord_one (by rw [words]; rfl) w).trans (writeDoubt_eq m w p)
      case refine_3 => intro p _; rw [words p]; fin_cases i <;> rfl
      all_goals intro p _; rw [words p]; rfl
    case hose =>
      intro h out put
      have words (p : Part) (o : out p) : slots (cells (.hose h) p) = slots (cells (.hose h) p) := rfl
      have others (p : Part) (o : ((p.hose h).mode == .out) = false) :
        slots (cells (.hose h) p) = slots (cells (.hose h) p) := rfl
      conv at words =>
        intro p o; rhs
        simp [cells, hoseEntry, hoseConfigWords, handlingField, pointNos, stepNos, refusalNos,
          show (p.hose h).mode = .out from o]
      conv at others =>
        intro p o; rhs
        simp [cells, hoseEntry, hoseConfigWords, handlingField, pointNos, stepNos, refusalNos, o]
      have always_ {k : Nat} {slot : Slot} (o : ∀ p, out p → (slots (cells (.hose h) p))[k]? = some slot)
          (i : ∀ p, ((p.hose h).mode == .out) = false → (slots (cells (.hose h) p))[k]? = some slot) (p : Part) :
          (slots (cells (.hose h) p))[k]? = some slot := by
        cases mode : (p.hose h).mode == .out with
        | true => exact o p (beq_iff_eq.1 mode)
        | false => exact i p mode
      refine ⟨readOnly_of fun p _ => ?hoseReadOnly, fun w p o => ?tankField, twoWords_number ?_ ?_, oneWord_number ?_, oneWord_number ?_,
        oneWord_number ?_, oneWord_number ?_, oneWord_number ?_, oneWord_number ?_, fun i => ⟨oneWord_any ?flow,
        twoWords_number ?factorLow ?factor⟩, oneWord_number ?_, fun i => ⟨oneWord_number ?litres, oneWord_number ?code⟩,
        twoWords_zero (fun p _ => always_ ?_ ?strayLow p) (fun p _ => always_ ?_ ?stray p),
        oneWord_zero fun p _ => always_ ?_ ?jumps p, fun i => oneWord_zero fun p _ => always_ ?refused ?refusals p⟩
      case hoseReadOnly =>
        cases mode : (p.hose h).mode == .out with
        | true => rw [words p (beq_iff_eq.1 mode)]; rfl
        | false => rw [others p mode]; rfl
      case tankField => exact (writeWord_one (by rw [words p o]; rfl) w).trans (writeTankField_eq h w p)
      case flow | factorLow | factor | litres | code | refused => intro p o; rw [words p o]; fin_cases i <;> rfl
      case refusals => intro p o; rw [others p o]; fin_cases i <;> rfl
      case strayLow | stray | jumps => intro p o; rw [others p o]; rfl
      all_goals intro p o; rw [words p o]; rfl
    case tank =>
      intro t out put
      have words (p : Part) (o : out p) : slots (cells (.tank t) p) = slots (tankEntry t p) := rfl
      have others (p : Part) (o : ((p.tank t).state == .outOfService) = false) :
        slots (cells (.tank t) p) = slots (tankEntry t p) := rfl
      have straps (p : Part) (o : out p) : slots (cells (.strap t) p) = slots (cells (.strap t) p) := rfl
      conv at words =>
        intro p o; rhs
        unfold tankEntry
        simp [tankConfigWords, show (p.tank t).state = .outOfService from o]
      conv at others =>
        intro p o; rhs
        unfold tankEntry
        simp [tankConfigWords, o]
      conv at straps =>
        intro p o; rhs
        simp [cells, strapEntry, strapNos, show (p.tank t).state = .outOfService from o]
      refine ⟨readOnly_of fun p _ => ?tankReadOnly, oneWord_number ?_, twoWords_number ?_ ?_, oneWord_number ?_,
        twoWords_number ?_ ?_, oneWord_number ?_, oneWord_number ?_, oneWord_number ?_, oneWord_number ?_,
        oneWord_number ?count, fun i => ⟨oneWord_number ?level, twoWords_number ?low ?volume⟩⟩
      case tankReadOnly =>
        cases state : (p.tank t).state == .outOfService with
        | true => rw [words p (beq_iff_eq.1 state)]; rfl
        | false => rw [others p state]; rfl
      case count => intro p o; rw [straps p o]; rfl
      case level | low | volume => intro p o; rw [straps p o]; fin_cases i <;> rfl
      all_goals intro p o; rw [words p o]; rfl
    case product =>
      intro i idle put
      have words (p : Part) (o : idle p) : slots (cells (.product i) p) = slots (cells (.product i) p) := rfl
      have used (p : Part) (o : p.inUse i = true) : slots (cells (.product i) p) = slots (cells (.product i) p) := rfl
      conv at words =>
        intro p o; rhs
        simp [cells, productEntry, (inUse_eq_false_iff p i).2 o]
      conv at used =>
        intro p o; rhs
        simp [cells, productEntry, o]
      refine ⟨fun w p o => ?cls, oneWord_number ?_, fun w p o => ?fallback, readOnly_of ?_, fun k lt w p busy => ?busy⟩
      case cls => exact (writeWord_one (by rw [words p o]; rfl) w).trans (writeClass_eq i w p)
      case fallback => exact (writeWord_one (by rw [words p o]; rfl) w).trans (writeFallback_eq i w p)
      case busy =>
        refine writeWord_shut ?_ w
        rw [used p (by rw [← Bool.not_eq_false, inUse_eq_false_iff]; exact busy)]
        interval_cases k <;> rfl
      all_goals intro p o; rw [words p o]; rfl
    case device =>
      intro n
      have words (p : Part) : slots (cells (.device n) p) = slots (cells (.device n) p) := rfl
      conv at words => intro p; rhs; simp [cells, deviceEntry]
      refine ⟨oneWord_any ?_, oneWord_zero ?_, readOnly_of ?_⟩ <;> intro p _ <;> rw [words p] <;> rfl
    case rule =>
      intro r put
      have words (p : Part) : slots (cells (.rule r) p) = slots (cells (.rule r) p) := rfl
      conv at words => intro p; rhs; simp [cells, ruleEntry]
      refine ⟨fun w p => ?_, fun lo hi p => ?_, fun lo hi p => ?_, readOnly_of ?_, oneWord_zero ?_⟩
      · exact (writeWord_one (by rw [words]; rfl) w).trans (writeRuleHead_eq r w p)
      · refine (writeWord_one (by rw [words]; rfl) _).trans ?_
        unfold writeRuleKind
        rw [lowByte_join16, highByte_join16]
        rfl
      · exact (writeWord_one (by rw [words]; rfl) _).trans (writeRuleNode_join16 r lo hi p)
      · intro p _; rw [words p]; rfl
      · intro p _; rw [words p]; rfl
    case defaults =>
      exact fun w p => writeWord_one (f := writeDefaults) (by simp [cells, filterEntry]) w
    case guards => exact oneWord_zero fun p _ => by simp [cells, filterEntry]
    case holds => exact oneWord_zero fun p _ => by simp [cells, filterEntry]
    case filter => exact readOnly_of fun p _ => by simp [cells, filterEntry]
    case profile =>
      intro l sel put
      have words (p : Part) : slots (cells sel p) = slots (profileEntry l p.profileA) := by cases l <;> rfl
      conv at words => intro p; rhs; simp [profileEntry]
      have put_eq : put = modProfile l := by funext f p; cases l <;> rfl
      clear_value put
      subst put_eq
      refine ⟨oneWord_number ?_, oneWord_number ?_, oneWord_number ?_, oneWord_number ?_, oneWord_number ?_, fun w p => ?flags⟩
      case flags => exact writeWord_one (f := fun w p => .ok (modProfile l (fun x =>
        { x with fuel := w.getLsbD 0, lube := w.getLsbD 1, coolant := w.getLsbD 2 }) p)) (by rw [words]; rfl) w
      all_goals intro p _; rw [words p]; rfl
    case head =>
      intro k hk w p _
      refine writeWord_shut ?_ w
      show (slots ((headWords p.records).flatMap ro))[k]? = _
      rw [slots_readOnlyWords, headWords_length, List.getElem?_replicate_of_lt (List.mem_range.1 hk)]
    case zone =>
      intro z
      have words (p : Part) : slots (cells (.zone z) p) = slots (cells (.zone z) p) := rfl
      conv at words => intro p; rhs; simp [cells, zoneEntry]
      refine ⟨readOnly_of ?_, oneWord_zero ?_, oneWord_number ?_⟩ <;> intro p _ <;> rw [words p] <;> rfl

end Sys2Proof.Machine
end

section
/-! What each phase of RESTART (R175) does to records, machines, tanks and zones, one hose or tank at a time. -/

namespace Sys2Proof.Machine

open Sys2Proof

/-! ## A run over a list, seen at one member -/

/-- What only the operation on one member changes is what that operation leaves of it. -/
theorem each_at {ι α : Type} {is : List ι} (nodup : is.Nodup) {i : ι} (hi : i ∈ is) (view : Part → α)
    {f : ι → Part → Part} (other : ∀ j, j ≠ i → ∀ p, view (f j p) = view p) (p : Part) :
    ∃ q, view q = view p ∧ view (each is f p) = view (f i q) := by
  obtain ⟨before, later, hb, hl, e⟩ := each_split nodup hi f p
  exact ⟨each before f p, each_keep_mem view f before (fun j hj => other j (hb j hj).1) p,
    e ▸ each_keep_mem view f later (fun j hj => other j (hl j hj).1) _⟩

/-! ## Step 1: the fills -/

/-- The cause a fill of this phase closes with: a fill in CLOSING keeps its own (R20). -/
def Phase.closeCause : Phase → EndCause
  | .closing c _ => c
  | _ => .restart

/-- A hose with no fill is only freed of its pending out. -/
theorem forceClose_of_noFill {h : HoseNo} {p : Part} (m : ∀ ph t, (p.hose h).mode ≠ .fill ph t) :
    forceClose h p = setPendingOut h false p := by
  unfold forceClose
  cases e : (p.hose h).mode with
  | fill ph t => exact absurd e (m ph t)
  | _ => rfl

/-- A fill is closed: by its transaction as it is, or as entry to CLOSING leaves it. -/
theorem forceClose_of_fill {h : HoseNo} {p : Part} {ph : Phase} {t : Transaction} (m : (p.hose h).mode = .fill ph t) :
    ∃ (q : Part) (t' : Transaction) (ended : Stamp) (orders : List Telegram), (t' = t ∨ t' = t.shut) ∧
      q.records = p.records ∧ q.reserved = p.reserved ∧ q.machines = p.machines ∧ q.tanks = p.tanks ∧ q.zones = p.zones ∧
      forceClose h p = setPendingOut h false
        (sendAll orders (modHose h Hose.freed (q.fillClosed h t' ph.closeCause ended))) := by
  cases going : (p.hose h).mode.isClosing with
  | true =>
    obtain ⟨cause, ended, x, e⟩ := HoseMode.tally_of_closing going
    cases m.symm.trans e
    refine ⟨p, t, ended, p.freedOrders h, .inl rfl, rfl, rfl, rfl, rfl, rfl, ?_⟩
    rw [forceClose_eq, endRequest_of_closing going, if_neg (by decide), leaveClosing_eq m]
    rfl
  | false =>
    have cause : ph.closeCause = .restart := by
      cases ph with
      | closing c e => rw [m] at going; cases going
      | _ => rfl
    refine ⟨enterClosing h .restart t p, t.shut, now p, (enterClosing h .restart t p).freedOrders h, .inr rfl,
      enterClosing_records .., enterClosing_reserved ..,
      ?_, enterClosing_tanks .., ?_, ?_⟩
    · rw [enterClosing_frame]
    · rw [enterClosing_frame]
    · rw [forceClose_eq, endRequest_of_fill m going, leaveClosing_eq (by rw [enterClosing_hose_same]), cause]

section forceClose
variable {h : HoseNo} {p : Part} {ph : Phase} {t : Transaction}

/-- The FILL record a fill leaves. -/
theorem forceClose_record (m : (p.hose h).mode = .fill ph t) : ∃ rec, (forceClose h p).records = p.records ++ [rec] ∧
    rec.hose = h.val + 1 ∧ rec.tag = t.tag ∧ rec.cause = ph.closeCause.code ∧
    rec.body = .fill t.tally.gross t.tally.net t.cap (t.tally.lastTemp.getD 0) := by
  obtain ⟨q, t', ended, orders, same, records, -, -, -, -, e⟩ := forceClose_of_fill m
  refine ⟨{ fillRecord h t' ph.closeCause ended with serial := q.nextSerial }, ?_, rfl, ?_, rfl, ?_⟩
  · rw [e, ← records]; exact fillClosed_records ..
  · obtain rfl | rfl := same <;> rfl
  · obtain rfl | rfl := same <;> rfl

theorem forceClose_reserved (m : (p.hose h).mode = .fill ph t) : (forceClose h p).reserved = p.reserved - 1 := by
  obtain ⟨q, t', ended, orders, -, -, reserved, -, -, -, e⟩ := forceClose_of_fill m
  rw [e, ← reserved]; exact fillClosed_reserved ..

/-- The close update of the fill's machine. -/
theorem forceClose_machine_same (m : (p.hose h).mode = .fill ph t) :
    (forceClose h p).machine t.slot = t.closes ph.closeCause (p.machine t.slot) := by
  obtain ⟨q, t', ended, orders, same, -, -, machines, -, -, e⟩ := forceClose_of_fill m
  have closed : (forceClose h p).machine t'.slot = t'.closes ph.closeCause (p.machine t'.slot) := by
    rw [e, show p.machine t'.slot = q.machine t'.slot by unfold Part.machine; rw [machines]]
    exact fillClosed_machine_same ..
  obtain rfl | rfl := same <;> exact closed

/-- A machine whose fill the hose does not hold is left alone. -/
theorem forceClose_machine_other {i : SlotNo} (free : (p.hose h).mode.holds i = false) :
    (forceClose h p).machine i = p.machine i := by
  by_cases m : ∃ ph t, (p.hose h).mode = .fill ph t
  · obtain ⟨ph, t, m⟩ := m
    obtain ⟨q, t', ended, orders, same, -, -, machines, -, -, e⟩ := forceClose_of_fill m
    have ne : i ≠ t'.slot := by
      rintro rfl
      rw [m] at free
      obtain rfl | rfl := same <;> simp [HoseMode.holds, Transaction.shut] at free
    rw [e, show p.machine i = q.machine i by unfold Part.machine; rw [machines]]
    exact fillClosed_machine_other _ _ _ _ _ ne
  · rw [forceClose_of_noFill fun ph t e => m ⟨ph, t, e⟩]; rfl

end forceClose

/-- A tank with its windows ended and its open hoses forgotten. -/
def Tank.quiet (x : Tank) : Tank := { x with loss := .none, rest := .none, openHoses := 0 }

@[simp] theorem Tank.quiet_openHoses (x : Tank) : x.quiet.openHoses = 0 := rfl
@[simp] theorem Tank.quiet_loss (x : Tank) : x.quiet.loss = .none := rfl
@[simp] theorem Tank.quiet_rest (x : Tank) : x.quiet.rest = .none := rfl
@[simp] theorem Tank.quiet_delivery (x : Tank) : x.quiet.delivery = x.delivery := rfl
@[simp] theorem Tank.quiet_cfg (x : Tank) : x.quiet.cfg = x.cfg := rfl
@[simp] theorem Tank.quiet_state (x : Tank) : x.quiet.state = x.state := rfl
@[simp] theorem Tank.quiet_book (x : Tank) : x.quiet.book = x.book := rfl

theorem forceClose_quiet (h : HoseNo) (p : Part) (k : TankNo) : ((forceClose h p).tank k).quiet = (p.tank k).quiet := by
  by_cases m : ∃ ph t, (p.hose h).mode = .fill ph t
  · obtain ⟨ph, t, m⟩ := m
    obtain ⟨q, t', ended, orders, -, -, -, -, tanks, -, e⟩ := forceClose_of_fill m
    have tank : q.tank k = p.tank k := by unfold Part.tank; rw [tanks]
    rw [e]
    show ((q.fillClosed h t' ph.closeCause ended).tank k).quiet = _
    rw [fillClosed_tank, tank]
    split <;> rfl
  · rw [forceClose_of_noFill fun ph t e => m ⟨ph, t, e⟩]; rfl

theorem forceClose_zones (h : HoseNo) (p : Part) : (forceClose h p).zones = p.zones := by
  by_cases m : ∃ ph t, (p.hose h).mode = .fill ph t
  · obtain ⟨ph, t, m⟩ := m
    obtain ⟨q, t', ended, orders, -, -, -, -, -, zones, e⟩ := forceClose_of_fill m
    rw [e, ← zones]; exact fillClosed_zones ..
  · rw [forceClose_of_noFill fun ph t e => m ⟨ph, t, e⟩]; rfl

theorem forceClose_sansAccounts (h : HoseNo) (p : Part) : (forceClose h p).sansAccounts = p.sansAccounts := by
  rw [forceClose_eq]
  exact (leaveClosing_sansAccounts ..).trans (accounts_of_fills (endRequest_sansFills ..))

/-! ## Step 2: the deliveries -/

/-- The part before the tank of an ended delivery goes back to IN_SERVICE. -/
def Part.deliveryEnded (p : Part) (t : TankNo) (cause : CloseCause) (d : Delivery) : Part :=
  let x := p.tank t
  let endGauge := x.gaugeNet.getD d.startGauge
  let received : Int := (endGauge : Int) - d.startGauge + d.outflow
  let off : Int := received - ((d.declared * 1000 : Nat) : Int)
  let q := if d.closed.isNone then sendInlet t 0 p else p
  let q := lowStockTest t (modTank t (fun x => x.bookChange .received received) q)
  let q := placeReserved (deliveryRecord t (numberOf x.cfg.product) d endGauge received (d.closed.getD cause) (now p)) q
  let q := if d.declared * x.cfg.tolerance < off.natAbs then raise .deliveryVariance q else q
  modTank t (fun x => { x with delivery := none }) q

theorem endDelivery_eq (t : TankNo) (cause : CloseCause) (d : Delivery) (p : Part) :
    endDelivery t cause d p = setTankState t .inService (p.deliveryEnded t cause d) := rfl

section deliveryEnded
variable (p : Part) (t : TankNo) (cause : CloseCause) (d : Delivery)

/-- What the inlet's order, the low-stock test, a record and a notice keep, the end of a delivery keeps. -/
theorem deliveryEnded_keep {α : Type} (view : Part → α) (order : ∀ p, view (sendInlet t 0 p) = view p)
    (mod : ∀ f p, view (modTank t f p) = view p) (low : ∀ p, view (lowStockTest t p) = view p)
    (place : ∀ r p, view (placeReserved r p) = view p) (note : ∀ p, view (raise .deliveryVariance p) = view p) :
    view (p.deliveryEnded t cause d) = view p := by
  unfold Part.deliveryEnded
  dsimp only
  rw [mod]
  split <;> split <;> simp only [order, mod, low, place, note]

theorem deliveryEnded_zones : (p.deliveryEnded t cause d).zones = p.zones :=
  deliveryEnded_keep p t cause d (·.zones) (fun _ => sendInlet_zones ..) (fun _ _ => rfl)
    (fun _ => lowStockTest_zones ..) (fun _ _ => placeReserved_zones ..) (fun _ => raise_zones ..)

theorem deliveryEnded_tank_other {k : TankNo} (ne : k ≠ t) : (p.deliveryEnded t cause d).tank k = p.tank k :=
  deliveryEnded_keep p t cause d (·.tank k) (fun _ => sendInlet_tank ..) (fun _ _ => by rw [modTank_tank, if_neg ne.symm])
    (fun _ => by rw [lowStockTest_tank, if_neg ne.symm]) (fun _ _ => placeReserved_tank ..) (fun _ => raise_tank ..)

theorem deliveryEnded_tank_cfg : ((p.deliveryEnded t cause d).tank t).cfg = (p.tank t).cfg := by
  unfold Part.deliveryEnded
  dsimp only
  rw [modTank_tank_same]
  split <;> split <;>
    simp only [raise_tank, placeReserved_tank, lowStockTest_tank, if_true, modTank_tank_same, sendInlet_tank, bookChange_cfg]

theorem deliveryEnded_tank_delivery : ((p.deliveryEnded t cause d).tank t).delivery = none := by
  unfold Part.deliveryEnded
  dsimp only
  rw [modTank_tank_same]

theorem deliveryEnded_records : ∃ rec, (p.deliveryEnded t cause d).records = p.records ++ [rec] := by
  unfold Part.deliveryEnded
  dsimp only
  rw [modTank_records]
  split <;> split <;>
    simp only [raise_records, placeReserved_records, lowStockTest_records, modTank_records, sendInlet_records,
      List.append_cancel_left_eq, List.cons.injEq, and_true, exists_eq']

theorem deliveryEnded_reserved : (p.deliveryEnded t cause d).reserved = p.reserved - 1 := by
  unfold Part.deliveryEnded
  dsimp only
  rw [modTank_reserved]
  split <;> split <;>
    simp only [raise_reserved, placeReserved_reserved, lowStockTest_reserved, modTank_reserved, sendInlet_reserved]

end deliveryEnded

theorem restartDelivery_of_not {t : TankNo} {p : Part} (m : (p.tank t).state ≠ .receiving ∨ (p.tank t).delivery = none) :
    restartDelivery t p = p := by
  unfold restartDelivery
  split
  · rename_i state delivery
    rcases m with m | m
    · exact absurd state m
    · rw [delivery] at m; cases m
  · rfl

theorem restartDelivery_of {t : TankNo} {p : Part} {d : Delivery} (state : (p.tank t).state = .receiving)
    (delivery : (p.tank t).delivery = some d) :
    restartDelivery t p = setTankState t .inService (p.deliveryEnded t .restart d) := by
  rw [← endDelivery_eq]
  unfold restartDelivery; simp only [state, delivery]

/-- All that the end of a delivery by RESTART can do. -/
theorem restartDelivery_cases (t : TankNo) (p : Part) :
    (((p.tank t).state ≠ .receiving ∨ (p.tank t).delivery = none) ∧ restartDelivery t p = p) ∨
    ∃ d, (p.tank t).state = .receiving ∧ (p.tank t).delivery = some d ∧
      restartDelivery t p = setTankState t .inService (p.deliveryEnded t .restart d) := by
  by_cases state : (p.tank t).state = .receiving
  · cases delivery : (p.tank t).delivery with
    | none => exact .inl ⟨.inr rfl, restartDelivery_of_not (.inr delivery)⟩
    | some d => exact .inr ⟨d, state, rfl, restartDelivery_of state delivery⟩
  · exact .inl ⟨.inl state, restartDelivery_of_not (.inl state)⟩

theorem restartDelivery_tank_other {t k : TankNo} (ne : k ≠ t) (p : Part) : (restartDelivery t p).tank k = p.tank k := by
  obtain ⟨-, e⟩ | ⟨d, -, -, e⟩ := restartDelivery_cases t p <;> rw [e]
  rw [setTankState_tank, if_neg ne.symm, deliveryEnded_tank_other _ _ _ _ ne]

theorem restartDelivery_cfg (t k : TankNo) (p : Part) : ((restartDelivery t p).tank k).cfg = (p.tank k).cfg := by
  by_cases ne : k = t
  · subst ne
    obtain ⟨-, e⟩ | ⟨d, -, -, e⟩ := restartDelivery_cases k p <;> rw [e]
    rw [setTankState_tank, if_pos rfl]; exact deliveryEnded_tank_cfg ..
  · rw [restartDelivery_tank_other ne]

theorem restartDelivery_sansTrips (t : TankNo) (p : Part) : (restartDelivery t p).sansTrips = p.sansTrips := by
  obtain ⟨-, e⟩ | ⟨d, -, -, e⟩ := restartDelivery_cases t p <;> rw [e]
  exact endDelivery_sansTrips ..

/-! ## Step 3: the proving sessions -/

theorem enterOut_tank (h : HoseNo) (p : Part) (k : TankNo) : (enterOut h p).tank k = p.tank k := by
  rw [enterOut_eq]; rfl

theorem abandonSession_sansFills (h : HoseNo) (p : Part) : (abandonSession h p).sansFills = p.sansFills := by
  obtain ⟨-, e⟩ | ⟨s, -, -, e⟩ | ⟨s, r, -, -, e⟩ := abandonSession_cases h p <;> rw [e]
  · rw [enterOut_sansFills]; rfl
  · rw [enterOut_sansFills]; exact endRun_sansFills ..

theorem abandonSession_quiet (h : HoseNo) (p : Part) (k : TankNo) :
    ((abandonSession h p).tank k).quiet = (p.tank k).quiet := by
  obtain ⟨-, e⟩ | ⟨s, -, -, e⟩ | ⟨s, r, -, -, e⟩ := abandonSession_cases h p <;> rw [e]
  · rw [enterOut_tank]; rfl
  · rw [enterOut_tank]
    show ((endRun h .abandoned s r p).tank k).quiet = _
    rw [endRun_tank]; split <;> rfl

end Sys2Proof.Machine
end

section
/-! What RESTART (R175, R90, R184) leaves of the record queue, the machines, the tanks and the zones. -/

namespace Sys2Proof.Machine

open Sys2Proof

/-! ## Reservations and records -/

/-- The reservations are those promised, and no session has begun more runs than it planned. -/
def Part.Booked (p : Part) : Prop := p.reserved = p.promised ∧ ∀ h, (p.hose h).mode.SessionFits

/-- The records of `q` are those of `p` and others, placed into places that `p` had reserved. -/
def Part.Draws (p q : Part) : Prop := ∃ placed, q.records = p.records ++ placed ∧ placed.length + q.reserved ≤ p.reserved

theorem Part.Draws.refl (p : Part) : p.Draws p := ⟨[], by simp, by simp⟩

theorem Part.Draws.trans {p q r : Part} (a : p.Draws q) (b : q.Draws r) : p.Draws r := by
  obtain ⟨xs, first, room⟩ := a
  obtain ⟨ys, later, room'⟩ := b
  exact ⟨xs ++ ys, by rw [later, first, List.append_assoc], by rw [List.length_append]; omega⟩

theorem Part.Draws.same {p q : Part} (records : q.records = p.records) (reserved : q.reserved ≤ p.reserved) : p.Draws q :=
  ⟨[], by simp [records], by simpa using reserved⟩

theorem Part.Draws.one {p q : Part} {rec : Record} (records : q.records = p.records ++ [rec])
    (reserved : q.reserved + 1 ≤ p.reserved) : p.Draws q :=
  ⟨[rec], records, by simp only [List.length_singleton]; omega⟩

/-- Two sums over a table that differ in one entry. -/
theorem sum_of_one_changed {n : Nat} {f g : Fin n → Nat} (i : Fin n) (other : ∀ j, j ≠ i → g j = f j) :
    ∑ j, g j + f i = ∑ j, f j + g i := by
  have rest : ∑ j ∈ Finset.univ.erase i, g j = ∑ j ∈ Finset.univ.erase i, f j :=
    Finset.sum_congr rfl fun j hj => other j (Finset.ne_of_mem_erase hj)
  rw [← Finset.add_sum_erase _ g (Finset.mem_univ i), ← Finset.add_sum_erase _ f (Finset.mem_univ i), rest]
  omega

theorem promised_eq (p : Part) :
    p.promised = ∑ h, (p.hose h).mode.promised + ∑ t, (p.tank t).promised := by
  unfold Part.promised
  rw [sum_hoseNos]
  have tanks : (tankNos.map fun t => (p.tank t).promised).sum = ∑ t, (p.tank t).promised := by
    simp [tankNos, Fin.sum_univ_six]; omega
  rw [tanks]

section quiet
variable {x y : Tank} (e : y.quiet = x.quiet)
include e

theorem Tank.cfg_of_quiet : y.cfg = x.cfg := by rw [← y.quiet_cfg, e, x.quiet_cfg]
theorem Tank.state_of_quiet : y.state = x.state := by rw [← y.quiet_state, e, x.quiet_state]
theorem Tank.book_of_quiet : y.book = x.book := by rw [← y.quiet_book, e, x.quiet_book]
theorem Tank.delivery_of_quiet : y.delivery = x.delivery := by rw [← y.quiet_delivery, e, x.quiet_delivery]
theorem Tank.promised_of_quiet : y.promised = x.promised := by unfold Tank.promised; rw [Tank.delivery_of_quiet e]

end quiet

/-- What is promised, after one hose has changed. -/
theorem promised_hose {p q : Part} (h : HoseNo) (other : ∀ j, j ≠ h → q.hose j = p.hose j)
    (tanks : ∀ k, (q.tank k).quiet = (p.tank k).quiet) :
    q.promised + (p.hose h).mode.promised = p.promised + (q.hose h).mode.promised := by
  have hoses : ∑ j, (q.hose j).mode.promised + (p.hose h).mode.promised =
      ∑ j, (p.hose j).mode.promised + (q.hose h).mode.promised :=
    sum_of_one_changed (f := fun j => (p.hose j).mode.promised) (g := fun j => (q.hose j).mode.promised) h
      fun j ne => congrArg (·.mode.promised) (other j ne)
  rw [promised_eq, promised_eq, Finset.sum_congr rfl fun k _ => Tank.promised_of_quiet (tanks k)]
  omega

/-- What is promised, after one tank has changed. -/
theorem promised_tank {p q : Part} (t : TankNo) (hoses : ∀ j, q.hose j = p.hose j)
    (other : ∀ k, k ≠ t → q.tank k = p.tank k) :
    q.promised + (p.tank t).promised = p.promised + (q.tank t).promised := by
  have tanks : ∑ k, (q.tank k).promised + (p.tank t).promised = ∑ k, (p.tank k).promised + (q.tank t).promised :=
    sum_of_one_changed (f := fun k => (p.tank k).promised) (g := fun k => (q.tank k).promised) t
      fun k ne => congrArg Tank.promised (other k ne)
  simp only [promised_eq, hoses]
  omega

theorem promised_hose_le (p : Part) (h : HoseNo) : (p.hose h).mode.promised ≤ p.promised := by
  rw [promised_eq]
  exact (Finset.single_le_sum (f := fun j => (p.hose j).mode.promised) (fun _ _ => Nat.zero_le _)
    (Finset.mem_univ h)).trans (Nat.le_add_right ..)

theorem promised_tank_le (p : Part) (t : TankNo) : (p.tank t).promised ≤ p.promised := by
  rw [promised_eq]
  exact (Finset.single_le_sum (f := fun k => (p.tank k).promised) (fun _ _ => Nat.zero_le _)
    (Finset.mem_univ t)).trans (Nat.le_add_left ..)

theorem HoseMode.forced_promised (b : Bool) {m : HoseMode} {ph : Phase} {t : Transaction} (e : m = .fill ph t) :
    (m.forced b).promised = 0 := by subst e; cases b <;> rfl
theorem HoseMode.forced_of_noFill (b : Bool) {m : HoseMode} (e : ∀ ph t, m ≠ .fill ph t) : m.forced b = m := by
  cases m with
  | fill ph t => exact absurd rfl (e ph t)
  | _ => rfl
theorem HoseMode.forced_fits (b : Bool) {m : HoseMode} (fits : m.SessionFits) : (m.forced b).SessionFits := by
  cases m with
  | fill ph t => cases b <;> trivial
  | _ => exact fits

/-- The close of a fill gives its reservation to its record. -/
theorem forceClose_draws (h : HoseNo) {p : Part} (booked : p.Booked) :
    (forceClose h p).Booked ∧ p.Draws (forceClose h p) := by
  obtain ⟨reserved, fits⟩ := booked
  have mode : ((forceClose h p).hose h).mode = (p.hose h).mode.forced (p.hose h).pendingOut := by
    rw [forceClose_hose_same]; rfl
  have sum := promised_hose (q := forceClose h p) h (fun _ ne => forceClose_hose_other ne p) (forceClose_quiet h p)
  have fits' (j : HoseNo) : ((forceClose h p).hose j).mode.SessionFits := by
    by_cases e : j = h
    · subst e; rw [mode]; exact HoseMode.forced_fits _ (fits _)
    · rw [forceClose_hose_other e]; exact fits j
  by_cases m : ∃ ph t, (p.hose h).mode = .fill ph t
  · obtain ⟨ph, t, m⟩ := m
    obtain ⟨rec, records, -⟩ := forceClose_record m
    have held : (p.hose h).mode.promised = 1 := by rw [m]; rfl
    have le := promised_hose_le p h
    rw [mode, HoseMode.forced_promised _ m] at sum
    have res := forceClose_reserved m
    exact ⟨⟨by omega, fits'⟩, .one records (by omega)⟩
  · have noFill : ∀ ph t, (p.hose h).mode ≠ .fill ph t := fun ph t e => m ⟨ph, t, e⟩
    rw [mode, HoseMode.forced_of_noFill _ noFill] at sum
    have res : (forceClose h p).reserved = p.reserved := by rw [forceClose_of_noFill noFill]; rfl
    exact ⟨⟨by omega, fits'⟩, .same (by rw [forceClose_of_noFill noFill]; rfl) res.le⟩

theorem forceCloses_draws (hs : List HoseNo) {p : Part} (booked : p.Booked) :
    (each hs forceClose p).Booked ∧ p.Draws (each hs forceClose p) :=
  each_invariant (fun q => q.Booked ∧ p.Draws q) _ _ (fun h _ _ ⟨ok, drawn⟩ =>
    ⟨(forceClose_draws h ok).1, drawn.trans (forceClose_draws h ok).2⟩) ⟨booked, .refl p⟩

@[simp] theorem recoveryTest_reserved (z : ZoneNo) (p : Part) : (recoveryTest z p).reserved = p.reserved := by
  unfold recoveryTest; split <;> rfl

/-- The end of a delivery gives its reservation to its record. -/
theorem restartDelivery_draws (t : TankNo) {p : Part} (noFills : p.NoFills) (booked : p.Booked) :
    (restartDelivery t p).Booked ∧ p.Draws (restartDelivery t p) := by
  obtain ⟨-, e⟩ | ⟨d, -, delivery, e⟩ := restartDelivery_cases t p
  · rw [e]; exact ⟨booked, .refl p⟩
  obtain ⟨reserved, fits⟩ := booked
  have hoses := restartDelivery_noFills noFills t
  have sum := promised_tank (q := restartDelivery t p) t hoses fun k ne => restartDelivery_tank_other ne p
  have held : (p.tank t).promised = 1 := by simp [Tank.promised, delivery]
  have left : ((restartDelivery t p).tank t).promised = 0 := by
    rw [e, setTankState_tank, if_pos rfl]
    simp [Tank.promised, deliveryEnded_tank_delivery]
  have le := promised_tank_le p t
  obtain ⟨rec, records⟩ := deliveryEnded_records p t .restart d
  have records' : (restartDelivery t p).records = p.records ++ [rec] := by
    rw [e, ← records]; exact recoveryTest_records ..
  have res : (restartDelivery t p).reserved = p.reserved - 1 := by
    rw [e, ← deliveryEnded_reserved p t .restart d]; exact recoveryTest_reserved ..
  exact ⟨⟨by omega, fun h => by rw [hoses]; exact fits h⟩, .one records' (by omega)⟩

theorem restartDeliveries_draws {p : Part} (noFills : p.NoFills) (booked : p.Booked) :
    (each tankNos restartDelivery p).Booked ∧ p.Draws (each tankNos restartDelivery p) := by
  have all := each_invariant (fun q => q.NoFills ∧ q.Booked ∧ p.Draws q) restartDelivery tankNos
    (fun t _ q ⟨free, ok, drawn⟩ => ⟨NoFills.congr free (restartDelivery_noFills free t),
      (restartDelivery_draws t free ok).1, drawn.trans (restartDelivery_draws t free ok).2⟩)
    ⟨noFills, booked, .refl p⟩
  exact all.2

theorem HoseMode.abandoned_fits {m : HoseMode} (fits : m.SessionFits) : m.abandoned.SessionFits := by
  cases m with
  | proving s => trivial
  | _ => exact fits

@[simp] theorem enterOut_records (h : HoseNo) (p : Part) : (enterOut h p).records = p.records := by rw [enterOut_eq]; rfl
@[simp] theorem enterOut_reserved (h : HoseNo) (p : Part) : (enterOut h p).reserved = p.reserved := by rw [enterOut_eq]; rfl

/-- The abandoning of a session gives its reservations back, and one to the record of its run in progress. -/
theorem abandonSession_draws (h : HoseNo) {p : Part} (booked : p.Booked) :
    (abandonSession h p).Booked ∧ p.Draws (abandonSession h p) := by
  have sum := promised_hose (q := abandonSession h p) h (fun _ ne => abandonSession_hose_other ne p)
    (abandonSession_quiet h p)
  have left {s : Session} (m : (p.hose h).mode = .proving s) : ((abandonSession h p).hose h).mode.promised = 0 := by
    rw [abandonSession_hose_same, Hose.abandoned_of_proving m]; rfl
  have held {s : Session} (m : (p.hose h).mode = .proving s) :
      (p.hose h).mode.promised = s.planned - s.ended.length := by rw [m]; rfl
  have le := promised_hose_le p h
  obtain ⟨reserved, fits⟩ := booked
  have fits' (j : HoseNo) : ((abandonSession h p).hose j).mode.SessionFits := by
    by_cases e : j = h
    · subst e; rw [abandonSession_hose_same]; exact HoseMode.abandoned_fits (fits _)
    · rw [abandonSession_hose_other e]; exact fits j
  obtain ⟨-, e⟩ | ⟨s, m, run, e⟩ | ⟨s, r, m, run, e⟩ := abandonSession_cases h p
  · rw [e]; exact ⟨⟨reserved, fits⟩, .refl p⟩
  · have res : (abandonSession h p).reserved = p.reserved - (s.planned - s.ended.length) := by
      rw [e, enterOut_reserved]; rfl
    rw [left m, held m] at sum
    exact ⟨⟨by omega, fits'⟩, .same (by rw [e, enterOut_records]; rfl) (by omega)⟩
  · have res : (abandonSession h p).reserved = p.reserved - 1 - (s.planned - (s.ended.length + 1)) := by
      rw [e, enterOut_reserved, ← endRun_reserved h .abandoned s r p]; rfl
    have records : (abandonSession h p).records =
        p.records ++ [{ p.runRecord h .abandoned s r with serial := p.nextSerial }] := by
      rw [e, enterOut_records]; exact endRun_records ..
    have room : s.ended.length + 1 ≤ s.planned := by
      have := fits h
      simpa [m, HoseMode.SessionFits, run] using this
    rw [left m, held m] at sum
    rw [held m] at le
    exact ⟨⟨by omega, fits'⟩, .one records (by omega)⟩

theorem abandonSessions_draws {p : Part} (booked : p.Booked) :
    (each hoseNos abandonSession p).Booked ∧ p.Draws (each hoseNos abandonSession p) :=
  each_invariant (fun q => q.Booked ∧ p.Draws q) _ _ (fun h _ _ ⟨ok, drawn⟩ =>
    ⟨(abandonSession_draws h ok).1, drawn.trans (abandonSession_draws h ok).2⟩) ⟨booked, .refl p⟩

/-! ## Machines -/

theorem HoseMode.not_holds {m : SlotNo} {x : HoseMode} (other : ∀ ph t, x = .fill ph t → t.slot ≠ m) :
    x.holds m = false := by
  cases x with
  | fill ph t => simpa [HoseMode.holds] using other ph t rfl
  | _ => rfl

theorem Hose.forced_holds (x : Hose) (m : SlotNo) : x.forced.mode.holds m = false :=
  HoseMode.not_holds fun ph t e => absurd e (Hose.forced_not_fill x ph t)

/-- A close puts no hose on a machine. -/
theorem forceClose_holds (h j : HoseNo) {m : SlotNo} {p : Part} (free : (p.hose j).mode.holds m = false) :
    ((forceClose h p).hose j).mode.holds m = false := by
  by_cases e : j = h
  · subst e; rw [forceClose_hose_same]; exact Hose.forced_holds ..
  · rw [forceClose_hose_other e]; exact free

/-- The machine of no fill of some hoses is left alone by their close, and none of them takes it. -/
theorem forceCloses_machine (m : SlotNo) (hs : List HoseNo) (p : Part)
    (free : ∀ j ∈ hs, (p.hose j).mode.holds m = false) : (each hs forceClose p).machine m = p.machine m := by
  have all := each_invariant (fun q => q.machine m = p.machine m ∧ ∀ j ∈ hs, (q.hose j).mode.holds m = false)
    forceClose hs (fun h mem q ⟨same, still⟩ => ⟨(forceClose_machine_other (still h mem)).trans same, fun j hj => ?_⟩)
    ⟨rfl, free⟩
  · exact all.1
  · exact forceClose_holds h j (still j hj)

theorem restartEnds_machine (p : Part) (m : SlotNo) :
    (restartEnds p).machine m = (each hoseNos forceClose p).machine m := by
  have sessions (q : Part) : (each hoseNos abandonSession q).machines = q.machines :=
    each_keep_mem (·.machines) _ _ (fun h _ q => congrArg (·.machines) (abandonSession_sansFills h q)) q
  have deliveries (q : Part) : (each tankNos restartDelivery q).machines = q.machines :=
    each_keep_mem (·.machines) _ _ (fun t _ q => congrArg (·.machines) (restartDelivery_sansTrips t q)) q
  unfold restartEnds Part.machine
  rw [sessions, deliveries]

/-! ## Each fill's record and machine -/

/-- A hose's fill is closed with the hose and its machine as they were. -/
theorem forceCloses_fill {p : Part} (booked : p.Booked) {h : HoseNo} {ph : Phase} {t : Transaction}
    (m : (p.hose h).mode = .fill ph t) :
    (∃ rec xs ys, (each hoseNos forceClose p).records = p.records ++ (xs ++ rec :: ys) ∧ rec.hose = h.val + 1 ∧
      rec.tag = t.tag ∧ rec.cause = ph.closeCause.code ∧
      rec.body = .fill t.tally.gross t.tally.net t.cap (t.tally.lastTemp.getD 0)) ∧
    ((∀ j ph' t', j ≠ h → (p.hose j).mode = .fill ph' t' → t'.slot ≠ t.slot) →
      (each hoseNos forceClose p).machine t.slot = t.closes ph.closeCause (p.machine t.slot)) := by
  obtain ⟨before, later, hb, hl, e⟩ := each_split hoseNos_nodup (mem_hoseNos h) forceClose p
  obtain ⟨booked₁, xs, first, -⟩ := forceCloses_draws before booked
  have kept : (each before forceClose p).hose h = p.hose h :=
    each_keep_mem (·.hose h) _ _ (fun j hj q => forceClose_hose_other (hb j hj).1.symm q) p
  have m₁ : ((each before forceClose p).hose h).mode = .fill ph t := by rw [kept, m]
  obtain ⟨booked₂, -⟩ := forceClose_draws h booked₁
  obtain ⟨-, ys, last, -⟩ := forceCloses_draws later booked₂
  obtain ⟨rec, records, hose, tag, cause, body⟩ := forceClose_record m₁
  refine ⟨⟨rec, xs, ys, ?_, hose, tag, cause, body⟩, fun alone => ?_⟩
  · rw [e, last, records, first]; simp
  · have free : ∀ j, j ≠ h → (p.hose j).mode.holds t.slot = false := fun j ne =>
      HoseMode.not_holds fun ph' t' e => alone j ph' t' ne e
    have closed := forceClose_machine_same m₁
    rw [forceCloses_machine t.slot before p fun j hj => free j (hb j hj).1] at closed
    rw [e, forceCloses_machine t.slot later, closed]
    exact fun j hj => forceClose_holds h j (each_invariant (fun q => (q.hose j).mode.holds t.slot = false) forceClose
      before (fun i _ _ still => forceClose_holds i j still) (free j (hl j hj).1))

/-! ## The whole of the ends -/

theorem restartEnds_draws {p : Part} (booked : p.Booked) :
    (restartEnds p).Booked ∧ (each hoseNos forceClose p).Draws (restartEnds p) := by
  obtain ⟨booked₁, -⟩ := forceCloses_draws hoseNos booked
  obtain ⟨booked₂, drawn₂⟩ := restartDeliveries_draws (forced_noFills p) booked₁
  obtain ⟨booked₃, drawn₃⟩ := abandonSessions_draws booked₂
  exact ⟨booked₃, drawn₂.trans drawn₃⟩

theorem restartEnds_sansAccounts (p : Part) : (restartEnds p).sansAccounts = p.sansAccounts := by
  unfold restartEnds
  rw [each_keep_mem Part.sansAccounts abandonSession _ fun h _ q => accounts_of_fills (abandonSession_sansFills h q),
    each_keep_mem Part.sansAccounts restartDelivery _ fun t _ q => sansAccounts_of (restartDelivery_sansTrips t q),
    each_keep_mem Part.sansAccounts forceClose _ fun h _ q => forceClose_sansAccounts h q]

/-! ## Tanks -/

/-- The hoses' ends leave a tank's record but for its windows and counts; the delivery's end is its own. -/
theorem restartEnds_tank (p : Part) (k : TankNo) : ∃ q : Part, (q.tank k).quiet = (p.tank k).quiet ∧
    ((restartEnds p).tank k).quiet = ((restartDelivery k q).tank k).quiet := by
  obtain ⟨q, before, after⟩ := each_at tankNos_nodup (mem_tankNos k) (·.tank k)
    (fun j ne q => restartDelivery_tank_other (Ne.symm ne) q) (each hoseNos forceClose p)
  refine ⟨q, ?_, ?_⟩
  · rw [show q.tank k = _ from before]
    exact each_keep_mem (fun r => (r.tank k).quiet) forceClose hoseNos (fun h _ r => forceClose_quiet h r k) p
  · rw [← show _ = (restartDelivery k q).tank k from after]
    exact each_keep_mem (fun r => (r.tank k).quiet) abandonSession hoseNos (fun h _ r => abandonSession_quiet h r k) _

/-- A tank that receives nothing keeps its record but for its windows and counts. -/
theorem restartEnds_tank_still {p : Part} {k : TankNo} (state : (p.tank k).state ≠ .receiving) :
    ((restartEnds p).tank k).quiet = (p.tank k).quiet := by
  obtain ⟨q, before, after⟩ := restartEnds_tank p k
  have same : (q.tank k).state = (p.tank k).state := Tank.state_of_quiet before
  rw [after, restartDelivery_of_not (.inl (same ▸ state)), before]

/-- A tank with a delivery is back in service without it, its configuration kept. -/
theorem restartEnds_tank_receiving {p : Part} {k : TankNo} (state : (p.tank k).state = .receiving)
    (delivery : (p.tank k).delivery.isSome = true) : ((restartEnds p).tank k).cfg = (p.tank k).cfg ∧
      ((restartEnds p).tank k).state = .inService ∧ ((restartEnds p).tank k).delivery = none := by
  obtain ⟨q, before, after⟩ := restartEnds_tank p k
  have same : (q.tank k).state = (p.tank k).state := Tank.state_of_quiet before
  have cfg : (q.tank k).cfg = (p.tank k).cfg := Tank.cfg_of_quiet before
  have open_ : (q.tank k).delivery = (p.tank k).delivery := Tank.delivery_of_quiet before
  obtain ⟨d, some_⟩ := Option.isSome_iff_exists.1 delivery
  rw [restartDelivery_of (same.trans state) (open_.trans some_)] at after
  have ended : (setTankState k .inService (q.deliveryEnded k .restart d)).tank k = _ := setTankState_tank ..
  rw [ended, if_pos rfl] at after
  exact ⟨(Tank.cfg_of_quiet after).trans ((deliveryEnded_tank_cfg ..).trans cfg), Tank.state_of_quiet after,
    (Tank.delivery_of_quiet after).trans (deliveryEnded_tank_delivery ..)⟩

/-! ## Zones -/

/-- The zone of a tank that goes back into service is left alone unless its recovery test passes. -/
theorem setTankState_zone {t : TankNo} {st : TankState} {p : Part} {z : ZoneNo}
    (fails : (p.tank t).cfg.zone = z → ¬((p.zone z).state = .recovery ∧ (p.zone z).timer = .expired ∧
      (modTank t (fun x => { x with state := st }) p).marksComplete z = true)) :
    (setTankState t st p).zone z = p.zone z := by
  unfold setTankState
  by_cases own : (p.tank t).cfg.zone = z
  · subst own; rw [recoveryTest_failed (fails rfl)]; rfl
  · unfold recoveryTest
    split
    · rw [syncLines_zone, modZone_zone, if_neg own]; rfl
    · rfl

/-- The zone, and what of the tanks its recovery test reads: no tank begins to receive, and none leaves service. -/
def Part.ZoneKept (p q : Part) (z : ZoneNo) : Prop :=
  q.zone z = p.zone z ∧ ∀ k, (q.tank k).cfg = (p.tank k).cfg ∧
    ((q.tank k).state = .receiving → (p.tank k).state = .receiving) ∧
    ((p.tank k).state ≠ .outOfService → (q.tank k).state ≠ .outOfService)

theorem Part.ZoneKept.of_quiet {p q : Part} {z : ZoneNo} (zones : q.zones = p.zones)
    (tanks : ∀ k, (q.tank k).quiet = (p.tank k).quiet) : p.ZoneKept q z := by
  refine ⟨by unfold Part.zone; rw [zones], fun k => ?_⟩
  have state : (q.tank k).state = (p.tank k).state := Tank.state_of_quiet (tanks k)
  rw [state]
  exact ⟨Tank.cfg_of_quiet (tanks k), id, id⟩

/-- A zone whose recovery test can not pass by a tank's return is left alone by the deliveries' end. -/
theorem restartDelivery_zoneKept {p q : Part} {z : ZoneNo}
    (blocked : (∀ k, (p.tank k).cfg.zone = z → (p.tank k).state ≠ .receiving) ∨ (p.zone z).state ≠ .recovery ∨
      (p.zone z).timer ≠ .expired ∨
      ∃ k, (p.tank k).cfg.zone = z ∧ (p.tank k).state ≠ .outOfService ∧ (p.zone z).marks.getLsbD k.val = false)
    (t : TankNo) (kept : p.ZoneKept q z) : p.ZoneKept (restartDelivery t q) z := by
  obtain ⟨zone, tanks⟩ := kept
  obtain ⟨-, e⟩ | ⟨d, receiving, -, e⟩ := restartDelivery_cases t q
  · rw [e]; exact ⟨zone, tanks⟩
  have zone₁ : (q.deliveryEnded t .restart d).zone z = p.zone z := by
    rw [← zone]; unfold Part.zone; rw [deliveryEnded_zones]
  have returned : ((restartDelivery t q).tank t).state = .inService := by rw [e, setTankState_tank, if_pos rfl]
  refine ⟨?_, fun k => ⟨(restartDelivery_cfg t k q).trans (tanks k).1, ?_⟩⟩
  · rw [e, setTankState_zone, zone₁]
    rw [zone₁, deliveryEnded_tank_cfg, (tanks t).1]
    rintro own ⟨recovery, expired, complete⟩
    rcases blocked with none | not | not | ⟨k, mine, service, unmarked⟩
    · exact none t own ((tanks t).2.1 receiving)
    · exact not recovery
    · exact not expired
    · have marked := (marksComplete_modTank t .inService (fun x => { x with state := .inService }) _ z rfl rfl).1 complete k
      rw [zone₁, unmarked] at marked
      refine Bool.false_ne_true (marked ?_ ?_)
      · by_cases ek : k = t
        · subst ek; rw [deliveryEnded_tank_cfg, (tanks k).1, mine]
        · rw [deliveryEnded_tank_other _ _ _ _ ek, (tanks k).1, mine]
      · by_cases ek : k = t
        · rw [if_pos ek]; decide
        · rw [if_neg ek, deliveryEnded_tank_other _ _ _ _ ek]; exact (tanks k).2.2 service
  · by_cases ek : k = t
    · subst ek; rw [returned]; exact ⟨nofun, fun _ => nofun⟩
    · rw [restartDelivery_tank_other ek]; exact (tanks k).2

theorem restartEnds_zone {p : Part} {z : ZoneNo}
    (blocked : (∀ k, (p.tank k).cfg.zone = z → (p.tank k).state ≠ .receiving) ∨ (p.zone z).state ≠ .recovery ∨
      (p.zone z).timer ≠ .expired ∨
      ∃ k, (p.tank k).cfg.zone = z ∧ (p.tank k).state ≠ .outOfService ∧ (p.zone z).marks.getLsbD k.val = false) :
    (restartEnds p).zone z = p.zone z := by
  have fills : p.ZoneKept (each hoseNos forceClose p) z := .of_quiet
    (each_keep_mem (·.zones) forceClose _ (fun h _ q => forceClose_zones h q) p)
    fun k => each_keep_mem (fun r => (r.tank k).quiet) forceClose _ (fun h _ r => forceClose_quiet h r k) p
  have deliveries := each_invariant (p.ZoneKept · z) restartDelivery tankNos
    (fun t _ q kept => restartDelivery_zoneKept blocked t kept) fills
  have sessions (q : Part) : (each hoseNos abandonSession q).zones = q.zones :=
    each_keep_mem (·.zones) _ _ (fun h _ q => congrArg (·.zones) (abandonSession_sansFills h q)) q
  unfold restartEnds Part.zone
  rw [sessions]; exact deliveries.1

end Sys2Proof.Machine
end

section
/-! The closing orders of RESTART, the bay it leaves at rest, and the whole of it (R175). -/

namespace Sys2Proof.Machine

open Sys2Proof

/-! ## Orders to a run of roles -/

/-- Telegrams of one kind that carry 0, one to each node bound in the roles of a list. -/
def Part.closeTo (p : Part) (kind : Byte) (bs : List Binding) : List Telegram :=
  bs.filterMap fun b => (p.boundNode b).map fun n =>
    { head := { dst := nodeOf n, cls := 1, src := 0, rsv := 0 }, kind := kind, payload := [0] }

theorem closeTo_cons (p : Part) (kind : Byte) (b : Binding) (bs : List Binding) :
    p.closeTo kind (b :: bs) = p.orderTo kind b 0 ++ p.closeTo kind bs := by
  unfold Part.closeTo Part.orderTo
  rw [List.filterMap_cons]
  cases p.boundNode b <;> rfl

theorem closeTo_congr {p q : Part} (devices : q.devices = p.devices) (kind : Byte) (bs : List Binding) :
    q.closeTo kind bs = p.closeTo kind bs := by simp only [Part.closeTo, Part.boundNode, devices]

/-- A run of orders is their telegrams in turn. -/
theorem each_order {ι : Type} (kind : Byte) (role : ι → Binding) (is : List ι) (p : Part) :
    each is (fun i => order kind (role i) 0) p = sendAll (p.closeTo kind (is.map role)) p := by
  induction is generalizing p with
  | nil => rfl
  | cons i is ih =>
    rw [each_cons, ih, order_eq, sendAll_sendAll, List.map_cons, closeTo_cons,
      closeTo_congr (p := p) (sendAll_devices ..)]

@[simp] theorem sendAll_closeTo (us : List Telegram) (p : Part) (kind : Byte) (bs : List Binding) :
    (sendAll us p).closeTo kind bs = p.closeTo kind bs := rfl

/-- The closing orders: to the valves, the inlets and the starters. -/
def Part.closing (p : Part) : List Telegram :=
  p.closeTo kindSet (hoseNos.map .valve) ++ p.closeTo kindSet (tankNos.map .inlet) ++
    p.closeTo kindRun (tankNos.map .starter)

theorem closingOrders_eq (p : Part) : closingOrders p = sendAll p.closing p := by
  have valves (q : Part) := each_order kindSet .valve hoseNos q
  have inlets (q : Part) := each_order kindSet .inlet tankNos q
  have starters (q : Part) := each_order kindRun .starter tankNos q
  have opened : closingOrders p = each tankNos (fun t => order kindRun (.starter t) 0)
    (each tankNos (fun t => order kindSet (.inlet t) 0) (each hoseNos (fun h => order kindSet (.valve h) 0) p)) := rfl
  rw [opened, valves, inlets, starters]
  simp only [sendAll_closeTo, sendAll_sendAll, Part.closing, List.append_assoc]

/-- A closing order is its kind and its node. -/
theorem closing_form {p : Part} {t : Telegram} (mem : t ∈ p.closing) :
    t = { head := { dst := t.head.dst, cls := 1, src := 0, rsv := 0 }, kind := t.kind, payload := [0] } := by
  have form {kind : Byte} {bs : List Binding} (mem : t ∈ p.closeTo kind bs) :
      t = { head := { dst := t.head.dst, cls := 1, src := 0, rsv := 0 }, kind := t.kind, payload := [0] } := by
    obtain ⟨b, -, e⟩ := List.mem_filterMap.1 mem
    obtain ⟨n, -, rfl⟩ := Option.map_eq_some_iff.1 e
    rfl
  obtain (mem | mem) | mem := by simpa only [Part.closing, List.mem_append] using mem
  exacts [form mem, form mem, form mem]

theorem closing_unique {p : Part} {t u : Telegram} (ht : t ∈ p.closing) (hu : u ∈ p.closing) (kind : t.kind = u.kind)
    (dst : t.head.dst = u.head.dst) : t = u := by
  rw [closing_form ht, closing_form hu, kind, dst]

/-! ## An order is the only one of its kind for its node (R140) -/

/-- Waiting telegrams of the orders' kinds and nodes are those orders, and the part's own. -/
def Port.Only (q : Port) (orders : List Telegram) : Prop :=
  (∀ x ∈ q.own, ∀ k ∈ orders, x.kind = k.kind → x.head.dst = k.head.dst → x = k) ∧
  (∀ x ∈ q.forwarded, ∀ k ∈ orders, x.kind = k.kind → x.head.dst ≠ k.head.dst)

@[simp] theorem counted_own (e : PortEvent) (q : Port) : (q.counted e).own = q.own := by unfold Port.counted; split <;> rfl
@[simp] theorem counted_forwarded (e : PortEvent) (q : Port) : (q.counted e).forwarded = q.forwarded := by
  unfold Port.counted; split <;> rfl

theorem placeOwn_own {t x : Telegram} {q : Port} (mem : x ∈ (q.placeOwn t).own) : x ∈ q.own ∨ x = t := by
  unfold Port.placeOwn at mem
  split at mem
  · simpa using mem
  · split at mem
    · rw [counted_own] at mem; exact .inl mem
    · rw [counted_own] at mem; simpa using mem

theorem placeOwn_forwarded {t x : Telegram} {q : Port} (mem : x ∈ (q.placeOwn t).forwarded) : x ∈ q.forwarded := by
  unfold Port.placeOwn at mem
  split at mem
  · exact mem
  · split at mem
    · rwa [counted_forwarded] at mem
    · rw [counted_forwarded] at mem; exact List.mem_of_mem_dropLast mem

theorem sameOrder_iff (t u : Telegram) : sameOrder t u = true ↔ u.kind = t.kind ∧ u.head.dst = t.head.dst := by
  simp [sameOrder]

theorem queueOrder_own {t x : Telegram} {q : Port} (mem : x ∈ (q.queueOrder t).own) :
    x = t ∨ x ∈ q.own ∧ ¬(x.kind = t.kind ∧ x.head.dst = t.head.dst) := by
  rcases placeOwn_own mem with mem | e
  · obtain ⟨was, other⟩ := List.mem_filter.1 mem
    exact .inr ⟨was, fun same => by rw [(sameOrder_iff t x).2 same] at other; cases other⟩
  · exact .inl e

theorem queueOrder_forwarded {t x : Telegram} {q : Port} (mem : x ∈ (q.queueOrder t).forwarded) :
    x ∈ q.forwarded ∧ ¬(x.kind = t.kind ∧ x.head.dst = t.head.dst) := by
  obtain ⟨was, other⟩ := List.mem_filter.1 (placeOwn_forwarded mem)
  exact ⟨was, fun same => by rw [(sameOrder_iff t x).2 same] at other; cases other⟩

/-- Each order, queued in its turn, keeps those before it the only ones of their kind for their nodes. -/
theorem queueOrders_only {all : List Telegram}
    (unique : ∀ t ∈ all, ∀ u ∈ all, t.kind = u.kind → t.head.dst = u.head.dst → t = u) (before rest : List Telegram)
    (e : before ++ rest = all) {q : Port} (only : q.Only before) :
    (rest.foldl (fun x t => x.queueOrder t) q).Only all := by
  induction rest generalizing before q with
  | nil => rw [List.append_nil] at e; exact e ▸ only
  | cons t rest ih =>
    obtain ⟨own, forwarded⟩ := only
    have tall : t ∈ all := by rw [← e]; simp
    refine ih (before ++ [t]) (by rw [← e]; simp) ⟨fun x hx k hk kind dst => ?_, fun x hx k hk kind dst => ?_⟩
    · have kall : k ∈ all := by rw [← e]; simp only [List.mem_append, List.mem_cons] at hk ⊢; tauto
      obtain rfl | ⟨was, other⟩ := queueOrder_own hx
      · exact unique x tall k kall kind dst
      · obtain hk | hk := List.mem_append.1 hk
        · exact own x was k hk kind dst
        · rw [List.mem_singleton.1 hk] at kind dst; exact absurd ⟨kind, dst⟩ other
    · obtain ⟨was, other⟩ := queueOrder_forwarded hx
      obtain hk | hk := List.mem_append.1 hk
      · exact forwarded x was k hk kind dst
      · rw [List.mem_singleton.1 hk] at kind dst; exact other ⟨kind, dst⟩

/-! ## The bay at rest -/

/-- The line test stopped, the bay in LAY_UP, and the tanks at rest. -/
def Part.atRest (p : Part) : Part := each tankNos quietTank { stopTest p with bayMode := .layUp }

theorem restartEffects_atRest (p : Part) : restartEffects p =
    resetCursor (sendAll (restartEnds p).atRest.closing (restartEnds p).atRest) := by
  rw [← closingOrders_eq]; exact restartEffects_eq p

/-- What the rest of RESTART does not speak of is as the ends left it. -/
theorem atRest_keep {α : Type} (view : Part → α)
    (keep : ∀ (q : Part) fp test counts bayMode pumps tanks, view { q with
      fp := fp, test := test, counts := counts, bayMode := bayMode, pumps := pumps, tanks := tanks } = view q) (p : Part) :
    view p.atRest = view p := by
  have quiet (t : TankNo) (q : Part) : view (quietTank t q) = view q := keep q q.fp q.test q.counts q.bayMode _ _
  have laidUp (q : Part) : view { q with bayMode := .layUp } = view q := keep q q.fp q.test q.counts _ q.pumps q.tanks
  unfold Part.atRest
  rw [each_keep_mem view quietTank tankNos fun t _ => quiet t, laidUp]
  unfold stopTest
  split
  · rfl
  · exact keep p _ _ _ p.bayMode p.pumps p.tanks

theorem stopTest_test (p : Part) : (stopTest p).test = none := by
  unfold stopTest
  split
  · assumption
  · rfl

theorem atRest_bayMode (p : Part) : p.atRest.bayMode = .layUp := by
  unfold Part.atRest; rw [each_keep_mem (·.bayMode) quietTank tankNos (fun _ _ _ => rfl)]
theorem atRest_test (p : Part) : p.atRest.test = none := by
  unfold Part.atRest; rw [each_keep_mem (·.test) quietTank tankNos (fun _ _ _ => rfl)]; exact stopTest_test p
theorem atRest_pump (p : Part) (k : TankNo) : p.atRest.pump k = { count := 0, confirmed := false } := quietTanks_pump ..
theorem atRest_tank (p : Part) (k : TankNo) : p.atRest.tank k = (p.tank k).quiet := by
  have stopped : ({ stopTest p with bayMode := .layUp } : Part).tank k = p.tank k := by
    show (stopTest p).tank k = _
    unfold stopTest; split <;> rfl
  rw [← stopped]; exact quietTanks_tank ..

end Sys2Proof.Machine
end

section
/-! RESTART as a whole (R26, R90, R175, R176, R184). -/

namespace Sys2Proof.Machine

open Sys2Proof

/-! ## What the ends of RESTART are read by -/

/-- What the ports and the cursor are not read for is left by the closing orders and the cursor's reset. -/
theorem resetCursor_keep {α : Type} (view : Part → α)
    (keep : ∀ (q : Part) up fp cursor, view { q with up := up, fp := fp, cursor := cursor } = view q)
    (orders : List Telegram) (q : Part) : view (resetCursor (sendAll orders q)) = view q := keep q _ _ _

theorem resetCursor_fp (orders : List Telegram) (q : Part) : (resetCursor (sendAll orders q)).fp =
    { orders.foldl (fun x t => x.queueOrder t) q.fp with count := 0 } := rfl

/-- The reset selection, with the lower words of MACHINE 0 kept, and both counts at 0. -/
theorem resetCursor_cursor (q : Part) : (resetCursor q).cursor.kept = keptWords (.machine 0) (resetCursor q) ∧
    (resetCursor q).cursor.sel = .machine 0 ∧ (resetCursor q).cursor.offset = 0 ∧ (resetCursor q).cursor.mode = .step ∧
    (resetCursor q).up.count = 0 ∧ (resetCursor q).fp.count = 0 := ⟨rfl, rfl, rfl, rfl, rfl, rfl⟩

/-- What neither the closing orders nor the cursor's reset speak of is as the bay at rest has it. -/
theorem restartEffects_rest {α : Type} (view : Part → α)
    (keep : ∀ (q : Part) up fp cursor, view { q with up := up, fp := fp, cursor := cursor } = view q) (p : Part) :
    view (restartEffects p) = view (restartEnds p).atRest := by
  rw [restartEffects_atRest]; exact resetCursor_keep view keep _ _

/-- What the closing orders, the cursor's reset and the rest of the tanks and the line do not speak of is as the ends
left it. -/
theorem restartEffects_keep {α : Type} (view : Part → α)
    (keep : ∀ (q : Part) up fp test counts bayMode pumps tanks cursor, view { q with
      up := up, fp := fp, test := test, counts := counts, bayMode := bayMode, pumps := pumps, tanks := tanks,
      cursor := cursor } = view q) (p : Part) : view (restartEffects p) = view (restartEnds p) :=
  (restartEffects_rest view (fun q up fp cursor => keep q up fp q.test q.counts q.bayMode q.pumps q.tanks cursor) p).trans
    (atRest_keep view (fun q fp test counts bayMode pumps tanks => keep q q.up fp test counts bayMode pumps tanks q.cursor) _)

/-- The configuration that no step of RESTART changes. -/
theorem restartEffects_config {α : Type} (view : Part → α) (outside : ∀ q : Part, view q.sansAccounts = view q)
    (keep : ∀ (q : Part) up fp test counts bayMode pumps tanks cursor, view { q with
      up := up, fp := fp, test := test, counts := counts, bayMode := bayMode, pumps := pumps, tanks := tanks,
      cursor := cursor } = view q) (p : Part) : view (restartEffects p) = view p := by
  rw [restartEffects_keep view keep, ← outside, restartEnds_sansAccounts, outside]

theorem restartEffects_hose (p : Part) (h : HoseNo) : (restartEffects p).hose h = (p.hose h).forced.abandoned := by
  rw [← restartEnds_hose]
  exact restartEffects_keep (·.hose h) (fun _ _ _ _ _ _ _ _ _ => rfl) p

theorem restartEffects_machine (p : Part) (m : SlotNo) :
    (restartEffects p).machine m = (each hoseNos forceClose p).machine m := by
  rw [← restartEnds_machine]
  exact restartEffects_keep (·.machine m) (fun _ _ _ _ _ _ _ _ _ => rfl) p

theorem restartEffects_tank (p : Part) (k : TankNo) : (restartEffects p).tank k = ((restartEnds p).tank k).quiet :=
  (restartEffects_rest (·.tank k) (fun _ _ _ _ => rfl) p).trans (atRest_tank ..)

theorem restartEffects_pump (p : Part) (k : TankNo) : (restartEffects p).pump k = { count := 0, confirmed := false } :=
  (restartEffects_rest (·.pump k) (fun _ _ _ _ => rfl) p).trans (atRest_pump ..)

theorem restartEffects_bayMode (p : Part) : (restartEffects p).bayMode = .layUp :=
  (restartEffects_rest (·.bayMode) (fun _ _ _ _ => rfl) p).trans (atRest_bayMode _)

theorem restartEffects_test (p : Part) : (restartEffects p).test = none :=
  (restartEffects_rest (·.test) (fun _ _ _ _ => rfl) p).trans (atRest_test _)

theorem restartEffects_records (p : Part) : (restartEffects p).records = (restartEnds p).records :=
  restartEffects_keep (·.records) (fun _ _ _ _ _ _ _ _ _ => rfl) p

theorem restartEffects_zone (p : Part) (z : ZoneNo) : (restartEffects p).zone z = (restartEnds p).zone z :=
  restartEffects_keep (·.zone z) (fun _ _ _ _ _ _ _ _ _ => rfl) p

theorem restartEnds_devices (p : Part) : (restartEnds p).devices = p.devices := by
  have kept (q : Part) : q.sansAccounts.devices = q.devices := rfl
  rw [← kept, restartEnds_sansAccounts, kept]

theorem restartEffects_fp (p : Part) :
    (restartEffects p).fp = { p.closing.foldl (fun x t => x.queueOrder t) (restartEnds p).atRest.fp with count := 0 } := by
  have devices : (restartEnds p).atRest.devices = p.devices :=
    (atRest_keep (·.devices) (fun _ _ _ _ _ _ _ => rfl) _).trans (restartEnds_devices p)
  have closing : (restartEnds p).atRest.closing = p.closing := by
    unfold Part.closing; simp only [closeTo_congr devices]
  rw [restartEffects_atRest, resetCursor_fp, closing]

theorem restartEffects_cursor (p : Part) : (restartEffects p).cursor.kept = keptWords (.machine 0) (restartEffects p) ∧
    (restartEffects p).cursor.sel = .machine 0 ∧ (restartEffects p).cursor.offset = 0 ∧
    (restartEffects p).cursor.mode = .step ∧ (restartEffects p).up.count = 0 ∧ (restartEffects p).fp.count = 0 := by
  rw [restartEffects_atRest]; exact resetCursor_cursor _

/-! ## The hoses -/

theorem Hose.forced_abandoned_idle {x : Hose} (m : x.mode = .idle ∨ x.mode = .out) : x.forced.abandoned.mode = x.mode := by
  unfold Hose.abandoned Hose.forced HoseMode.forced HoseMode.abandoned
  rcases m with m | m <;> rw [m]

/-! ## What keeps its place -/

theorem restartEffects_book {p : Part} {k : TankNo} (state : (p.tank k).state ≠ .receiving) :
    ((restartEffects p).tank k).book = (p.tank k).book := by
  rw [restartEffects_tank, Tank.quiet_book, Tank.book_of_quiet (restartEnds_tank_still state)]

theorem restartEffects_machine_free {p : Part} {m : SlotNo}
    (free : ∀ h ph t, (p.hose h).mode = .fill ph t → t.slot ≠ m) : (restartEffects p).machine m = p.machine m := by
  rw [restartEffects_machine]
  exact forceCloses_machine m hoseNos p fun j _ => HoseMode.not_holds fun ph t e => free j ph t e

/-- The closing orders are the only telegrams of their kinds for their nodes. -/
theorem restartEffects_only (p : Part) : (restartEffects p).fp.Only p.closing := by
  rw [restartEffects_fp]
  exact queueOrders_only (fun t ht u hu => closing_unique ht hu) [] p.closing rfl
    (q := (restartEnds p).atRest.fp) ⟨fun _ _ _ mem => absurd mem List.not_mem_nil, fun _ _ _ mem => absurd mem List.not_mem_nil⟩

/-! ## Nothing stays promised -/

section RecordsFit
variable {p : Part} (fit : p.RecordsFit)
include fit

theorem Part.RecordsFit.booked : p.Booked := by
  obtain ⟨reserved, -, -, fits⟩ := fit
  exact ⟨reserved, fits⟩

theorem Part.RecordsFit.delivery_iff (k : TankNo) : (p.tank k).state = .receiving ↔ (p.tank k).delivery.isSome = true := by
  obtain ⟨-, -, receiving, -⟩ := fit
  exact receiving k

theorem restartEnds_delivery (k : TankNo) : ((restartEnds p).tank k).delivery = none := by
  by_cases state : (p.tank k).state = .receiving
  · exact (restartEnds_tank_receiving state ((fit.delivery_iff k).1 state)).2.2
  · rw [Tank.delivery_of_quiet (restartEnds_tank_still state)]
    exact Option.not_isSome_iff_eq_none.1 fun open_ => state ((fit.delivery_iff k).2 open_)

theorem restartEffects_reserved : (restartEffects p).reserved = 0 := by
  have kept : (restartEffects p).reserved = (restartEnds p).reserved :=
    restartEffects_keep (·.reserved) (fun _ _ _ _ _ _ _ _ _ => rfl) p
  obtain ⟨⟨reserved, -⟩, -⟩ := restartEnds_draws fit.booked
  have hoses (h : HoseNo) : ((restartEnds p).hose h).mode.promised = 0 := by
    rw [restartEnds_hose]
    rcases Hose.forced_abandoned_rests (p.hose h) with m | m <;> rw [m] <;> rfl
  have tanks (k : TankNo) : ((restartEnds p).tank k).promised = 0 := by
    unfold Tank.promised; rw [restartEnds_delivery fit]; rfl
  rw [kept, reserved, promised_eq]
  simp [hoses, tanks]

/-- Every tank is at rest: no open hose, no window, no delivery, its configuration kept, a RECEIVING one IN_SERVICE. -/
theorem restartEffects_tank_rests (k : TankNo) : ((restartEffects p).tank k).openHoses = 0 ∧
    ((restartEffects p).tank k).loss = .none ∧ ((restartEffects p).tank k).rest = .none ∧
    ((restartEffects p).tank k).delivery = none ∧ ((restartEffects p).tank k).cfg = (p.tank k).cfg ∧
    ((restartEffects p).tank k).state = if (p.tank k).state = .receiving then .inService else (p.tank k).state := by
  rw [restartEffects_tank]
  simp only [Tank.quiet_openHoses, Tank.quiet_loss, Tank.quiet_rest, Tank.quiet_delivery, Tank.quiet_cfg, Tank.quiet_state,
    restartEnds_delivery fit, true_and]
  by_cases state : (p.tank k).state = .receiving
  · obtain ⟨cfg, back, -⟩ := restartEnds_tank_receiving state ((fit.delivery_iff k).1 state)
    rw [if_pos state]; exact ⟨cfg, back⟩
  · have still := restartEnds_tank_still state
    rw [if_neg state]; exact ⟨Tank.cfg_of_quiet still, Tank.state_of_quiet still⟩

/-- The records are only added, into places that were reserved, and each fill leaves its own and closes its machine. -/
theorem restartEffects_fills : ∃ placed, (restartEffects p).records = p.records ++ placed ∧
    placed.length ≤ p.reserved ∧ ∀ h ph t, (p.hose h).mode = .fill ph t →
      (∃ rec ∈ placed, rec.hose = h.val + 1 ∧ rec.tag = t.tag ∧ rec.cause = ph.closeCause.code ∧
        rec.body = .fill t.tally.gross t.tally.net t.cap (t.tally.lastTemp.getD 0)) ∧
      ((∀ j ph' t', j ≠ h → (p.hose j).mode = .fill ph' t' → t'.slot ≠ t.slot) →
        (restartEffects p).machine t.slot = t.closes ph.closeCause (p.machine t.slot)) := by
  have booked := fit.booked
  obtain ⟨-, fills⟩ := forceCloses_draws hoseNos booked
  obtain ⟨-, others⟩ := restartEnds_draws booked
  obtain ⟨placed, all, room⟩ := fills.trans others
  obtain ⟨later, last, -⟩ := others
  refine ⟨placed, (restartEffects_records p).trans all, by omega, fun h ph t m => ?_⟩
  obtain ⟨⟨rec, xs, ys, records, body⟩, machine⟩ := forceCloses_fill booked m
  have tail : placed = xs ++ rec :: ys ++ later := by
    rw [last, records, List.append_assoc] at all
    exact (List.append_cancel_left all).symm
  exact ⟨⟨rec, by rw [tail]; simp, body⟩, fun alone => by rw [restartEffects_machine, machine alone]⟩

end RecordsFit

/-! ## RESTART -/

/-- The part when the effects of RESTART begin: the telegram is consumed and the reply is queued. -/
def Part.replied (src : Node) (p : Part) : Part := reply src .done [] (consumeUp p)

theorem exec_restart (src : Node) (s : State) : exec (.restart src) s = .next (s.on fun p => restartEffects (p.replied src)) :=
  rfl

/-- Only the upstream port differs. -/
theorem replied_eq (src : Node) (p : Part) : p = { p.replied src with up := p.up } := by
  unfold Part.replied; rfl

/-- Settles O60: the ends of fills, deliveries and sessions are followed hose by hose and tank by tank, and the bay is
put at rest after them. -/
theorem restartEndsEveryOperation : Obligations.RestartEndsEveryOperation := by
  intro src s fit
  refine ⟨s.on fun p => restartEffects (p.replied src), exec_restart src s, ?_⟩
  have after : (s.on fun p => restartEffects (p.replied src)).toPart = restartEffects (s.toPart.replied src) := rfl
  generalize (s.on fun p => restartEffects (p.replied src)) = u at after
  rw [after]
  have before := replied_eq src s.toPart
  generalize s.toPart.replied src = p at before
  generalize s.toPart.up = up at before
  rw [before] at fit ⊢
  replace fit : p.RecordsFit := fit
  obtain ⟨placed, records, room, fills⟩ := restartEffects_fills fit
  obtain ⟨own, forwarded⟩ := restartEffects_only p
  obtain ⟨kept, sel, offset, mode, upCount, fpCount⟩ := restartEffects_cursor p
  refine ⟨restartEffects_bayMode p, restartEffects_test p, restartEffects_reserved fit, fun h => ?_, fun h m => ?_,
    fun h => ?_, restartEffects_pump p, restartEffects_tank_rests fit, fun _ state => restartEffects_book state,
    ⟨placed, records, room, fun h ph t m => ?_⟩, fun _ free => restartEffects_machine_free free, fun z blocked => ?_,
    ⟨⟨_, restartEffects_fp p⟩, own, forwarded⟩, kept, sel, offset, mode, upCount, fpCount, ?_⟩
  · rw [restartEffects_hose]; exact Hose.forced_abandoned_rests _
  · rw [restartEffects_hose]; exact Hose.forced_abandoned_idle m
  · rw [restartEffects_hose]; exact ⟨rfl, rfl, rfl⟩
  · cases ph <;> exact fills h _ t m
  · rw [restartEffects_zone]; exact restartEnds_zone blocked
  · refine ⟨restartEffects_config (·.devices) ?_ ?_ p, restartEffects_config (·.products) ?_ ?_ p,
      restartEffects_config (·.rules) ?_ ?_ p, restartEffects_config (·.filter) ?_ ?_ p,
      restartEffects_config (·.profileA) ?_ ?_ p, restartEffects_config (·.profileB) ?_ ?_ p,
      restartEffects_config (·.current) ?_ ?_ p, restartEffects_config (·.letter) ?_ ?_ p,
      restartEffects_config (·.source) ?_ ?_ p, restartEffects_config (·.clock) ?_ ?_ p,
      restartEffects_config (·.clockUnset) ?_ ?_ p, restartEffects_config (·.noticeMask) ?_ ?_ p⟩
    all_goals intros; rfl

end Sys2Proof.Machine
end

section
/-! The volume arithmetic (R36 to R42): a sample through its residues, the factor of a curve, and the VCF. -/

namespace Sys2Proof.Machine

open Sys2Proof

/-! ## A sample through its residues (R37, R38, R41, R42) -/

section workSample
variable (delta weight factor vcf rate : Nat) (m : MeterSet)

/-- The microlitres a sample adds: its pulse volume by the factor, with what the last sample left over (R37). -/
def grossMicro : Nat := (delta * weight * factor + m.a) / 100000

theorem workSample_volume : delta * weight * factor + m.a =
    grossMicro delta weight factor m * 100000 + (workSample delta weight factor vcf rate m).meter.a :=
  (Nat.div_add_mod' ..).symm

theorem workSample_gross : grossMicro delta weight factor m + m.b =
    (workSample delta weight factor vcf rate m).gross * 1000 + (workSample delta weight factor vcf rate m).meter.b :=
  (Nat.add_comm ..).trans (Nat.div_add_mod' ..).symm

/-- The correction's remainder and the net's stand in one balance: a net microlitre is 1,000,000 parts of the first. -/
theorem workSample_net : grossMicro delta weight factor m * vcf + m.c + m.d * 1000000 =
    (workSample delta weight factor vcf rate m).net * 1000000000 +
      (workSample delta weight factor vcf rate m).meter.d * 1000000 + (workSample delta weight factor vcf rate m).meter.c := by
  change grossMicro delta weight factor m * vcf + m.c + m.d * 1000000 =
    (m.d + (grossMicro delta weight factor m * vcf + m.c) / 1000000) / 1000 * 1000000000 +
      (m.d + (grossMicro delta weight factor m * vcf + m.c) / 1000000) % 1000 * 1000000 +
      (grossMicro delta weight factor m * vcf + m.c) % 1000000
  generalize grossMicro delta weight factor m * vcf + m.c = netNum
  omega

theorem workSample_residues : (workSample delta weight factor vcf rate m).meter.a < 100000 ∧
    (workSample delta weight factor vcf rate m).meter.b < 1000 ∧
    (workSample delta weight factor vcf rate m).meter.c < 1000000 ∧
    (workSample delta weight factor vcf rate m).meter.d < 1000 :=
  ⟨Nat.mod_lt _ (by decide), Nat.mod_lt _ (by decide), Nat.mod_lt _ (by decide), Nat.mod_lt _ (by decide)⟩

end workSample

/-! ## The factor of a curve (R36) -/

theorem factorOk_iff (f : Nat) : factorOk f = true ↔ 90000 ≤ f ∧ f ≤ 110000 := by simp [factorOk]

/-- A curve point at a lower flow than another. -/
abbrev slower (lo hi : CurvePoint) : Prop := lo.flow < hi.flow

theorem flowsRise_iff (ps : List CurvePoint) : flowsRise ps = true ↔ ps.Pairwise slower := by
  have step : flowsRise ps = true ↔ ps.IsChain slower := by
    induction ps with
    | nil => simp [flowsRise]
    | cons p ps ih =>
      cases ps with
      | nil => simp [flowsRise]
      | cons q rest => rw [flowsRise, List.isChain_cons_cons, ← ih]; simp
  have : Trans slower slower slower := ⟨Nat.lt_trans⟩
  rw [step, List.isChain_iff_pairwise]

theorem curveOk_iff (ps : List CurvePoint) : curveOk ps = true ↔ ps ≠ [] ∧
    ps.Pairwise slower ∧ ∀ q ∈ ps, 90000 ≤ q.factor ∧ q.factor ≤ 110000 := by
  simp [curveOk, flowsRise_iff, factorOk_iff, and_assoc]

/-- At the flow of the lower point the interpolation gives that point's factor. -/
theorem interpolate_left (lo hi : CurvePoint) : interpolate lo hi lo.flow = lo.factor := by simp [interpolate]

/-- A part of a whole, scaled to another whole and truncated toward zero, lies between 0 and that other whole. -/
theorem tdiv_share {part whole x : Int} (nonneg : 0 ≤ part) (le : part ≤ whole) (pos : 0 < whole) :
    min 0 x ≤ Int.tdiv (part * x) whole ∧ Int.tdiv (part * x) whole ≤ max 0 x := by
  have upward {y : Int} (hy : 0 ≤ y) : 0 ≤ Int.tdiv (part * y) whole ∧ Int.tdiv (part * y) whole ≤ y := by
    have scaled : part * y ≤ whole * y := Int.mul_le_mul_of_nonneg_right le hy
    refine ⟨Int.tdiv_nonneg (Int.mul_nonneg nonneg hy) pos.le, ?_⟩
    calc Int.tdiv (part * y) whole ≤ Int.tdiv (whole * y) whole := Int.tdiv_le_tdiv pos scaled
      _ = y := Int.mul_tdiv_cancel_left y pos.ne'
  rcases Int.le_total 0 x with up | down
  · obtain ⟨low, high⟩ := upward up; omega
  · obtain ⟨low, high⟩ := upward (y := -x) (by omega)
    rw [Int.mul_neg, Int.neg_tdiv] at low high; omega

/-- Between two points' flows the factor lies between the two points' factors. -/
theorem interpolate_range {lo hi : CurvePoint} {rate a b : Nat} (above : lo.flow ≤ rate) (below : rate < hi.flow)
    (low : a ≤ lo.factor ∧ lo.factor ≤ b) (high : a ≤ hi.factor ∧ hi.factor ≤ b) :
    a ≤ interpolate lo hi rate ∧ interpolate lo hi rate ≤ b := by
  have share := tdiv_share (part := (rate : Int) - lo.flow) (whole := (hi.flow : Int) - lo.flow)
    (x := (hi.factor : Int) - lo.factor) (by omega) (by omega) (by omega)
  unfold interpolate; omega

theorem factorFrom_range {a b rate : Nat} (rest : List CurvePoint) (lo : CurvePoint) (above : lo.flow ≤ rate)
    (range : ∀ q ∈ lo :: rest, a ≤ q.factor ∧ q.factor ≤ b) :
    a ≤ factorFrom lo rest rate ∧ factorFrom lo rest rate ≤ b := by
  induction rest generalizing lo with
  | nil => exact range lo (by simp)
  | cons hi rest ih =>
    rw [factorFrom]
    split
    · exact ih hi ‹_› fun q mem => range q (List.mem_cons_of_mem _ mem)
    · exact interpolate_range above (by omega) (range lo (by simp)) (range hi (by simp))

/-- The points before `q` are passed over, and the one after it stands above the rate. -/
theorem factorFrom_point {q : CurvePoint} (rest : List CurvePoint) (lo : CurvePoint)
    (rise : (lo :: rest).Pairwise slower) (mem : q ∈ lo :: rest) :
    factorFrom lo rest q.flow = q.factor := by
  induction rest generalizing lo with
  | nil => obtain rfl := List.mem_singleton.1 mem; rfl
  | cons hi rest ih =>
    obtain ⟨first, later⟩ := List.pairwise_cons.1 rise
    rw [factorFrom]
    rcases List.mem_cons.1 mem with rfl | mem
    · have := first hi (by simp)
      rw [if_neg (by omega), interpolate_left]
    · have reached : hi.flow ≤ q.flow := by
        rcases List.mem_cons.1 mem with rfl | mem
        · exact le_rfl
        · exact ((List.pairwise_cons.1 later).1 q mem).le
      rw [if_pos reached, ih hi later mem]

theorem factorAt_range {curve : List CurvePoint} (ok : curveOk curve = true) (rate : Nat) :
    90000 ≤ factorAt curve rate ∧ factorAt curve rate ≤ 110000 := by
  obtain ⟨some_point, -, range⟩ := (curveOk_iff curve).1 ok
  cases curve with
  | nil => exact absurd rfl some_point
  | cons p rest =>
    rw [factorAt]
    split
    · exact range p (by simp)
    · exact factorFrom_range rest p (by omega) range

theorem factorAt_point {curve : List CurvePoint} (ok : curveOk curve = true) {q : CurvePoint} (mem : q ∈ curve) :
    factorAt curve q.flow = q.factor := by
  obtain ⟨-, rise, -⟩ := (curveOk_iff curve).1 ok
  cases curve with
  | nil => cases mem
  | cons p rest =>
    rw [factorAt]
    split
    · rcases List.mem_cons.1 mem with rfl | later
      · rfl
      · have := (List.pairwise_cons.1 rise).1 q later; omega
    · exact factorFrom_point rest p rise mem

/-! ## The VCF (R40) -/

theorem vcfOf_range (beta : Nat) (t : Int) : 900000 ≤ vcfOf beta t ∧ vcfOf beta t ≤ 1100000 := by
  unfold vcfOf clampInt; omega

/-- Settles O27: a sample's stages are divisions with remainder, and a factor lies between those of its two points. -/
theorem residuesCarryRemaindersAndFactorsStayInRange : Obligations.ResiduesCarryRemaindersAndFactorsStayInRange := by
  refine ⟨fun delta weight factor vcf rate m _ _ _ _ => ⟨workSample_volume .., workSample_gross .., workSample_net ..,
    workSample_residues ..⟩, fun curve rate ok => ?_, vcfOf_range⟩
  obtain ⟨low, high⟩ := factorAt_range ok rate
  exact ⟨low, high, fun q mem e => e ▸ factorAt_point ok mem⟩

end Sys2Proof.Machine
end

section
/-! A silent node (R119 to R125): what its period timer does to its score and health, and what its owner does when it
becomes DOUBTFUL or LOST. -/

namespace Sys2Proof.Machine

open Sys2Proof

/-! ## A new score (R120, R121) -/

theorem modDevice_congr {n : DevNo} {f g : Device → Device} {p : Part} (e : f (p.device n) = g (p.device n)) :
    modDevice n f p = modDevice n g p := by unfold modDevice; rw [e]

theorem setScore_same {n : DevNo} {score : Nat} {p : Part}
    (same : healthAfter (p.device n).health score = (p.device n).health) :
    setScore n score p = modDevice n (fun d => { d with score := score }) p := by
  unfold setScore
  dsimp only
  rw [if_pos same]
  exact modDevice_congr (by rw [same])

theorem setScore_new {n : DevNo} {score : Nat} {p : Part} {new : Health}
    (after : healthAfter (p.device n).health score = new) (changed : new ≠ (p.device n).health) :
    setScore n score p =
      reportHealth (p.device n).binding new (modDevice n (fun d => { d with score := score, health := new }) p) := by
  unfold setScore
  dsimp only
  rw [after, if_neg changed]

/-! ## The period timer (R119) -/

section periodExpiry
variable {n : DevNo} {p : Part}

theorem periodExpiry_unbound (unbound : (p.device n).binding = .unbound) : periodExpiry n p = p := if_pos unbound

theorem periodExpiry_bound (bound : (p.device n).binding ≠ .unbound) :
    periodExpiry n p = setScore n (min 128 ((p.device n).score + 4)) p := if_neg bound

/-- The health that a node keeps at its period timer's expiry. -/
theorem healthAfter_silent {h : Health} {score : Nat}
    (stays : h = .good ∧ score < 32 ∨ h = .doubtful ∧ 32 ≤ score ∧ score < 96 ∨ h = .lost ∧ 16 ≤ score) :
    healthAfter h (min 128 score) = h := by
  rcases stays with ⟨rfl, below⟩ | ⟨rfl, low, high⟩ | ⟨rfl, above⟩
  · exact if_pos (by omega)
  · exact (if_neg (by omega)).trans (if_pos (by omega))
  · exact if_neg (by omega)

theorem periodExpiry_doubtful (bound : (p.device n).binding ≠ .unbound) (good : (p.device n).health = .good)
    (low : 28 ≤ (p.device n).score) (high : (p.device n).score ≤ 91) : periodExpiry n p =
      reportDoubtful (p.device n).binding
        (modDevice n (fun d => { d with score := d.score + 4, health := .doubtful }) p) := by
  have score : min 128 ((p.device n).score + 4) = (p.device n).score + 4 := by omega
  have after : healthAfter (p.device n).health ((p.device n).score + 4) = .doubtful := by
    rw [good]; exact (if_neg (by omega)).trans (if_pos (by omega))
  rw [periodExpiry_bound bound, score, setScore_new after (by rw [good]; decide)]
  exact congrArg (reportDoubtful _) (modDevice_congr rfl)

/-- The part when the owner of a node that has become LOST is told: DEVICE_LOST has been raised (R121). -/
def Part.nodeLost (p : Part) (n : DevNo) : Part :=
  raise .deviceLost (modDevice n (fun d => { d with score := min 128 (d.score + 4), health := .lost }) p)

theorem periodExpiry_lost (bound : (p.device n).binding ≠ .unbound) (doubtful : (p.device n).health = .doubtful)
    (score : 92 ≤ (p.device n).score) : periodExpiry n p = reportLost (p.device n).binding (p.nodeLost n) := by
  have after : healthAfter (p.device n).health (min 128 ((p.device n).score + 4)) = .lost := by
    rw [doubtful]; exact (if_neg (by omega)).trans (if_neg (by omega))
  rw [periodExpiry_bound bound, setScore_new after (by rw [doubtful]; decide)]
  exact congrArg (fun q => reportLost _ (raise .deviceLost q)) (modDevice_congr rfl)

@[simp] theorem nodeLost_hose (h : HoseNo) : (p.nodeLost n).hose h = p.hose h := by unfold Part.nodeLost; simp
@[simp] theorem nodeLost_zone (z : ZoneNo) : (p.nodeLost n).zone z = p.zone z := by unfold Part.nodeLost; simp

end periodExpiry

theorem exec_periodTimer {n : DevNo} {s : State} {f : Part → Part} (effect : periodExpiry n s.toPart = f s.toPart) :
    exec (.periodTimerExpiry n) s = .next (s.on f) := congrArg Host.Outcome.next (State.on_congr effect)

/-! ## What the owners do (R123 to R125) -/

/-- A fill marked as metered in doubt. -/
def Transaction.doubted (txn : Transaction) : Transaction :=
  { txn with tally := { txn.tally with flags := { txn.tally.flags with meterDoubt := true } } }

theorem doubtFill_fill {h : HoseNo} {p : Part} {ph : Phase} {txn : Transaction} (m : (p.hose h).mode = .fill ph txn) :
    doubtFill h p = modHose h (fun x => { x with mode := .fill ph txn.doubted }) p := by
  unfold doubtFill
  rw [m, markDoubt_eq]
  exact modHose_congr (by rw [m]; rfl)

theorem doubtFill_other {h : HoseNo} {p : Part} (m : ∀ ph txn, (p.hose h).mode ≠ .fill ph txn) : doubtFill h p = p := by
  unfold doubtFill
  split
  · exact absurd ‹_› (m _ _)
  · rfl

/-- The loss of `b` ends what hose `h` dispenses: `first` is done before the end, and the transaction of a fill is changed by
`doubt` before both. -/
def Binding.LostEnds (b : Binding) (h : HoseNo) (cause : EndCause) (first : Part → Part)
    (doubt : Transaction → Transaction) (p : Part) : Prop :=
  ((p.hose h).mode = .idle ∨ (p.hose h).mode = .out ∨ (∃ ses, (p.hose h).mode = .proving ses ∧ ses.run = none) →
    reportLost b p = first p) ∧
  (∀ ses run, (p.hose h).mode = .proving ses → ses.run = some run → reportLost b p = endRun h cause ses run (first p)) ∧
  (∀ ph txn, (p.hose h).mode = .fill ph txn →
    let marked := modHose h (fun x => { x with mode := .fill ph (doubt txn) }) p
    ((p.hose h).mode.isClosing = true → reportLost b p = first marked) ∧
    ((p.hose h).mode.isClosing = false → reportLost b p = enterClosing h cause (doubt txn) (first marked)))

section ends
variable {b : Binding} {h : HoseNo} {cause : EndCause} {first : Part → Part} {doubt : Transaction → Transaction} {p : Part}
  (keeps : ∀ q, ((first q).hose h).mode = (q.hose h).mode)

include keeps

theorem reportLost_ends (noTrip : cause ≠ .trip) (ends : cause.endsRun = true)
    (others : (∀ ph txn, (p.hose h).mode ≠ .fill ph txn) → reportLost b p = endRequest h cause (first p))
    (fills : ∀ ph txn, (p.hose h).mode = .fill ph txn → reportLost b p = endRequest h cause
      (first (modHose h (fun x => { x with mode := .fill ph (doubt txn) }) p))) : b.LostEnds h cause first doubt p := by
  refine ⟨fun idle => ?_, fun ses run m open_ => ?_, fun ph txn m => ?_⟩
  · have none : (p.hose h).mode.tally = none := by
      rcases idle with m | m | ⟨ses, m, run⟩ <;> rw [m]
      · rfl
      · rfl
      · simp only [HoseMode.tally, run, Option.map_none]
    rw [others fun ph txn m => (by rw [m] at none; cases none), endRequest_of_none (by rw [keeps, none])]
  · rw [others fun ph txn e => (by rw [e] at m; cases m), endRequest_of_run (by rw [keeps, m]) open_, if_pos ends]
  · intro marked
    have mode : ((first marked).hose h).mode = .fill ph (doubt txn) := by rw [keeps, modHose_hose_same]
    have closing : ((first marked).hose h).mode.isClosing = (p.hose h).mode.isClosing := by
      rw [mode, m]; cases ph <;> rfl
    rw [fills ph txn m]
    refine ⟨fun yes => ?_, fun no => endRequest_of_fill mode (closing.trans no) cause⟩
    rw [endRequest_of_closing (closing.trans yes), if_neg noTrip]

end ends

/-- The baseline of a lost meter's hose is absent (R31). -/
def noBaseline (h : HoseNo) : Part → Part := modHose h fun x => { x with baseline := none }

theorem reportLost_meter (h : HoseNo) (p : Part) :
    reportLost (.meter h) p = endRequest h .meterLost (noBaseline h (doubtFill h p)) := rfl

theorem meter_lostEnds (h : HoseNo) (p : Part) :
    (Binding.meter h).LostEnds h .meterLost (noBaseline h) Transaction.doubted p :=
  reportLost_ends (fun q => by unfold noBaseline; rw [modHose_hose_same]) (by decide) rfl
    (fun m => by rw [reportLost_meter, doubtFill_other m]) (fun ph txn m => by rw [reportLost_meter, doubtFill_fill m])

theorem reader_lostEnds (h : HoseNo) (p : Part) : (Binding.reader h).LostEnds h .readerLost id id p :=
  reportLost_ends (fun _ => rfl) (by decide) rfl (fun _ => rfl)
    (fun ph txn m => congrArg (endRequest h .readerLost) (modHose_eq_self (by rw [id, ← m])).symm)

theorem reportLost_sump (z : ZoneNo) (p : Part) : reportLost (.sump z) p =
    (if (p.zone z).sensorTrips then tripSource .sensorLost z else id) p := by
  unfold reportLost
  dsimp only
  split <;> rfl

theorem tripAll_eq (c : Cause) (p : Part) :
    tripAll c p = tripSource c 3 (tripSource c 2 (tripSource c 1 (tripSource c 0 p))) := by
  simp only [tripAll, zoneNos, each, List.foldl]

/-- The outcome of the expiry at which a node becomes LOST, once its owner's effect is known. -/
theorem exec_nodeLost {n : DevNo} {b : Binding} {s : State} (f : Part → Part) (hb : (s.device n).binding = b)
    (bound : b ≠ .unbound) (doubtful : (s.device n).health = .doubtful) (score : 92 ≤ (s.device n).score)
    (report : ∀ p : Part, (∀ h, p.hose h = s.hose h) → (∀ z, p.zone z = s.zone z) → reportLost b p = f p) :
    exec (.periodTimerExpiry n) s = .next (s.on fun p => f (p.nodeLost n)) := by
  refine exec_periodTimer ?_
  rw [periodExpiry_lost (by rw [hb]; exact bound) doubtful score, hb]
  exact report _ nodeLost_hose nodeLost_zone

/-- The outcome of that expiry for a node whose loss ends what a hose dispenses, by the hose's mode. -/
theorem exec_nodeLost_ends {n : DevNo} {b : Binding} {s : State} {h : HoseNo} {cause : EndCause} {first : Part → Part}
    {doubt : Transaction → Transaction} (hb : (s.device n).binding = b) (bound : b ≠ .unbound)
    (doubtful : (s.device n).health = .doubtful) (score : 92 ≤ (s.device n).score)
    (ends : ∀ p, b.LostEnds h cause first doubt p) :
    let does : (Part → Part) → Prop := fun f => exec (.periodTimerExpiry n) s = .next (s.on fun p => f (p.nodeLost n))
    ((s.hose h).mode = .idle ∨ (s.hose h).mode = .out ∨ (∃ ses, (s.hose h).mode = .proving ses ∧ ses.run = none) →
      does first) ∧
    (∀ ses run, (s.hose h).mode = .proving ses → ses.run = some run → does fun p => endRun h cause ses run (first p)) ∧
    (∀ ph txn, (s.hose h).mode = .fill ph txn →
      let marked : Part → Part := modHose h fun x => { x with mode := .fill ph (doubt txn) }
      ((s.hose h).mode.isClosing = true → does fun p => first (marked p)) ∧
      ((s.hose h).mode.isClosing = false → does fun p => enterClosing h cause (doubt txn) (first (marked p)))) := by
  intro does
  have told (f : Part → Part) (report : ∀ p : Part, p.hose h = s.hose h → reportLost b p = f p) : does f :=
    exec_nodeLost f hb bound doubtful score fun p hose _ => report p (hose h)
  let marked (ph : Phase) (txn : Transaction) : Part → Part := modHose h fun x => { x with mode := .fill ph (doubt txn) }
  refine ⟨fun idle => told first fun p hose => ?_,
    fun ses run m open_ => told (fun p => endRun h cause ses run (first p)) fun p hose => ?_, fun ph txn m =>
    ⟨fun closing => told (fun p => first (marked ph txn p)) fun p hose => ?_,
    fun going => told (fun p => enterClosing h cause (doubt txn) (first (marked ph txn p))) fun p hose => ?_⟩⟩ <;>
    obtain ⟨atRest, runs, fills⟩ := ends p <;> rw [hose] at atRest runs fills
  · exact atRest idle
  · exact runs ses run m open_
  · exact (fills ph txn m).1 closing
  · exact (fills ph txn m).2 going

/-! ## A telegram of a bound node (R117, R119) -/

theorem devices_of_sansAccounts {p q : Part} (e : p.sansAccounts = q.sansAccounts) : p.devices = q.devices :=
  show p.sansAccounts.devices = q.sansAccounts.devices from e ▸ rfl

theorem devices_of_sansFilter {p q : Part} (e : p.sansFilter = q.sansFilter) : p.devices = q.devices :=
  show p.sansFilter.devices = q.sansFilter.devices from e ▸ rfl

/-- A device entry without what the owner of a telegram and the kind check write in it (R94, R95, R118). -/
def Device.sansReports (d : Device) : Device := { d with mismatches := 0, wet := false, pressed := false }

/-- The device entries, node `n`'s without its reports. -/
def Part.entries (n : DevNo) (p : Part) (m : DevNo) : Device := if m = n then (p.device m).sansReports else p.device m

section entries
variable {n : DevNo}

theorem entries_of_devices {p q : Part} (e : p.devices = q.devices) : p.entries n = q.entries n := by
  unfold Part.entries Part.device; rw [e]

theorem modDevice_entries {f : Device → Device} (keeps : ∀ d, (f d).sansReports = d.sansReports) (p : Part) :
    (modDevice n f p).entries n = p.entries n := by
  funext m
  unfold Part.entries
  rw [modDevice_device]
  by_cases e : m = n
  · simp only [e, if_true, keeps]
  · rw [if_neg e, if_neg e, if_neg (Ne.symm e)]

theorem takeStarter_sansFills (t : TankNo) (d : List Byte) (p : Part) : (takeStarter t d p).sansFills = p.sansFills := by
  unfold takeStarter
  split
  · rfl
  · split
    · split <;> simp
    · split
      · split
        · exact stopPumping_sansFills t p
        · rfl
      · rfl

/-- The owner of a telegram changes no other entry, and of its sender's entry the reports alone. -/
theorem handTelegram_entries (d : List Byte) (p : Part) : (handTelegram n d p).entries n = p.entries n := by
  unfold handTelegram
  dsimp only
  split
  · rfl
  · split
    · rfl
    · exact entries_of_devices (devices_of_sansAccounts (takeMeter_sansAccounts ..))
  · exact entries_of_devices (devices_of_sansAccounts (takeTag_sansAccounts ..))
  · rw [takeValve_eq]; exact entries_of_devices (modHose_devices ..)
  · exact entries_of_devices (devices_of_sansFills (takeStarter_sansFills ..))
  · rw [takeInlet_eq]; exact entries_of_devices (modTank_devices ..)
  · split
    · rfl
    · exact entries_of_devices (devices_of_sansAccounts (sansAccounts_of (takeLevel_sansTrips ..)))
  · unfold takeSump
    split
    · rfl
    · dsimp only
      split
      · exact (entries_of_devices (devices_of_sansAccounts (sansAccounts_of (tripSource_sansTrips ..)))).trans
          (modDevice_entries (by intro; rfl) p)
      · exact modDevice_entries (by intro; rfl) p
  · unfold takeEstop
    split
    · rfl
    · dsimp only
      split
      · exact (entries_of_devices (devices_of_sansAccounts (sansAccounts_of (tripFor_sansTrips ..)))).trans
          (modDevice_entries (by intro; rfl) p)
      · exact modDevice_entries (by intro; rfl) p

theorem takeEchoBack_devices (d : List Byte) (p : Part) : (takeEchoBack n d p).devices = p.devices := by
  unfold takeEchoBack
  split
  · rfl
  · split
    · rfl
    · split
      · dsimp only
        split
        · exact raise_devices ..
        · rfl
      · rfl

theorem checkKind_entries (kind : Byte) (d : List Byte) (p : Part) : (checkKind n kind d p).entries n = p.entries n := by
  unfold checkKind
  dsimp only
  split
  · exact entries_of_devices (takeEchoBack_devices ..)
  · split
    · rfl
    · split
      · exact handTelegram_entries ..
      · exact modDevice_entries (by intro; rfl) p

/-- A telegram leaves the device entries as its scoring left them, its sender's but for the reports. -/
theorem fieldTelegram_entries {head : Header} {b : Binding} {p : Part} (kind : Byte) (payload : List Byte)
    (hn : deviceOf head.src = some n) (hears : p.Hears n b) :
    (fieldTelegram ⟨head, kind, payload⟩ p).entries n = (p.heard n kind).entries n := by
  unfold fieldTelegram
  rw [entries_of_devices (devices_of_sansFilter (offer_sansFilter ..)), monitorTelegram_heard hn hears, checkKind_entries]

end entries

theorem heard_device (p : Part) (n m : DevNo) (kind : Byte) : (p.heard n kind).device m = if n = m then
    { p.device m with lastKind := some kind, score := (p.device m).score - 1, health := (p.device m).heardHealth }
    else p.device m := by
  unfold Part.heard; rw [modDevice_device]; rfl

/-- One telegram of a node whose score allows its health changes the health at 32 and at 16 alone. -/
theorem heardHealth_cases (d : Device) : (d.health = .good → d.heardHealth = .good) ∧
    (d.health = .doubtful → d.heardHealth = if d.score = 32 then .good else .doubtful) ∧
    (d.health = .lost → d.heardHealth = if d.score = 16 then .good else .lost) := by
  refine ⟨fun e => ?_, fun e => ?_, fun e => ?_⟩ <;> simp [Device.heardHealth, e]

/-- What a telegram leaves of its sender's score and health, and of the other entries. -/
theorem fieldTelegram_scores {n : DevNo} {head : Header} {b : Binding} {p : Part} (kind : Byte) (payload : List Byte)
    (hn : deviceOf head.src = some n) (hears : p.Hears n b) :
    let d := p.device n
    let q := fieldTelegram ⟨head, kind, payload⟩ p
    (q.device n).score = d.score - 1 ∧ (q.device n).lastKind = some kind ∧ (q.device n).binding = b ∧
      (d.health = .good → (q.device n).health = .good) ∧
      (d.health = .doubtful → (q.device n).health = if d.score = 32 then .good else .doubtful) ∧
      (d.health = .lost → (q.device n).health = if d.score = 16 then .good else .lost) ∧
      (∀ m, m ≠ n → q.device m = p.device m) := by
  intro d q
  have entry (m : DevNo) : q.entries n m = (p.heard n kind).entries n m :=
    congrFun (fieldTelegram_entries kind payload hn hears) m
  simp only [Part.entries, heard_device] at entry
  have own := entry n
  simp only [if_true] at own
  have health : (q.device n).health = d.heardHealth := congrArg Device.health own
  obtain ⟨good, doubtful, lost⟩ := heardHealth_cases d
  refine ⟨congrArg Device.score own, congrArg Device.lastKind own, (congrArg Device.binding own).trans hears.1,
    fun e => health.trans (good e), fun e => health.trans (doubtful e), fun e => health.trans (lost e), fun m ne => ?_⟩
  have other := entry m
  rwa [if_neg ne, if_neg ne, if_neg ne.symm] at other

/-! ## The obligation -/

/-- Every row of a good field telegram is the same event, told by its kind. -/
theorem exec_fieldRow {head : Header} {other : Byte} {payload : List Byte} (s : State) {row : Instr × Byte}
    (mem : row ∈ ([(.meterSample head payload, 0x10), (.levelReport head payload, 0x11), (.tagReport head payload, 0x12),
      (.sumpReport head payload, 0x13), (.estopReport head payload, 0x14), (.starterStatus head payload, 0x15),
      (.valveStatus head payload, 0x15), (.inletStatus head payload, 0x15), (.echoBack head payload, 0x24),
      (.fieldTelegramOther head other payload, other)] : List (Instr × Byte))) :
    exec row.1 s = outcome (fieldTelegram ⟨head, row.2, payload⟩) s := by
  simp only [List.mem_cons, List.not_mem_nil, or_false] at mem
  rcases mem with rfl | rfl | rfl | rfl | rfl | rfl | rfl | rfl | rfl | rfl <;> rfl

/-- Settles O36: an expiry keeps the health or reports its change to the owner, and every row of a telegram scores alike. -/
theorem aSilentNodeLosesItsHealth : Obligations.ASilentNodeLosesItsHealth := by
  refine ⟨fun n s => ?_, fun n b s hb bound good low high => ?_, fun n b s hb bound doubtful score => ?_,
    fun head n b other payload s hn hears row mem => ?_⟩
  · intro score scored
    refine ⟨fun unbound => ?_, fun bound stays => exec_periodTimer ?_⟩
    · exact (exec_periodTimer (f := id) (periodExpiry_unbound unbound)).trans (by rw [State.on_self rfl])
    · rw [periodExpiry_bound bound, setScore_same (healthAfter_silent stays)]
  · intro does
    have told {f : Part → Part} (report : ∀ p : Part, (∀ h, p.hose h = s.hose h) → reportDoubtful b p = f p) : does f :=
      exec_periodTimer <| by
        rw [periodExpiry_doubtful (by rw [hb]; exact bound) good low high, hb, report _ (modDevice_hose_keep n _ _)]
    cases b with
    | meter h =>
      exact fun ph txn => ⟨fun m => told fun p e => doubtFill_fill (by rw [e, m]),
        fun m => told fun p e => doubtFill_other (by rw [e]; exact m)⟩
    | gauge k => exact told fun p _ => rfl
    | _ => exact told fun p _ => rfl
  · intro does ends
    have told (f : Part → Part) (report : ∀ p : Part, (∀ h, p.hose h = s.hose h) → (∀ z, p.zone z = s.zone z) →
        reportLost b p = f p) : does f := exec_nodeLost f hb bound doubtful score report
    cases b with
    | meter h => exact exec_nodeLost_ends hb bound doubtful score (meter_lostEnds h)
    | reader h => exact exec_nodeLost_ends hb bound doubtful score (reader_lostEnds h)
    | starter k => exact told (stopPumping k) fun _ _ _ => rfl
    | gauge k => exact told (fun p => closeInlet k .gauge (gaugeLeftGood k p)) fun _ _ _ => rfl
    | sump z => exact told _ fun p _ zone => by rw [reportLost_sump, zone]
    | estop z =>
      cases z with
      | none => exact told (fun p => tripSource .sensorLost 3 (tripSource .sensorLost 2 (tripSource .sensorLost 1
          (tripSource .sensorLost 0 p)))) fun p _ _ => tripAll_eq .sensorLost p
      | some z => exact told (tripSource .sensorLost z) fun _ _ _ => rfl
    | valve h => exact told id fun _ _ _ => rfl
    | inlet k => exact told id fun _ _ _ => rfl
    | unbound => exact absurd rfl bound
  · exact ⟨_, exec_fieldRow s mem, fieldTelegram_scores row.2 payload hn hears⟩

end Sys2Proof.Machine
end

section
/-! The strapping table (R73): it gives each of its own levels its own volume, and no less for a higher level. -/

namespace Sys2Proof.Machine

open Sys2Proof

/-- A rise of a level within a segment adds a share of the segment's volume. -/
def segmentShare (lo hi : StrapPoint) (level : Nat) : Nat :=
  (level - lo.level) * (hi.volume - lo.volume) * 1000 / (hi.level - lo.level)

theorem volumeFrom_nil (lo : StrapPoint) (level : Nat) : volumeFrom lo [] level = lo.volume * 1000 := by rw [volumeFrom]

theorem volumeFrom_reached {lo hi : StrapPoint} {level : Nat} (reached : hi.level ≤ level) (rest : List StrapPoint) :
    volumeFrom lo (hi :: rest) level = volumeFrom hi rest level := if_pos reached

theorem volumeFrom_below {lo hi : StrapPoint} {level : Nat} (below : level < hi.level) (rest : List StrapPoint) :
    volumeFrom lo (hi :: rest) level = lo.volume * 1000 + segmentShare lo hi level := if_neg (by omega)

theorem segmentShare_start (lo hi : StrapPoint) : segmentShare lo hi lo.level = 0 := by simp [segmentShare]

theorem segmentShare_mono (lo hi : StrapPoint) {a b : Nat} (le : a ≤ b) : segmentShare lo hi a ≤ segmentShare lo hi b :=
  Nat.div_le_div_right (Nat.mul_le_mul_right _ (Nat.mul_le_mul_right _ (by omega)))

theorem segmentShare_le {lo hi : StrapPoint} {level : Nat} (below : level < hi.level) :
    segmentShare lo hi level ≤ (hi.volume - lo.volume) * 1000 := by
  refine Nat.div_le_of_le_mul ?_
  rw [Nat.mul_assoc]
  exact Nat.mul_le_mul_right _ (by omega)

section volumeFrom
variable (rest : List StrapPoint) (lo : StrapPoint) (rise : (lo :: rest).Pairwise rises)

include rise

theorem volumeFrom_ge (level : Nat) : lo.volume * 1000 ≤ volumeFrom lo rest level := by
  induction rest generalizing lo with
  | nil => rw [volumeFrom_nil]
  | cons hi rest ih =>
    obtain ⟨first, later⟩ := List.pairwise_cons.1 rise
    have step := (first hi (by simp)).2
    by_cases reached : hi.level ≤ level
    · rw [volumeFrom_reached reached]; exact (Nat.mul_le_mul_right _ step).trans (ih hi later)
    · rw [volumeFrom_below (by omega)]; exact Nat.le_add_right ..

theorem volumeFrom_mono {a b : Nat} (le : a ≤ b) : volumeFrom lo rest a ≤ volumeFrom lo rest b := by
  induction rest generalizing lo with
  | nil => rw [volumeFrom_nil, volumeFrom_nil]
  | cons hi rest ih =>
    obtain ⟨first, later⟩ := List.pairwise_cons.1 rise
    by_cases low : hi.level ≤ a
    · rw [volumeFrom_reached low, volumeFrom_reached (low.trans le)]; exact ih hi later
    · rw [volumeFrom_below (by omega)]
      by_cases high : hi.level ≤ b
      · have step := (first hi (by simp)).2
        have share := segmentShare_le (lo := lo) (hi := hi) (level := a) (by omega)
        have whole : lo.volume * 1000 + segmentShare lo hi a ≤ hi.volume * 1000 := by omega
        rw [volumeFrom_reached high]; exact whole.trans (volumeFrom_ge rest hi later b)
      · rw [volumeFrom_below (by omega)]; exact Nat.add_le_add_left (segmentShare_mono lo hi le) _

theorem volumeFrom_point {q : StrapPoint} (mem : q ∈ lo :: rest) : volumeFrom lo rest q.level = q.volume * 1000 := by
  induction rest generalizing lo with
  | nil => obtain rfl := List.mem_singleton.1 mem; rw [volumeFrom_nil]
  | cons hi rest ih =>
    obtain ⟨first, later⟩ := List.pairwise_cons.1 rise
    rcases List.mem_cons.1 mem with rfl | mem
    · rw [volumeFrom_below (first hi (by simp)).1, segmentShare_start, Nat.add_zero]
    · have reached : hi.level ≤ q.level := by
        rcases List.mem_cons.1 mem with rfl | mem
        · exact le_rfl
        · exact ((List.pairwise_cons.1 later).1 q mem).1.le
      rw [volumeFrom_reached reached, ih hi later mem]

end volumeFrom

theorem table_rises {c : TankConfig} (valid : c.tableValid = true) : c.table.Pairwise rises := by
  simp only [TankConfig.tableValid, TankConfig.strapsOk, Bool.and_eq_true, strapsRise_iff] at valid
  exact valid.1.2

theorem volumeAt_point {ps : List StrapPoint} (rise : ps.Pairwise rises) {q : StrapPoint} (mem : q ∈ ps) :
    volumeAt ps q.level = q.volume * 1000 := by
  cases ps with
  | nil => cases mem
  | cons p rest => exact volumeFrom_point rest p rise mem

theorem volumeAt_mono {ps : List StrapPoint} (rise : ps.Pairwise rises) {a b : Nat} (le : a ≤ b) :
    volumeAt ps a ≤ volumeAt ps b := by
  cases ps with
  | nil => exact le_rfl
  | cons p rest => exact volumeFrom_mono rest p rise le

end Sys2Proof.Machine
end

section
/-! LEVEL reports (R72 to R74, R81 to R83, R86, R87, R105): the readings, the gauge mark, the two windows, and the
high-high test. -/

namespace Sys2Proof.Machine

open Sys2Proof

/-! ## The readings (R72 to R74) -/

/-- The last readings of a good LEVEL, on the tank. -/
def Tank.reading (x : Tank) (r : LevelReading) : Tank :=
  { x with lastLevel := some r.level, lastWater := some r.water, lastTemp := some r.temp, gaugeHeld := false }

section takeReading
variable {k : TankNo} {r : LevelReading} {p : Part}

theorem takeReading_noTable (invalid : (p.tank k).cfg.tableValid = false) :
    takeReading k r p = modTank k (fun x => x.reading r) p := by
  refine modTank_congr ?_
  dsimp only
  rw [if_neg (by rw [invalid]; decide)]
  rfl

theorem takeReading_gauged {prod : Product} (valid : (p.tank k).cfg.tableValid = true)
    (held : p.heldProduct k = some prod) : takeReading k r p = modTank k (fun x => { x.reading r with
      gaugeNet := some (gaugeNetOf (p.tank k).cfg.table r.level r.water prod.beta (usedTemp r.temp prod.fallback))
      gaugeTemp := some (usedTemp r.temp prod.fallback)
      aboveTable := decide ((lastStrap (p.tank k).cfg.table).level < r.level) }) p := by
  refine modTank_congr ?_
  dsimp only
  rw [if_pos valid, held]
  rfl

theorem takeReading_noProduct (valid : (p.tank k).cfg.tableValid = true) (none : p.heldProduct k = none) :
    takeReading k r p = modTank k (fun x => { x.reading r with
      aboveTable := x.aboveTable && decide ((lastStrap (p.tank k).cfg.table).level < r.level) }) p := by
  refine modTank_congr ?_
  dsimp only
  rw [if_pos valid, none]
  rfl

theorem heldProduct_some {i : ProductNo} {prod : Product} (named : p.tankProduct k = some (i, prod))
    (cls : prod.cls ≠ .none) : p.heldProduct k = some prod := by
  unfold Part.heldProduct; simp only [named, if_neg cls]

theorem heldProduct_none
    (none : p.tankProduct k = none ∨ ∃ i prod, p.tankProduct k = some (i, prod) ∧ prod.cls = .none) :
    p.heldProduct k = .none := by
  unfold Part.heldProduct
  rcases none with named | ⟨i, prod, named, cls⟩
  · simp only [named]
  · simp only [named, if_pos cls]

/-- A reading changes neither the tank's service nor its rest window. -/
theorem takeReading_keeps : ((takeReading k r p).tank k).state = (p.tank k).state ∧
    ((takeReading k r p).tank k).rest = (p.tank k).rest := by
  unfold takeReading
  rw [modTank_tank_same]
  dsimp only
  split
  · split <;> exact ⟨rfl, rfl⟩
  · exact ⟨rfl, rfl⟩

end takeReading

theorem usedTemp_eq (own fallback : Int) :
    usedTemp own fallback = if -500 ≤ own ∧ own ≤ 800 then own else fallback := by
  unfold usedTemp tempValid; simp only [Bool.and_eq_true, decide_eq_true_eq]

/-! ## The gauge mark (R105) -/

theorem modZone_congr {z : ZoneNo} {f g : Zone → Zone} {p : Part} (e : f (p.zone z) = g (p.zone z)) :
    modZone z f p = modZone z g p := by unfold modZone; rw [e]
theorem modZone_modZone (z : ZoneNo) (f g : Zone → Zone) (p : Part) :
    modZone z f (modZone z g p) = modZone z (fun x => f (g x)) p := by
  unfold modZone Part.zone; simp only [nth_setNth_same, setNth_setNth]

/-- A zone with the mark of tank `k`. -/
def Zone.marked (x : Zone) (k : TankNo) : Zone := { x with marks := x.marks ||| ((1 : BitVec 6) <<< k.val) }

section gaugeMark
variable {k : TankNo} {p : Part}

theorem gaugeMark_other (other : (p.zone (p.tank k).cfg.zone).state ≠ .recovery) : gaugeMark k p = p := if_neg other

theorem gaugeMark_recovering (state : (p.zone (p.tank k).cfg.zone).state = .recovery) : gaugeMark k p =
    recoveryTest (p.tank k).cfg.zone (modZone (p.tank k).cfg.zone (fun x => x.marked k) p) := if_pos state

/-- The zone's recovery test passes once the mark of tank `k` is set. -/
def Part.readyWith (p : Part) (k : TankNo) : Prop :=
  let z := (p.tank k).cfg.zone
  (p.zone z).timer = .expired ∧
    ∀ j, (p.tank j).cfg.zone = z → (p.tank j).state ≠ .outOfService → ((p.zone z).marked k).marks.getLsbD j.val = true

theorem marked_marksComplete : let z := (p.tank k).cfg.zone
    (modZone z (fun x => x.marked k) p).marksComplete z = true ↔ ∀ j, (p.tank j).cfg.zone = z →
      (p.tank j).state ≠ .outOfService → ((p.zone z).marked k).marks.getLsbD j.val = true := by
  intro z; rw [marksComplete_iff, modZone_zone_same]; rfl

theorem gaugeMark_waits (state : (p.zone (p.tank k).cfg.zone).state = .recovery) (not : ¬p.readyWith k) :
    gaugeMark k p = modZone (p.tank k).cfg.zone (fun x => x.marked k) p := by
  rw [gaugeMark_recovering state, recoveryTest_failed]
  rintro ⟨-, timer, marks⟩
  rw [modZone_zone_same] at timer
  exact not ⟨timer, marked_marksComplete.1 marks⟩

theorem gaugeMark_recovers (state : (p.zone (p.tank k).cfg.zone).state = .recovery) (ready : p.readyWith k) :
    gaugeMark k p = syncLines (modZone (p.tank k).cfg.zone
      (fun x => { x.marked k with state := .normal, causes := 0, marks := 0 }) p) := by
  obtain ⟨timer, marks⟩ := ready
  rw [gaugeMark_recovering state, recoveryTest_passed (by rw [modZone_zone_same]; exact state)
    (by rw [modZone_zone_same]; exact timer) (marked_marksComplete.2 marks), modZone_modZone]

end gaugeMark

/-! ## The loss window (R81, R82) -/

section lossStep
variable {k : TankNo} {recovering : Bool} {p : Part}

/-- The tank's loss window is worked: it is IN_SERVICE and its gauge GOOD. -/
def Part.lossWorked (p : Part) (k : TankNo) : Prop := (p.tank k).state = .inService ∧ p.roleGood (.gauge k) = true

theorem lossWorked_iff : (decide ((p.tank k).state = .inService) && p.roleGood (.gauge k)) = true ↔ p.lossWorked k := by
  simp [Part.lossWorked]

theorem lossStep_waiting {net : Nat} (worked : p.lossWorked k) (gauge : (p.tank k).gaugeNet = some net)
    (loss : (p.tank k).loss = .waiting) :
    lossStep k recovering p = modTank k (fun y => { y with loss := .opened net (p.tank k).book false }) p := by
  unfold lossStep; dsimp only; rw [if_pos (lossWorked_iff.2 worked), gauge, loss]; rfl

theorem lossStep_settled {net g0 : Nat} {b0 : Int} (worked : p.lossWorked k) (gauge : (p.tank k).gaugeNet = some net)
    (loss : (p.tank k).loss = .opened g0 b0 true) : lossStep k recovering p =
      if lossThreshold (p.tank k).cfg.lossFloor (b0 - (p.tank k).book) recovering <
          (g0 : Int) - net - (b0 - (p.tank k).book) then
        tripSource .unmeteredLoss (p.tank k).cfg.zone (modTank k (fun x => { x with loss := .spent }) p)
      else p := by
  unfold lossStep; dsimp only; rw [if_pos (lossWorked_iff.2 worked), gauge, loss]

theorem lossStep_idle (idle : ¬p.lossWorked k ∨ (p.tank k).gaugeNet = none ∨ (p.tank k).loss = .none ∨
    (p.tank k).loss = .spent ∨ ∃ g0 b0, (p.tank k).loss = .opened g0 b0 false) : lossStep k recovering p = p := by
  unfold lossStep
  dsimp only
  split
  · have worked := lossWorked_iff.1 ‹_›
    rcases idle with not | e | e | e | ⟨g0, b0, e⟩
    · exact absurd worked not
    · rw [e]
    all_goals rw [e]; cases (p.tank k).gaugeNet <;> rfl
  · rfl

end lossStep

/-! ## The rest window (R83) -/

section restStep
variable {k : TankNo} {p : Part}

theorem restConditions_iff : p.restConditions k = true ↔ (p.tank k).state = .inService ∧ (p.tank k).openHoses = 0 ∧
    p.roleGood (.gauge k) = true ∧ (p.tank k).gaugeHeld = false := by
  simp [Part.restConditions, and_assoc]

theorem restStep_starts {net : Nat} (rest : (p.tank k).rest = .none) (gauge : (p.tank k).gaugeNet = some net)
    (resting : p.restConditions k = true) :
    restStep k p = modTank k (fun x => { x with rest := .running net (p.tank k).book false }) p := by
  unfold restStep
  rw [rest, gauge]
  exact if_pos resting

theorem restStep_idle (rest : (p.tank k).rest = .none) (not : (p.tank k).gaugeNet = none ∨ p.restConditions k ≠ true) :
    restStep k p = p := by
  unfold restStep
  rw [rest]
  cases gauge : (p.tank k).gaugeNet with
  | none => rfl
  | some net => exact if_neg (not.resolve_left (by rw [gauge]; exact Option.some_ne_none net))

theorem restStep_running {g : Nat} {b : Int} {seen : Bool} (rest : (p.tank k).rest = .running g b seen) :
    restStep k p = modTank k (fun x => { x with rest := .running g b true }) p := by
  unfold restStep; rw [rest]

end restStep

/-! ## The inlet (R86, R87) -/

section inlet
variable {k : TankNo} {p : Part}

theorem inletOpen_iff (x : Tank) : x.inletOpen = true ↔ ∃ d, x.delivery = some d ∧ d.closed = none := by
  unfold Tank.inletOpen
  cases x.delivery <;> simp

theorem closeInlet_shut (shut : (p.tank k).inletOpen = false) (cause : CloseCause) : closeInlet k cause p = p :=
  if_neg (by rw [shut]; decide)

theorem closeInlet_open {d : Delivery} (delivery : (p.tank k).delivery = some d) (open_ : d.closed = none)
    (cause : CloseCause) : closeInlet k cause p =
      modTank k (fun y => { y with delivery := some { d with closed := some cause } }) (sendInlet k 0 p) := by
  unfold closeInlet
  rw [if_pos ((inletOpen_iff _).2 ⟨d, delivery, open_⟩)]
  refine modTank_congr ?_
  simp only [sendInlet_tank, delivery, Option.map_some, Delivery.close, open_]

theorem highHighTest_closes {level : Nat} (state : (p.tank k).state = .receiving) (open_ : (p.tank k).inletOpen = true)
    (reached : (p.tank k).cfg.highHigh ≤ level) :
    highHighTest k level p = raise .overfillGuard (closeInlet k .highHigh p) :=
  if_pos (by simp [state, open_, reached])

theorem highHighTest_not {level : Nat} (not : (p.tank k).state ≠ .receiving ∨ (p.tank k).inletOpen = false ∨
    level < (p.tank k).cfg.highHigh) : highHighTest k level p = p := by
  refine if_neg ?_
  simp only [Bool.and_eq_true, decide_eq_true_eq]
  rintro ⟨⟨state, open_⟩, reached⟩
  rcases not with other | shut | below
  · exact other state
  · rw [shut] at open_; cases open_
  · omega

end inlet

/-! ## A LEVEL and its steps (R72) -/

theorem readLevel_short {d : List Byte} (short : d.length < 7) : readLevel d = none := by
  unfold readLevel
  split
  · simp at short; omega
  · rfl

section takeLevel
variable {k : TankNo} {d : List Byte} {r : LevelReading} {p : Part}

theorem takeLevel_unread (none : readLevel d = none) : takeLevel k d p = p := by unfold takeLevel; rw [none]

theorem takeLevel_faulted (read : readLevel d = some r) (fault : r.fault = true) : takeLevel k d p = faultedLevel k p := by
  unfold takeLevel; rw [read]; exact if_pos fault

theorem takeLevel_good (read : readLevel d = some r) (good : r.fault = false) (service : (p.tank k).state ≠ .outOfService) :
    takeLevel k d p = highHighTest k r.level (restStep k
      (lossStep k ((p.zone (p.tank k).cfg.zone).state == .recovery) (gaugeMark k (takeReading k r p)))) := by
  unfold takeLevel
  rw [read]
  dsimp only
  rw [if_neg (by rw [good]; decide), takeReading_keeps.1, if_neg service]

/-- Out of service a good LEVEL gives its readings alone: no later step finds anything to do. -/
theorem takeLevel_outOfService (read : readLevel d = some r) (good : r.fault = false)
    (out : (p.tank k).state = .outOfService) (rest : (p.tank k).rest = .none) : takeLevel k d p = takeReading k r p := by
  obtain ⟨sameState, sameRest⟩ := takeReading_keeps (k := k) (r := r) (p := p)
  have state := sameState.trans out
  have noLoss : ¬(takeReading k r p).lossWorked k := fun worked => by rw [worked.1] at state; cases state
  have noRest : (takeReading k r p).restConditions k ≠ true := fun resting => by
    rw [(restConditions_iff.1 resting).1] at state; cases state
  unfold takeLevel
  rw [read]
  dsimp only
  rw [if_neg (by rw [good]; decide), if_pos state, lossStep_idle (.inl noLoss),
    restStep_idle (sameRest.trans rest) (.inr noRest), highHighTest_not (.inl (by rw [state]; decide))]

end takeLevel

theorem faultedLevel_eq (k : TankNo) (p : Part) : faultedLevel k p = closeInlet k .gauge
    (modTank k (fun x => { x with gaugeHeld := true, rest := .none, loss := x.loss.restart }) p) := by
  unfold faultedLevel disturbWindows; rw [modTank_modTank]

/-! ## The obligation -/

@[simp] theorem heard_zones (p : Part) (n : DevNo) (kind : Byte) : (p.heard n kind).zones = p.zones := by
  unfold Part.heard; simp
@[simp] theorem heard_zone (p : Part) (n : DevNo) (kind : Byte) (z : ZoneNo) : (p.heard n kind).zone z = p.zone z := by
  unfold Part.zone; rw [heard_zones]

theorem handTelegram_gauge {n : DevNo} {k : TankNo} {p : Part} (d : List Byte) (b : (p.device n).binding = .gauge k) :
    handTelegram n d p = if (p.device n).health = .lost then p else takeLevel k d p := by
  unfold handTelegram; simp only [b]

section level
variable {head : Header} {n : DevNo} {k : TankNo} {payload : List Byte} {s : State}
  (hn : deviceOf head.src = some n) (hears : s.Hears n (.gauge k))

include hn hears

/-- The outcome of a LEVEL that works nothing: its gauge is left LOST, or its payload is no LEVEL. -/
theorem level_unworked (not : (s.device n).heardHealth = .lost ∨ readLevel payload = none) :
    exec (.levelReport head payload) s = .next (s.told head 0x11 payload n id) := by
  refine outcome_told hn hears rfl ?_
  rw [handTelegram_gauge _ (by rw [heard_binding, hears.1]), heard_health]
  split
  · rfl
  · exact takeLevel_unread (not.resolve_left ‹_›)

/-- The outcome of a LEVEL of a gauge that is not LOST, once its effect is known. -/
theorem level_told {f : Part → Part} (found : (s.device n).heardHealth ≠ .lost)
    (effect : ∀ p : Part, p.tank k = s.tank k → (∀ z, p.zone z = s.zone z) → takeLevel k payload p = f p) :
    exec (.levelReport head payload) s = .next (s.told head 0x11 payload n f) := by
  refine outcome_told hn hears rfl ?_
  rw [handTelegram_gauge _ (by rw [heard_binding, hears.1]), heard_health, if_neg found]
  exact effect _ (heard_tank ..) (heard_zone _ _ _)

end level

/-- Settles O30: a LEVEL is taken by its gauge's health, its length and its fault, each step by the state it finds, and the
table's volume by the segment its level lies in. -/
theorem aGoodLevelSetsTheReadingsByTheTable : Obligations.AGoodLevelSetsTheReadingsByTheTable := by
  refine ⟨fun head n k payload s hn hears lost => level_unworked hn hears (.inl lost),
    fun head n k payload s hn hears short => level_unworked hn hears (.inr (readLevel_short short)),
    fun head n k l0 l1 w0 w1 t0 t1 st rest s hn hears found => ?_, fun k r p => ?_, fun k p => ?_,
    fun k recovering p => ?_, fun k level p => ?_, fun c valid => ?_⟩
  · intro recovering payload level r
    have read : readLevel payload = some { r with fault := st.getLsbD 0 } := rfl
    refine ⟨fun fault => level_told hn hears found fun p _ _ => ?_, fun good out rest => level_told hn hears found
      fun p tank _ => ?_, fun good service => level_told hn hears found fun p tank zone => ?_⟩
    · rw [takeLevel_faulted read fault, faultedLevel_eq]; rfl
    · rw [good] at read
      exact takeLevel_outOfService read rfl (by rw [tank]; exact out) (by rw [tank]; exact rest)
    · rw [good] at read
      rw [takeLevel_good read rfl (by rw [tank]; exact service), zone, tank]
      rfl
  · intro table above read
    refine ⟨takeReading_noTable, fun i prod valid named cls => ?_, fun valid none => ?_⟩
    · have taken := takeReading_gauged (r := r) valid (heldProduct_some named cls)
      simp only [usedTemp_eq] at taken
      exact taken
    · exact takeReading_noProduct valid (heldProduct_none none)
  · intro z marked ready
    exact ⟨gaugeMark_other, fun state not => (gaugeMark_waits state not).trans (modZone_congr rfl),
      fun state ready => (gaugeMark_recovers state ready).trans (congrArg syncLines (modZone_congr rfl))⟩
  · intro x checks
    refine ⟨fun net worked gauge loss => lossStep_waiting worked gauge loss, fun net g0 b0 worked gauge loss => ?_,
      lossStep_idle⟩
    have settled := lossStep_settled (recovering := recovering) worked gauge loss
    exact ⟨fun above => settled.trans (if_pos above), fun within => settled.trans (if_neg (not_lt.2 within))⟩
  · intro x resting
    exact ⟨fun net rest gauge rests => restStep_starts rest gauge (restConditions_iff.2 rests),
      fun rest not => restStep_idle rest (not.imp_right (mt restConditions_iff.1)), fun g b seen rest => restStep_running rest,
      highHighTest_closes, highHighTest_not, fun cause d delivery open_ => closeInlet_open delivery open_ cause,
      fun cause shut => closeInlet_shut shut cause, inletOpen_iff x⟩
  · exact ⟨fun q mem => volumeAt_point (table_rises valid) mem, fun a b le => volumeAt_mono (table_rises valid) le⟩

end Sys2Proof.Machine
end

section
/-! The commands on one slot of the machine table (R49, R64), and the switches of the profile (R58): each said once by the
branch it takes. -/

namespace Sys2Proof.Machine

open Sys2Proof

/-! ## The slot a command names -/

theorem fromZero_eq_some {n x : Nat} (i : Fin n) (h : x = i.val) : fromZero n x = some i := by
  subst h; exact dif_pos i.isLt

theorem fromZero_eq_none {n x : Nat} (h : n ≤ x) : fromZero n x = none := dif_neg (not_lt.2 h)

theorem withMachine_of {slot : Word} {m : SlotNo} {p : Part} (hm : slot.toNat = m.val) (tag : (p.machine m).tag ≠ 0)
    (f : SlotNo → Part → Answer) : withMachine slot f p = f m p := by
  unfold withMachine; rw [fromZero_eq_some m hm]; exact if_neg tag

theorem withMachine_bad {slot : Word} {p : Part}
    (bad : 1024 ≤ slot.toNat ∨ ∃ m : SlotNo, slot.toNat = m.val ∧ (p.machine m).tag = 0) (f : SlotNo → Part → Answer) :
    withMachine slot f p = refuse .badIndex p := by
  unfold withMachine
  obtain absent | ⟨m, hm, empty⟩ := bad
  · rw [fromZero_eq_none absent]
  · rw [fromZero_eq_some m hm]; exact if_pos empty

/-! ## MACHINE_STATE and SERVICE_DONE -/

theorem ne_zero_and_ne_one_of_one_lt {b : Byte} (above : 1 < b.toNat) : b ≠ 0 ∧ b ≠ 1 := by
  constructor <;> (rintro rfl; simp at above)

theorem serviceDone_some (slot : Word) (hours : Long) (p : Part) : serviceDoneCommand (some (slot, hours)) p =
    withMachine slot (fun m p =>
      if hours = 0xFFFFFFFF then refuse .badValue p
      else done (modMachine m
        (fun x => { x with hoursAtService := some hours.toNat, lubeSinceService := 0, hold := false }) p)) p := rfl

section machine
variable {slot : Word} {m : SlotNo} {p : Part} (hm : slot.toNat = m.val) (tag : (p.machine m).tag ≠ 0)

include hm tag

theorem machineState_barred :
    machineState slot 1 p = done (modMachine m (fun x => { x with state := .barred }) p) := by
  unfold machineState; rw [withMachine_of hm tag, if_neg (by decide), if_pos rfl]

theorem machineState_opened :
    machineState slot 0 p = done (modMachine m (fun x => { x with state := .opened, doubt := 0, abnormal := false }) p) := by
  unfold machineState; rw [withMachine_of hm tag, if_pos rfl]

theorem machineState_badValue {b : Byte} (above : 1 < b.toNat) : machineState slot b p = refuse .badValue p := by
  unfold machineState
  obtain ⟨ne0, ne1⟩ := ne_zero_and_ne_one_of_one_lt above
  rw [withMachine_of hm tag, if_neg ne0, if_neg ne1]

theorem serviceDone_done {hours : Long} (known : hours ≠ 0xFFFFFFFF) :
    serviceDoneCommand (some (slot, hours)) p = done (modMachine m
      (fun x => { x with hoursAtService := some hours.toNat, lubeSinceService := 0, hold := false }) p) := by
  rw [serviceDone_some, withMachine_of hm tag, if_neg known]

theorem serviceDone_badValue : serviceDoneCommand (some (slot, 0xFFFFFFFF)) p = refuse .badValue p := by
  rw [serviceDone_some, withMachine_of hm tag, if_pos rfl]

end machine

/-- Settles O49: the slot is looked up first, and a machine found there is changed by the branch of its command. -/
theorem machinesAreBarredOpenedAndServiced : Obligations.MachinesAreBarredOpenedAndServiced := by
  refine fun src w hours s => ⟨fun m hm tag => ?_, fun bad => ?_⟩
  · have named : ((consumeUp s.toPart).machine m).tag ≠ 0 := by rwa [consumeUp_machine]
    exact ⟨outcome_command (machineState_barred hm named), outcome_command (machineState_opened hm named),
      fun known => outcome_command (serviceDone_done hm named known),
      fun b above => outcome_command (machineState_badValue hm named above),
      outcome_command (serviceDone_badValue hm named)⟩
  · have unnamed : 1024 ≤ w.toNat ∨ ∃ m : SlotNo, w.toNat = m.val ∧ ((consumeUp s.toPart).machine m).tag = 0 := by
      simpa only [consumeUp_machine] using bad
    exact ⟨outcome_command (withMachine_bad unnamed _),
      fun b => outcome_command (by rw [withArgs_some]; exact withMachine_bad unnamed _),
      outcome_command (by rw [serviceDone_some]; exact withMachine_bad unnamed _)⟩

/-! ## PROFILE, PROFILE_SOURCE and the PROFILE line -/

theorem exec_profileLineChange (high : Bool) (s : State) :
    exec (.profileLineChange high) s = .next (s.on (profileLine high)) := rfl

theorem profileLine_line {high : Bool} {p : Part} (change : high ≠ p.profileHigh) (source : p.source = .line) :
    profileLine high p = switchProfile (levelLetter high) { p with profileHigh := high } := by
  unfold profileLine; rw [if_neg change]; exact if_pos source

theorem profileLine_command {high : Bool} {p : Part} (change : high ≠ p.profileHigh) (source : p.source = .command) :
    profileLine high p = { p with profileHigh := high } := by
  unfold profileLine; rw [if_neg change]; exact if_neg (by simp [source])

theorem profile_line {b : Byte} {p : Part} (letter : b.toNat ≤ 1) (source : p.source = .line) :
    profileCommand (some b) p = refuse .refusedMode p := by
  unfold profileCommand; rw [withArgs_some, if_neg (not_lt.2 letter), if_pos source]

theorem profile_command {b : Byte} {p : Part} (letter : b.toNat ≤ 1) (source : p.source = .command) :
    profileCommand (some b) p = done (switchProfile (levelLetter (b == 1)) p) := by
  unfold profileCommand; rw [withArgs_some, if_neg (not_lt.2 letter), if_neg (by simp [source])]

theorem profile_badValue {b : Byte} (above : 1 < b.toNat) (p : Part) :
    profileCommand (some b) p = refuse .badValue p := by
  unfold profileCommand; rw [withArgs_some, if_pos above]

theorem profileSource_line (p : Part) : profileSourceCommand (some 0) p =
    done (switchProfile (levelLetter p.profileHigh) { p with source := .line }) := rfl

theorem profileSource_command (p : Part) : profileSourceCommand (some 1) p = done { p with source := .command } := rfl

theorem profileSource_badValue {b : Byte} (above : 1 < b.toNat) (p : Part) :
    profileSourceCommand (some b) p = refuse .badValue p := by
  unfold profileSourceCommand
  obtain ⟨ne0, ne1⟩ := ne_zero_and_ne_one_of_one_lt above
  rw [withArgs_some, if_neg ne0, if_neg ne1]

/-- Settles O51: each event takes the branch of the profile source, and a switch is `switchProfile` of the letter it
selects. -/
theorem profileSwitchesFollowTheSource : Obligations.ProfileSwitchesFollowTheSource := by
  intro src b high s letter put
  have source_eq : (consumeUp s.toPart).source = s.source := consumeUp_source _
  have switched : ∀ l p, switchProfile l p = put l p := fun l _ => by cases l <;> rfl
  refine ⟨fun change source => congrArg _ (State.on_congr ?_), fun change source => ?_,
    fun low source => outcome_command (profile_line low (source_eq.trans source)),
    fun low source => outcome_command ?_, outcome_command ?_, outcome_command (profileSource_command _),
    fun above => ⟨outcome_command (profile_badValue above _), outcome_command (profileSource_badValue above _)⟩⟩
  · exact (profileLine_line change source).trans (switched ..)
  · rw [exec_profileLineChange, State.on, profileLine_command change source]
  · rw [profile_command low (source_eq.trans source), switched]; rfl
  · rw [profileSource_line, switched, consumeUp_profileHigh]; rfl

end Sys2Proof.Machine
end

section
/-! What an operation must keep for the promises of books, records and TRIPPED zones (R75, R98, R101, R155): first the
telegrams that wait, then the relations between the part before and after an operation by which each is followed. -/

namespace Sys2Proof.Machine

open Sys2Proof

/-! ## The telegrams that R101 bars -/

/-- A telegram waits at a port. -/
def Port.Holds (q : Port) (u : Telegram) : Prop := u ∈ q.own ∨ u ∈ q.forwarded

/-- A telegram waits at either port. -/
def Part.Waits (p : Part) (u : Telegram) : Prop := p.up.Holds u ∨ p.fp.Holds u

theorem ordersHeld_iff (p : Part) : p.OrdersHeld ↔ ∀ u, p.Waits u → p.bars u = false := by
  simp only [Part.OrdersHeld, Part.Waits, Port.Holds, or_assoc]

/-- A telegram is for the node of a device entry, or for all nodes. -/
def Reaches (u : Telegram) (n : DevNo) : Prop := u.head.dst = 63 ∨ deviceOf u.head.dst = some n

theorem bars_iff (p : Part) (u : Telegram) : p.bars u = true ↔
    ∃ value rest n, u.payload = value :: rest ∧ Reaches u n ∧ p.barsOrder u.kind value (p.device n).binding = true := by
  unfold Part.bars Reaches
  cases pay : u.payload with
  | nil => simp
  | cons value rest =>
    by_cases all : u.head.dst = 63
    · simp only [all, if_true, List.any_eq_true, true_or, true_and, List.cons.injEq]
      constructor
      · rintro ⟨d, mem, bars⟩
        obtain ⟨i, hi, rfl⟩ := List.getElem_of_mem mem
        exact ⟨value, rest, ⟨i, by simpa using hi⟩, ⟨rfl, rfl⟩, by simpa [Part.device, nth] using bars⟩
      · rintro ⟨v, r, n, ⟨rfl, rfl⟩, bars⟩
        exact ⟨p.device n, by simp [Part.device, nth], bars⟩
    · simp only [all, if_false, false_or]
      cases dev : deviceOf u.head.dst with
      | none => simp
      | some n => simp

/-- The zone of a tank is TRIPPED. -/
def Part.tankTripped (p : Part) (t : TankNo) : Bool := (p.zone (p.tank t).cfg.zone).state == .tripped

/-- An order that one part bars is barred by every other whose zones are tripped as much. -/
theorem barsOrder_mono {p q : Part} (hose : ∀ h, q.hoseTripped h = true → p.hoseTripped h = true)
    (tank : ∀ t, q.tankTripped t = true → p.tankTripped t = true) {kind value : Byte} {b : Binding}
    (bars : q.barsOrder kind value b = true) : p.barsOrder kind value b = true := by
  unfold Part.tankTripped at tank
  cases b with
  | starter t =>
    simp only [Part.barsOrder, Bool.and_eq_true] at bars ⊢
    exact ⟨bars.1, tank t bars.2⟩
  | valve h =>
    simp only [Part.barsOrder, Bool.and_eq_true] at bars ⊢
    exact ⟨bars.1, hose h bars.2⟩
  | inlet t =>
    simp only [Part.barsOrder, Bool.and_eq_true] at bars ⊢
    exact ⟨bars.1, tank t bars.2⟩
  | _ => exact bars

theorem bars_mono {p q : Part} (hose : ∀ h, q.hoseTripped h = true → p.hoseTripped h = true)
    (tank : ∀ t, q.tankTripped t = true → p.tankTripped t = true)
    (binding : ∀ n, (q.device n).binding = (p.device n).binding) {u : Telegram} (held : p.bars u = false) :
    q.bars u = false := by
  by_contra no
  obtain ⟨value, rest, n, pay, reach, bars⟩ := (bars_iff q u).1 (by simpa using no)
  have : p.bars u = true := (bars_iff p u).2 ⟨value, rest, n, pay, reach, binding n ▸ barsOrder_mono hose tank bars⟩
  rw [held] at this; cases this

/-- A telegram that R101 bars in no state of the part. -/
def Harmless (u : Telegram) : Prop := ∀ p : Part, p.bars u = false

theorem harmless_of_kind {u : Telegram} (run : u.kind ≠ kindRun) (set : u.kind ≠ kindSet) : Harmless u := by
  intro p
  by_contra no
  obtain ⟨value, rest, n, -, -, bars⟩ := (bars_iff p u).1 (by simpa using no)
  cases b : (p.device n).binding <;> simp [Part.barsOrder, b, run, set] at bars

theorem harmless_of_zero {u : Telegram} (zero : u.payload = [0]) : Harmless u := by
  intro p
  by_contra no
  obtain ⟨value, rest, n, pay, -, bars⟩ := (bars_iff p u).1 (by simpa using no)
  obtain ⟨rfl, -⟩ : (0 : Byte) = value ∧ [] = rest := by simpa [zero] using pay
  cases b : (p.device n).binding <;> simp [Part.barsOrder, b] at bars

/-! ## What a port holds after an operation -/

theorem Port.counted_holds (e : PortEvent) (q : Port) (u : Telegram) : (q.counted e).Holds u ↔ q.Holds u := by
  simp [Port.Holds]

theorem Port.placeOwn_holds {t u : Telegram} {q : Port} (mem : (q.placeOwn t).Holds u) : q.Holds u ∨ u = t := by
  rcases mem with m | m
  · exact (placeOwn_own m).imp_left .inl
  · exact .inl (.inr (placeOwn_forwarded m))

theorem Port.placeForwarded_holds {t u : Telegram} {q : Port} (mem : (q.placeForwarded t).Holds u) :
    q.Holds u ∨ u = t := by
  obtain ⟨-, e⟩ | ⟨-, e⟩ := q.placeForwarded_cases t <;> rw [e] at mem
  · rcases mem with m | m
    · exact .inl (.inl m)
    · rcases List.mem_append.1 m with m | m
      · exact .inl (.inr m)
      · exact .inr (List.mem_singleton.1 m)
  · exact .inl ((counted_holds ..).1 mem)

/-- A port some of whose waiting telegrams are taken out. -/
theorem Port.filtered_holds {f g : Telegram → Bool} {q : Port} {u : Telegram}
    (mem : Port.Holds { q with own := q.own.filter f, forwarded := q.forwarded.filter g } u) : q.Holds u :=
  mem.imp (fun m => (List.mem_filter.1 m).1) fun m => (List.mem_filter.1 m).1

theorem Port.queueOrder_holds {t u : Telegram} {q : Port} (mem : (q.queueOrder t).Holds u) : q.Holds u ∨ u = t :=
  (placeOwn_holds mem).imp_left filtered_holds

theorem Port.queueAttention_holds {t u : Telegram} {q : Port} (mem : (q.queueAttention t).Holds u) : q.Holds u ∨ u = t :=
  (placeOwn_holds mem).imp_left filtered_holds

theorem Port.queueOrders_holds {us : List Telegram} {u : Telegram} {q : Port}
    (mem : (us.foldl (fun x t => x.queueOrder t) q).Holds u) : q.Holds u ∨ u ∈ us := by
  induction us generalizing q with
  | nil => exact .inl mem
  | cons t us ih =>
    rcases ih mem with m | m
    · exact (queueOrder_holds m).imp_right fun e => by rw [e]; exact List.mem_cons_self
    · exact .inr (List.mem_cons_of_mem _ m)

theorem Port.heardEnd_queues (q : Port) : q.heardEnd.own = q.own ∧ q.heardEnd.forwarded = q.forwarded := by
  unfold Port.heardEnd; split <;> exact ⟨rfl, rfl⟩

theorem Port.heardEnd_holds (q : Port) (u : Telegram) : q.heardEnd.Holds u ↔ q.Holds u := by
  unfold Port.Holds; rw [q.heardEnd_queues.1, q.heardEnd_queues.2]

/-! ## The orders of the part's own -/

theorem deviceOf_nodeOf (n : DevNo) : deviceOf (nodeOf n) = some n := by decide +revert
theorem nodeOf_ne_all (n : DevNo) : nodeOf n ≠ 63 := by decide +revert

theorem boundNode_binding {p : Part} {b : Binding} {n : DevNo} (bound : p.boundNode b = some n) :
    (p.device n).binding = b := by
  simpa [Part.device] using firstIdx_some bound

/-- An order reaches the node of its role alone, so that the part bars it by that role. -/
theorem orderTo_bars {p : Part} {kind value : Byte} {b : Binding} {u : Telegram} (mem : u ∈ p.orderTo kind b value)
    (free : p.barsOrder kind value b = false) : p.bars u = false := by
  obtain ⟨n, bound, rfl⟩ := List.mem_map.1 mem
  have role := boundNode_binding (Option.mem_toList.1 bound)
  by_contra no
  obtain ⟨v, rest, m, pay, reach, bars⟩ := (bars_iff p _).1 (by simpa using no)
  obtain ⟨rfl, -⟩ : value = v ∧ [] = rest := by simpa using pay
  rcases reach with all | one
  · exact nodeOf_ne_all n all
  · obtain rfl : n = m := Option.some.inj ((deviceOf_nodeOf n).symm.trans one)
    rw [role, free] at bars; cases bars

theorem orderTo_zero {p : Part} {kind : Byte} {b : Binding} {u : Telegram} (mem : u ∈ p.orderTo kind b 0) : Harmless u := by
  obtain ⟨n, -, rfl⟩ := List.mem_map.1 mem
  exact harmless_of_zero rfl

theorem orderTo_lamp {p : Part} {h : HoseNo} {value : Byte} {u : Telegram} (mem : u ∈ p.orderTo kindLamp (.reader h) value) :
    Harmless u := by
  obtain ⟨n, -, rfl⟩ := List.mem_map.1 mem
  exact harmless_of_kind (show kindLamp ≠ kindRun by decide) (show kindLamp ≠ kindSet by decide)

theorem lampTo_harmless {p : Part} {h : HoseNo} {lamp : Byte} {u : Telegram} (mem : u ∈ p.lampTo h lamp) : Harmless u := by
  unfold Part.lampTo at mem
  split at mem
  · exact orderTo_lamp mem
  · split at mem
    · cases mem
    · exact orderTo_lamp mem

theorem endOrders_harmless {p : Part} {h : HoseNo} {cause : EndCause} {t : TankNo} {u : Telegram}
    (mem : u ∈ p.endOrders h cause t) : Harmless u := by
  unfold Part.endOrders at mem
  simp only [List.mem_append] at mem
  rcases mem with (m | m) | m
  · exact orderTo_zero m
  · exact lampTo_harmless m
  · split at m
    · exact orderTo_zero m
    · cases m

theorem sendAll_waits {us : List Telegram} {p : Part} {u : Telegram} (w : (sendAll us p).Waits u) : p.Waits u ∨ u ∈ us := by
  rcases w with w | w
  · exact .inl (.inl w)
  · exact (Port.queueOrders_holds w).imp_left .inr

/-! ## What the promises read of a hose and a tank -/

/-- A hose in READY, FLOWING or PAUSED, or with a run in progress. -/
def HoseMode.going (m : HoseMode) : Bool := m.dispensing || m.run.isSome

theorem going_eq_false {m : HoseMode} : m.going = false ↔ m.dispensing = false ∧ m.run = none := by
  simp [HoseMode.going]

/-- The net of a transaction is above its cap and overrun allowance (R98). -/
def Transaction.Overrun (t : Transaction) : Prop := t.cap + t.allowance < t.tally.net

/-- A hose after an operation that opens nothing on it; its net may rise where it is exempt. -/
structure Hose.Eases (exempt : Prop) (x y : Hose) : Prop where
  tank : y.cfg.tank = x.cfg.tank := by rfl
  going : y.mode.going = true → x.mode.going = true
  fills : ∀ ph t, y.mode = .fill ph t →
    ∃ ph' t', x.mode = .fill ph' t' ∧ t.tank = t'.tank ∧ (t.Overrun → exempt ∨ t'.Overrun)

/-- A tank after an operation that moves it into no other zone and opens no hose of it. -/
structure Tank.Eases (x y : Tank) : Prop where
  zone : y.cfg.zone = x.cfg.zone := by rfl
  closed : y.state = .outOfService → x.state = .outOfService ∧ y.openHoses ≤ x.openHoses ∨ y.openHoses = 0
  balanced : x.Balanced → y.Balanced := by exact id

theorem Hose.Eases.of_mode {exempt : Prop} {x y : Hose} (mode : y.mode = x.mode) (tank : y.cfg.tank = x.cfg.tank) :
    x.Eases exempt y where
  tank := tank
  going h := mode ▸ h
  fills ph t m := ⟨ph, t, mode ▸ m, rfl, .inr⟩

theorem Hose.Eases.refl {exempt : Prop} (x : Hose) : x.Eases exempt x := .of_mode rfl rfl

theorem Hose.Eases.trans {exempt : Prop} {x y z : Hose} (a : x.Eases exempt y) (b : y.Eases exempt z) :
    x.Eases exempt z where
  tank := b.tank.trans a.tank
  going h := a.going (b.going h)
  fills ph t m := by
    obtain ⟨ph', t', m', tank, beyond⟩ := b.fills ph t m
    obtain ⟨ph'', t'', m'', tank', beyond'⟩ := a.fills ph' t' m'
    exact ⟨ph'', t'', m'', tank.trans tank', fun o => (beyond o).elim .inl beyond'⟩

/-- A hose with neither a transaction nor a run in progress. -/
theorem Hose.Eases.of_rest {exempt : Prop} {x y : Hose} (tank : y.cfg.tank = x.cfg.tank) (going : y.mode.going = false)
    (fills : ∀ ph t, y.mode ≠ .fill ph t) : x.Eases exempt y where
  tank := tank
  going h := by rw [going] at h; cases h
  fills ph t m := absurd m (fills ph t)

theorem Tank.Eases.refl (x : Tank) : x.Eases x where
  closed out := .inl ⟨out, le_rfl⟩

theorem Tank.Eases.trans {x y z : Tank} (a : x.Eases y) (b : y.Eases z) : x.Eases z where
  zone := b.zone.trans a.zone
  closed out := by
    rcases b.closed out with ⟨out', le⟩ | zero
    · rcases a.closed out' with ⟨out'', le'⟩ | zero
      · exact .inl ⟨out'', le.trans le'⟩
      · exact .inr (by omega)
    · exact .inr zero
  balanced h := b.balanced (a.balanced h)

/-! ## Parts that ease -/

/-- The promises of R101 besides those of the orders: each fill on its hose's tank, no open hose on a tank out of
service, and the hoses of TRIPPED zones shut. -/
structure Part.Shut (p : Part) : Prop where
  own : p.FillsOnOwnTank
  out : p.OutTanksClosed
  tripped : p.TrippedHosesShut

/-- Every open fill but that of an exempt hose that is above its allowance has its zone TRIPPED. -/
def Part.OverrunsBut (e : Option HoseNo) (p : Part) : Prop :=
  ∀ h ph txn, e ≠ some h → (p.hose h).mode = .fill ph txn → txn.Overrun → p.hoseTripped h = true

theorem overrunsTripped_iff (p : Part) : p.OverrunsTripped ↔ p.OverrunsBut none := by
  simp only [Part.OverrunsTripped, Part.OverrunsBut, Transaction.Overrun, ne_eq, reduceCtorEq, not_false_iff, true_implies]

/-- The part after an operation that opens nothing, trips and resets no zone and binds no node, and that queues only
what R101 does not bar. -/
structure Eases (e : Option HoseNo) (p q : Part) : Prop where
  hose : ∀ h, (p.hose h).Eases (e = some h) (q.hose h)
  tank : ∀ t, (p.tank t).Eases (q.tank t)
  zone : ∀ z, (q.zone z).state = .tripped ↔ (p.zone z).state = .tripped
  binding : ∀ n, (q.device n).binding = (p.device n).binding
  waits : ∀ u, q.Waits u → p.Waits u ∨ (p.Shut → p.bars u = false)

section Eases
variable {e : Option HoseNo} {p q : Part} (E : Eases e p q)
include E

theorem Eases.hoseZone (h : HoseNo) : q.hoseZone h = p.hoseZone h := hoseZone_congr (E.hose h).tank fun t => (E.tank t).zone

theorem Eases.tripped (z : ZoneNo) : ((q.zone z).state == .tripped) = ((p.zone z).state == .tripped) := by
  rw [Bool.eq_iff_iff, beq_iff_eq, beq_iff_eq, E.zone z]

theorem Eases.hoseTripped (h : HoseNo) : q.hoseTripped h = p.hoseTripped h := by
  simp only [Part.hoseTripped, E.hoseZone, E.tripped]

theorem Eases.tankTripped (t : TankNo) : q.tankTripped t = p.tankTripped t := by
  simp only [Part.tankTripped, (E.tank t).zone, E.tripped]

theorem Eases.bars {u : Telegram} : q.bars u = false ↔ p.bars u = false :=
  ⟨bars_mono (fun h => by rw [E.hoseTripped]; exact id) (fun t => by rw [E.tankTripped]; exact id) fun n => (E.binding n).symm,
   bars_mono (fun h => by rw [E.hoseTripped]; exact id) (fun t => by rw [E.tankTripped]; exact id) E.binding⟩

theorem Eases.own (own : p.FillsOnOwnTank) : q.FillsOnOwnTank := by
  intro h ph t m
  obtain ⟨ph', t', m', tank, -⟩ := (E.hose h).fills ph t m
  rw [(E.hose h).tank, tank]; exact own h ph' t' m'

theorem Eases.out (out : p.OutTanksClosed) : q.OutTanksClosed := by
  intro t state
  rcases (E.tank t).closed state with ⟨state', le⟩ | zero
  · have := out t state'; omega
  · exact zero

theorem Eases.still (h : HoseNo) (still : (p.hose h).mode.going = false) : (q.hose h).mode.going = false := by
  by_contra go
  rw [(E.hose h).going (by simpa using go)] at still; cases still

theorem Eases.shut (s : p.Shut) : q.Shut where
  own := E.own s.own
  out := E.out s.out
  tripped h z zone state := by
    rw [E.hoseZone] at zone
    exact going_eq_false.1 (E.still h (going_eq_false.2 (s.tripped h z zone ((E.zone z).1 state))))

theorem Eases.orders (s : p.Shut) (o : p.OrdersHeld) : q.OrdersHeld := by
  rw [ordersHeld_iff] at o ⊢
  intro u w
  exact E.bars.2 ((E.waits u w).elim (o u) fun free => free s)

theorem Eases.overrun (o : p.OverrunsBut e) : q.OverrunsBut e := by
  intro h ph t ne m beyond
  obtain ⟨ph', t', m', -, beyond'⟩ := (E.hose h).fills ph t m
  rw [E.hoseTripped]
  exact o h ph' t' ne m' ((beyond' beyond).resolve_left ne)

theorem Eases.books (b : p.BooksBalance) : q.BooksBalance := fun t => (E.tank t).balanced (b t)

theorem Eases.trans {r : Part} (F : Eases e q r) : Eases e p r where
  hose h := (E.hose h).trans (F.hose h)
  tank t := (E.tank t).trans (F.tank t)
  zone z := (F.zone z).trans (E.zone z)
  binding n := (F.binding n).trans (E.binding n)
  waits u w := by
    rcases F.waits u w with w | free
    · exact E.waits u w
    · exact .inr fun s => E.bars.1 (free (E.shut s))

end Eases

/-! ## Accounts that stay -/

/-- The reservations, what is promised of them, and the open hoses are as they were; no record has been added. -/
structure Stays (p q : Part) : Prop where
  opens : ∀ h t, (q.hose h).opens t = (p.hose h).opens t
  openHoses : ∀ t, (q.tank t).openHoses = (p.tank t).openHoses
  promised : ∀ h, (q.hose h).mode.promised = (p.hose h).mode.promised
  fits : ∀ h, (p.hose h).mode.SessionFits → (q.hose h).mode.SessionFits
  delivery : ∀ t, (q.tank t).delivery.isSome = (p.tank t).delivery.isSome
  receiving : ∀ t, (q.tank t).state = .receiving ↔ (p.tank t).state = .receiving
  records : q.records.length ≤ p.records.length
  reserved : q.reserved = p.reserved

section Stays
variable {p q : Part} (S : Stays p q)
include S

theorem Stays.agree (a : p.OpenHosesAgree) : q.OpenHosesAgree := fun t => by
  simp only [S.openHoses, S.opens]; exact a t

theorem Stays.promises : q.promised = p.promised := by
  unfold Part.promised Tank.promised
  simp only [S.promised, S.delivery]

theorem Stays.recordsFit (f : p.RecordsFit) : q.RecordsFit := by
  obtain ⟨reserved, room, delivery, fits⟩ := f
  refine ⟨by rw [S.reserved, S.promises, reserved], ?_, fun t => ?_, fun h => S.fits h (fits h)⟩
  · have := S.records
    rw [S.reserved]; omega
  · rw [S.receiving, S.delivery]; exact delivery t

theorem Stays.trans {r : Part} (T : Stays q r) : Stays p r where
  opens h t := (T.opens h t).trans (S.opens h t)
  openHoses t := (T.openHoses t).trans (S.openHoses t)
  promised h := (T.promised h).trans (S.promised h)
  fits h f := T.fits h (S.fits h f)
  delivery t := (T.delivery t).trans (S.delivery t)
  receiving t := (T.receiving t).trans (S.receiving t)
  records := T.records.trans S.records
  reserved := T.reserved.trans S.reserved

end Stays

/-- An operation that eases the part and leaves its accounts. -/
structure Calm (e : Option HoseNo) (p q : Part) : Prop where
  eases : Eases e p q
  stays : Stays p q

theorem Calm.trans {e : Option HoseNo} {p q r : Part} (a : Calm e p q) (b : Calm e q r) : Calm e p r :=
  ⟨a.eases.trans b.eases, a.stays.trans b.stays⟩

/-! ## The promises kept -/

/-- An operation that keeps each of the promises; those of R98 but for an exempt hose. -/
structure Keeps (e : Option HoseNo) (p q : Part) : Prop where
  agree : p.OpenHosesAgree → q.OpenHosesAgree
  books : p.BooksBalance → q.BooksBalance
  records : p.RecordsFit → q.RecordsFit
  shut : p.Shut → q.Shut
  orders : p.Shut → p.OrdersHeld → q.OrdersHeld
  overrun : p.OpenHosesAgree → p.Shut → p.OverrunsBut e → q.OverrunsBut e

theorem Keeps.of_eases {e : Option HoseNo} {p q : Part} (E : Eases e p q) (agree : p.OpenHosesAgree → q.OpenHosesAgree)
    (records : p.RecordsFit → q.RecordsFit) : Keeps e p q :=
  ⟨agree, E.books, records, E.shut, E.orders, fun _ _ => E.overrun⟩

theorem Calm.keeps {e : Option HoseNo} {p q : Part} (c : Calm e p q) : Keeps e p q :=
  .of_eases c.eases c.stays.agree c.stays.recordsFit

theorem Keeps.trans {e : Option HoseNo} {p q r : Part} (a : Keeps e p q) (b : Keeps e q r) : Keeps e p r where
  agree h := b.agree (a.agree h)
  books h := b.books (a.books h)
  records h := b.records (a.records h)
  shut h := b.shut (a.shut h)
  orders s h := b.orders (a.shut s) (a.orders s h)
  overrun g s h := b.overrun (a.agree g) (a.shut s) (a.overrun g s h)

end Sys2Proof.Machine
end

section
/-! The operations that open nothing, trip nothing and place no record: each eases the part and leaves its accounts. -/

namespace Sys2Proof.Machine

open Sys2Proof

variable {e : Option HoseNo}

/-! ## Operations on no object -/

theorem Hose.Eases.of_eq {exempt : Prop} {x y : Hose} (same : y = x) : x.Eases exempt y := by rw [same]; exact .refl x
theorem Tank.Eases.of_eq {x y : Tank} (same : y = x) : x.Eases y := by rw [same]; exact .refl x

/-- The hoses, tanks, zones and devices are as they were, and what now waits besides is harmless. -/
structure Still (p q : Part) : Prop where
  hoses : q.hoses = p.hoses := by rfl
  tanks : q.tanks = p.tanks := by rfl
  zones : q.zones = p.zones := by rfl
  devices : q.devices = p.devices := by rfl
  waits : ∀ u, q.Waits u → p.Waits u ∨ Harmless u := by exact fun _ => Or.inl

section Still
variable {p q : Part} (S : Still p q)
include S

theorem Still.hose (h : HoseNo) : q.hose h = p.hose h := by unfold Part.hose; rw [S.hoses]
theorem Still.tank (t : TankNo) : q.tank t = p.tank t := by unfold Part.tank; rw [S.tanks]

theorem Still.eases : Eases e p q where
  hose h := .of_eq (S.hose h)
  tank t := .of_eq (S.tank t)
  zone z := by unfold Part.zone; rw [S.zones]
  binding n := by unfold Part.device; rw [S.devices]
  waits u w := (S.waits u w).imp_right fun harmless _ => harmless p

theorem Still.calm (records : q.records.length ≤ p.records.length := by exact le_rfl)
    (reserved : q.reserved = p.reserved := by rfl) : Calm e p q where
  eases := S.eases
  stays := {
    opens := fun h t => by rw [S.hose]
    openHoses := fun t => by rw [S.tank]
    promised := fun h => by rw [S.hose]
    fits := fun h => by rw [S.hose]; exact id
    delivery := fun t => by rw [S.tank]
    receiving := fun t => by rw [S.tank]
    records := records
    reserved := reserved }

theorem Still.trans {r : Part} (T : Still q r) : Still p r where
  hoses := T.hoses.trans S.hoses
  tanks := T.tanks.trans S.tanks
  zones := T.zones.trans S.zones
  devices := T.devices.trans S.devices
  waits u w := (T.waits u w).elim (S.waits u) .inr

end Still

theorem Still.refl (p : Part) : Still p p := {}
theorem Still.each {ι : Type} {f : ι → Part → Part} (step : ∀ i p, Still p (f i p)) (is : List ι) (p : Part) :
    Still p (each is f p) := each_invariant (Still p) f is (fun i _ _ s => s.trans (step i _)) (.refl p)

theorem Still.of_sansNotices {p q : Part} (h : q.sansNotices = p.sansNotices)
    (waits : ∀ u, q.Waits u → p.Waits u ∨ Harmless u) : Still p q :=
  ⟨hoses_of_sansNotices h, tanks_of_sansNotices h, zones_of_sansNotices h, devices_of_sansNotices h, waits⟩

theorem Calm.refl (p : Part) : Calm e p p := Still.calm {}
theorem Calm.of_eq {p q : Part} (same : q = p) : Calm e p q := by rw [same]; exact .refl p
theorem Keeps.refl (p : Part) : Keeps e p p := (Calm.refl p).keeps

theorem Calm.each {ι : Type} {f : ι → Part → Part} (step : ∀ i p, Calm e p (f i p)) (is : List ι) (p : Part) :
    Calm e p (each is f p) := each_invariant (Calm e p) f is (fun i _ _ c => c.trans (step i _)) (.refl p)
theorem Keeps.each {ι : Type} {f : ι → Part → Part} (step : ∀ i p, Keeps e p (f i p)) (is : List ι) (p : Part) :
    Keeps e p (each is f p) := each_invariant (Keeps e p) f is (fun i _ _ c => c.trans (step i _)) (.refl p)

/-! ## The ports -/

theorem modPort_calm {f : Port → Port} (holds : ∀ x u, (f x).Holds u → x.Holds u ∨ Harmless u) (q : PortId) (p : Part) :
    Calm e p (modPort q f p) := by
  refine Still.calm ⟨by simp, by simp, by simp, by simp, fun u w => ?_⟩ (by simp) (by simp)
  cases q with
  | up => exact w.elim (fun w => (holds _ u w).imp_left .inl) fun w => .inl (.inr w)
  | fp => exact w.elim (fun w => .inl (.inl w)) fun w => (holds _ u w).imp_left .inr

/-- A port operation that queues nothing. -/
theorem modPort_calm_of_fewer {f : Port → Port} (holds : ∀ x u, (f x).Holds u → x.Holds u) (q : PortId) (p : Part) :
    Calm e p (modPort q f p) := modPort_calm (fun x u w => .inl (holds x u w)) q p

theorem countEvent_calm (q : PortId) (ev : PortEvent) (p : Part) : Calm e p (countEvent q ev p) :=
  modPort_calm_of_fewer (fun x u => (x.counted_holds ev u).1) q p

theorem heardEnd_calm (q : PortId) (p : Part) : Calm e p (modPort q Port.heardEnd p) :=
  modPort_calm_of_fewer (fun x u => (x.heardEnd_holds u).1) q p

theorem consumeUp_calm (p : Part) : Calm e p (consumeUp p) :=
  modPort_calm_of_fewer (fun x u w => (x.heardEnd_holds u).1 ((Port.counted_holds ..).1 w)) .up p

theorem reply_calm (src : Node) (st : Status) (d : List Byte) (p : Part) : Calm e p (reply src st d p) :=
  modPort_calm (fun _ _ w => (Port.placeOwn_holds w).imp_right fun same => by
    rw [same]
    exact harmless_of_kind (show kindReply ≠ kindRun by decide) (show kindReply ≠ kindSet by decide)) .up p

theorem sendAll_still {us : List Telegram} (harmless : ∀ u ∈ us, Harmless u) (p : Part) : Still p (sendAll us p) where
  waits u w := (sendAll_waits w).imp_right (harmless u)
theorem sendAll_calm {us : List Telegram} (harmless : ∀ u ∈ us, Harmless u) (p : Part) : Calm e p (sendAll us p) :=
  (sendAll_still harmless p).calm

theorem sendValve_zero_calm (h : HoseNo) (p : Part) : Calm e p (sendValve h 0 p) := by
  rw [sendValve_eq]; exact sendAll_calm (fun _ => orderTo_zero) p
theorem sendInlet_zero_calm (t : TankNo) (p : Part) : Calm e p (sendInlet t 0 p) := by
  rw [sendInlet_eq]; exact sendAll_calm (fun _ => orderTo_zero) p
theorem sendRun_zero_calm (t : TankNo) (p : Part) : Calm e p (sendRun t 0 p) := by
  rw [sendRun_eq]; exact sendAll_calm (fun _ => orderTo_zero) p
theorem forceLamp_still (h : HoseNo) (v : Byte) (p : Part) : Still p (forceLamp h v p) := by
  rw [forceLamp_eq]; exact sendAll_still (fun _ => orderTo_lamp) p
theorem forceLamp_calm (h : HoseNo) (v : Byte) (p : Part) : Calm e p (forceLamp h v p) := by
  rw [forceLamp_eq]; exact sendAll_calm (fun _ => orderTo_lamp) p
theorem sendLamp_calm (h : HoseNo) (v : Byte) (p : Part) : Calm e p (sendLamp h v p) := by
  rw [sendLamp_eq]; exact sendAll_calm (fun _ => lampTo_harmless) p

theorem shutOrders_calm (hs : List HoseNo) (ts : List TankNo) (p : Part) : Calm e p (shutOrders hs ts p) :=
  (Calm.each sendValve_zero_calm hs p).trans ((Calm.each sendInlet_zero_calm ts _).trans
    ((Calm.each sendRun_zero_calm ts _).trans (Calm.each (fun h => forceLamp_calm h _) hs _)))

/-! ## Notices and records -/

theorem syncLines_calm (p : Part) : Calm e p (syncLines p) := Still.calm {}

theorem raise_waits (n : Notice) (p : Part) (u : Telegram) (w : (raise n p).Waits u) : p.Waits u ∨ Harmless u := by
  unfold raise at w
  split at w
  · exact .inl w
  · dsimp only at w
    split at w
    · exact .inl w
    · refine w.elim (fun w => ?_) fun w => .inl (.inr w)
      rcases Port.queueAttention_holds w with w | same
      · exact .inl (.inl w)
      · rw [same]
        exact .inr (harmless_of_kind (show kindAttention ≠ kindRun by decide) (show kindAttention ≠ kindSet by decide))

theorem raise_still (n : Notice) (p : Part) : Still p (raise n p) :=
  .of_sansNotices (raise_sansNotices n p) (raise_waits n p)
theorem raise_calm (n : Notice) (p : Part) : Calm e p (raise n p) :=
  (raise_still n p).calm (by rw [raise_records]) (by rw [raise_reserved])

theorem headChanged_calm (p : Part) : Calm e p (headChanged p) := by
  unfold headChanged; split
  · exact Still.calm {}
  · exact .refl p

/-- A record moves nothing of the plant. -/
theorem placeRecord_eases (r : Record) (p : Part) : Eases e p (placeRecord r p) := by
  have placed : Eases e p { p with records := p.records ++ [{ r with serial := p.nextSerial }],
                                   nextSerial := (p.nextSerial + 1) % 65536 } := Still.eases {}
  unfold placeRecord
  dsimp only
  by_cases first : p.records.isEmpty = true
  · simp only [first, if_true]
    have headed := placed.trans (headChanged_calm _).eases
    split
    · exact headed.trans (raise_calm ..).eases
    · exact headed
  · simp only [first]
    split
    · exact placed.trans (raise_calm ..).eases
    · exact placed

theorem release_eases (k : Nat) (p : Part) : Eases e p (release k p) := Still.eases {}
theorem reserve_eases (k : Nat) (p : Part) : Eases e p (reserve k p) := Still.eases {}
theorem placeReserved_eases (r : Record) (p : Part) : Eases e p (placeReserved r p) :=
  (release_eases 1 p).trans (placeRecord_eases ..)

/-! ## One object changed -/

theorem modPump_calm (t : TankNo) (f : Pump → Pump) (p : Part) : Calm e p (modPump t f p) := Still.calm {}
theorem modMachine_calm (m : SlotNo) (f : MachineRec → MachineRec) (p : Part) : Calm e p (modMachine m f p) := Still.calm {}

theorem modHose_eases {h : HoseNo} {f : Hose → Hose} {p : Part} (E : (p.hose h).Eases (e = some h) (f (p.hose h))) :
    Eases e p (modHose h f p) where
  hose j := by
    rw [modHose_hose]; split
    · subst_vars; exact E
    · exact .refl _
  tank t := .refl _
  zone z := Iff.rfl
  binding n := rfl
  waits u w := .inl w

/-- A hose whose accounts stay. -/
structure Hose.Stays (x y : Hose) : Prop where
  opens : ∀ t, y.opens t = x.opens t := by exact fun _ => rfl
  promised : y.mode.promised = x.mode.promised := by rfl
  fits : x.mode.SessionFits → y.mode.SessionFits := by exact id

theorem modHose_calm {h : HoseNo} {f : Hose → Hose} {p : Part} (E : (p.hose h).Eases (e = some h) (f (p.hose h)))
    (S : (p.hose h).Stays (f (p.hose h))) : Calm e p (modHose h f p) where
  eases := modHose_eases E
  stays := {
    opens := fun j t => by rw [modHose_hose]; split <;> [(subst_vars; exact S.opens t); rfl]
    openHoses := fun _ => rfl
    promised := fun j => by rw [modHose_hose]; split <;> [(subst_vars; exact S.promised); rfl]
    fits := fun j => by rw [modHose_hose]; split <;> [(subst_vars; exact S.fits); exact id]
    delivery := fun _ => rfl
    receiving := fun _ => Iff.rfl
    records := le_rfl
    reserved := rfl }

/-- A field of a hose that is neither its mode nor its tank. -/
theorem modHose_calm_of_mode {h : HoseNo} {f : Hose → Hose} {p : Part} (mode : (f (p.hose h)).mode = (p.hose h).mode)
    (tank : (f (p.hose h)).cfg.tank = (p.hose h).cfg.tank) : Calm e p (modHose h f p) :=
  modHose_calm (.of_mode mode tank)
    ⟨fun t => by unfold Hose.opens; rw [mode, tank], by rw [mode], by rw [mode]; exact id⟩

theorem HoseMode.modTally_going (f : Tally → Tally) (m : HoseMode) : (m.modTally f).going = m.going := by
  cases m with
  | fill ph t => cases ph <;> rfl
  | proving s => simp [HoseMode.modTally, HoseMode.going, HoseMode.dispensing, HoseMode.run]
  | _ => rfl

theorem HoseMode.modTally_fill {f : Tally → Tally} {m : HoseMode} {ph : Phase} {t : Transaction}
    (e : m.modTally f = .fill ph t) : ∃ t', m = .fill ph t' ∧ t = { t' with tally := f t'.tally } := by
  cases m with
  | fill ph' t' =>
    simp only [HoseMode.modTally, HoseMode.fill.injEq] at e
    obtain ⟨rfl, rfl⟩ := e
    exact ⟨t', rfl, rfl⟩
  | _ => cases e

theorem Hose.Stays.modTally (f : Tally → Tally) (x : Hose) : x.Stays { x with mode := x.mode.modTally f } where
  opens t := by rw [opens_eq_stake, opens_eq_stake, stake_modTally]
  promised := by cases m : x.mode <;> simp [HoseMode.modTally, HoseMode.promised]
  fits := by
    cases m : x.mode with
    | proving s => simp only [HoseMode.modTally, HoseMode.SessionFits, Option.isSome_map]; exact id
    | _ => exact id

/-- The tally of a fill or a run changes; its net moves where the hose is exempt alone. -/
theorem modTally_calm {h : HoseNo} {f : Tally → Tally} (net : e = some h ∨ ∀ y, (f y).net = y.net) (p : Part) :
    Calm e p (modTally h f p) := by
  refine modHose_calm ⟨rfl, by rw [HoseMode.modTally_going]; exact id, fun ph t m => ?_⟩ (.modTally f _)
  obtain ⟨t', m', rfl⟩ := HoseMode.modTally_fill m
  refine ⟨ph, t', m', rfl, fun beyond => net.imp_right fun same => ?_⟩
  unfold Transaction.Overrun at beyond ⊢
  rwa [same] at beyond

theorem modTally_calm_of_net {h : HoseNo} {f : Tally → Tally} (net : ∀ y, (f y).net = y.net) (p : Part) :
    Calm e p (modTally h f p) := modTally_calm (.inr net) p

/-- A fill goes from one phase to another, and opens no more by it. -/
theorem setMode_fill_calm {h : HoseNo} {p : Part} {ph ph' : Phase} {t t' : Transaction}
    (m : (p.hose h).mode = .fill ph t) (tank : t'.tank = t.tank) (beyond : t'.Overrun → t.Overrun)
    (going : (HoseMode.fill ph' t').going = true → (HoseMode.fill ph t).going = true) :
    Calm e p (setMode h (.fill ph' t') p) := by
  refine modHose_calm ⟨rfl, fun g => by rw [m]; exact going g, fun _ _ same => ?_⟩
    ⟨fun k => by unfold Hose.opens; simp only [m, tank], by rw [m]; rfl, fun _ => trivial⟩
  obtain ⟨rfl, rfl⟩ := HoseMode.fill.inj same
  exact ⟨ph, t, m, tank, fun b => .inr (beyond b)⟩

/-- A run in progress goes on. -/
theorem setMode_run_calm {h : HoseNo} {p : Part} {s : Session} {r r' : ProvingRun} (m : (p.hose h).mode = .proving s)
    (run : s.run = some r) : Calm e p (setMode h (.proving (s.withRun r')) p) := by
  refine modHose_calm ⟨rfl, fun _ => ?_, fun _ _ same => by cases same⟩ ⟨fun k => ?_, ?_, ?_⟩
  · simp [m, HoseMode.going, HoseMode.run, run]
  · unfold Hose.opens; simp only [m, Session.withRun, run, Option.isSome_some]; rfl
  · simp only [m, HoseMode.promised, Session.withRun]
  · simp only [m, HoseMode.SessionFits, Session.withRun, run, Option.isSome_some]; exact id

/-- A tank whose accounts stay, and its zone and its state but for leaving service. -/
structure Tank.Stays (x y : Tank) : Prop where
  zone : y.cfg.zone = x.cfg.zone := by rfl
  state : y.state = x.state := by rfl
  openHoses : y.openHoses = x.openHoses := by rfl
  delivery : y.delivery.isSome = x.delivery.isSome := by rfl
  balanced : x.Balanced → y.Balanced := by exact id

theorem modTank_eases {t : TankNo} {f : Tank → Tank} {p : Part} (E : (p.tank t).Eases (f (p.tank t))) :
    Eases e p (modTank t f p) where
  hose h := .refl _
  tank k := by
    rw [modTank_tank]; split
    · subst_vars; exact E
    · exact .refl _
  zone z := Iff.rfl
  binding n := rfl
  waits u w := .inl w

theorem modTank_calm_of_eases {t : TankNo} {f : Tank → Tank} {p : Part} (E : (p.tank t).Eases (f (p.tank t)))
    (openHoses : (f (p.tank t)).openHoses = (p.tank t).openHoses)
    (delivery : (f (p.tank t)).delivery.isSome = (p.tank t).delivery.isSome)
    (receiving : (f (p.tank t)).state = .receiving ↔ (p.tank t).state = .receiving) : Calm e p (modTank t f p) where
  eases := modTank_eases E
  stays := {
    opens := fun _ _ => rfl
    openHoses := fun k => by rw [modTank_tank]; split <;> [(subst_vars; exact openHoses); rfl]
    promised := fun _ => rfl
    fits := fun _ => id
    delivery := fun k => by rw [modTank_tank]; split <;> [(subst_vars; exact delivery); rfl]
    receiving := fun k => by rw [modTank_tank]; split <;> [(subst_vars; exact receiving); exact Iff.rfl]
    records := le_rfl
    reserved := rfl }

theorem modTank_calm {t : TankNo} {f : Tank → Tank} {p : Part} (S : (p.tank t).Stays (f (p.tank t))) :
    Calm e p (modTank t f p) :=
  modTank_calm_of_eases ⟨S.zone, fun out => .inl ⟨S.state ▸ out, S.openHoses.le⟩, S.balanced⟩ S.openHoses S.delivery
    (by rw [S.state])

/-- A zone record that goes neither into TRIPPED nor out of it. -/
theorem modZone_calm {z : ZoneNo} {f : Zone → Zone} {p : Part}
    (state : (f (p.zone z)).state = .tripped ↔ (p.zone z).state = .tripped) : Calm e p (modZone z f p) where
  eases := {
    hose := fun h => .refl _
    tank := fun t => .refl _
    zone := fun y => by rw [modZone_zone]; split <;> [(subst_vars; exact state); exact Iff.rfl]
    binding := fun n => rfl
    waits := fun u => .inl }
  stays := ⟨fun _ _ => rfl, fun _ => rfl, fun _ => rfl, fun _ => id, fun _ => rfl, fun _ => Iff.rfl, le_rfl, rfl⟩

theorem modDevice_calm {n : DevNo} {f : Device → Device} {p : Part} (binding : (f (p.device n)).binding = (p.device n).binding) :
    Calm e p (modDevice n f p) where
  eases := {
    hose := fun h => .refl _
    tank := fun t => .refl _
    zone := fun z => Iff.rfl
    binding := fun m => by rw [modDevice_device]; split <;> [(subst_vars; exact binding); rfl]
    waits := fun u => .inl }
  stays := ⟨fun _ _ => rfl, fun _ => rfl, fun _ => rfl, fun _ => id, fun _ => rfl, fun _ => Iff.rfl, le_rfl, rfl⟩

theorem markDoubt_calm (h : HoseNo) (p : Part) : Calm e p (markDoubt h p) := by
  refine modTally_calm_of_net (fun _ => ?_) p; rfl

/-! ## The ends of fills (R19, R80) -/

theorem enterClosing_calm {h : HoseNo} {ph : Phase} {t : Transaction} {p : Part} (m : (p.hose h).mode = .fill ph t)
    (cause : EndCause) : Calm e p (enterClosing h cause t p) := by
  rw [enterClosing_eq]
  refine Calm.trans ?_ (sendAll_calm (fun _ => endOrders_harmless) _)
  refine (setMode_fill_calm m ?_ ?_ ?_).trans (modPump_calm ..)
  · rfl
  · exact id
  · intro g; cases g

/-- An end request for TANK_LOW ends fills alone. -/
theorem endRequest_low_calm (h : HoseNo) (p : Part) : Calm e p (endRequest h .tankLow p) := by
  obtain same | ⟨c, -⟩ | ⟨ph, t, m, -, same⟩ | ⟨s, r, -, -, c, -⟩ := endRequest_cases h .tankLow p
  · exact .of_eq same
  · cases c
  · rw [same]; exact enterClosing_calm m .tankLow
  · cases c

theorem endFills_low_calm (t : TankNo) (p : Part) : Calm e p (endFills t .tankLow p) :=
  .each (fun h q => by split <;> [exact endRequest_low_calm h q; exact .refl q]) _ p

theorem confirmPump_calm (t : TankNo) (p : Part) : Calm e p (confirmPump t p) :=
  (modPump_calm ..).trans (.each (fun _ q => modTally_calm_of_net (f := Tally.ready) (fun _ => rfl) q) _ _)

/-! ## Recovery (R105) -/

theorem recoveryTest_calm (z : ZoneNo) (p : Part) : Calm e p (recoveryTest z p) := by
  unfold recoveryTest
  split
  · rename_i passed
    have recovery : (p.zone z).state = .recovery := by simp only [Bool.and_eq_true, decide_eq_true_eq] at passed; exact passed.1.1
    exact (modZone_calm (by simp [recovery])).trans (syncLines_calm _)
  · exact .refl p

theorem gaugeMark_calm (t : TankNo) (p : Part) : Calm e p (gaugeMark t p) := by
  unfold gaugeMark
  dsimp only
  split
  · exact (modZone_calm Iff.rfl).trans (recoveryTest_calm ..)
  · exact .refl p

/-! ## Stock -/

theorem bookChange_stays (a : Account) (n : Int) (x : Tank) : x.Stays (x.bookChange a n) := by
  refine ⟨?_, ?_, bookChange_openHoses a n x, ?_, Tank.bookChange_balanced a n⟩ <;>
    (unfold Tank.bookChange; dsimp only; split <;> rfl)

theorem lowStockTest_calm (t : TankNo) (p : Part) : Calm e p (lowStockTest t p) := by
  unfold lowStockTest
  split
  · dsimp only
    split
    · exact endFills_low_calm t p
    · exact (endFills_low_calm t p).trans ((modTank_calm {}).trans (raise_calm ..))
  · exact modTank_calm {}

theorem disturbWindows_calm (t : TankNo) (p : Part) : Calm e p (disturbWindows t p) := modTank_calm {}

theorem handOff_calm (t : TankNo) (a : Account) (ml : Nat) (p : Part) : Calm e p (handOff t a ml p) := by
  unfold handOff
  split
  · exact .refl p
  · refine Calm.trans ?_ ((lowStockTest_calm t _).trans (modTank_calm {}))
    exact (modTank_calm (bookChange_stays ..)).trans (modTank_calm { delivery := by simp })

theorem closeInlet_calm (t : TankNo) (c : CloseCause) (p : Part) : Calm e p (closeInlet t c p) := by
  unfold closeInlet
  split
  · exact (sendInlet_zero_calm t p).trans (modTank_calm { delivery := by simp })
  · exact .refl p

theorem tripDelivery_calm (t : TankNo) (p : Part) : Calm e p (tripDelivery t p) := modTank_calm { delivery := by simp }

theorem takeReading_calm (t : TankNo) (r : LevelReading) (p : Part) : Calm e p (takeReading t r p) := by
  refine modTank_calm ?_
  dsimp only
  split
  · split <;> exact {}
  · exact {}

theorem faultedLevel_calm (t : TankNo) (p : Part) : Calm e p (faultedLevel t p) :=
  (modTank_calm {}).trans ((disturbWindows_calm t _).trans (closeInlet_calm ..))

theorem restStep_calm (t : TankNo) (p : Part) : Calm e p (restStep t p) := by
  unfold restStep
  split
  · split
    · exact modTank_calm {}
    · exact .refl p
  · exact modTank_calm {}
  · exact .refl p

theorem highHighTest_calm (t : TankNo) (l : Nat) (p : Part) : Calm e p (highHighTest t l p) := by
  unfold highHighTest
  split
  · exact (closeInlet_calm ..).trans (raise_calm ..)
  · exact .refl p

theorem creditTank_calm (h : HoseNo) (ml : Nat) (p : Part) : Calm e p (creditTank h ml p) := by
  unfold creditTank
  split
  · exact (modTank_calm (bookChange_stays ..)).trans ((lowStockTest_calm ..).trans (disturbWindows_calm ..))
  · exact .refl p

end Sys2Proof.Machine
end

section
/-! The ends of proving runs, the trips and the recovery of zones, and what follows from them for the stock: each keeps
the promises (R80, R82, R84, R99, R101, R103 to R105, R181). -/

namespace Sys2Proof.Machine

open Sys2Proof

variable {e : Option HoseNo}

/-! ## Reservations after one object has changed -/

/-- The accounts after one hose has changed: its promises and the reservations move alike. -/
theorem recordsFit_hose {p q : Part} (h : HoseNo) (other : ∀ j, j ≠ h → q.hose j = p.hose j)
    (tanks : ∀ k, (q.tank k).quiet = (p.tank k).quiet)
    (moved : (p.hose h).mode.promised ≤ p.reserved → (p.hose h).mode.SessionFits →
      p.records.length + p.reserved ≤ 64 → (q.hose h).mode.SessionFits ∧
      q.reserved + (p.hose h).mode.promised = p.reserved + (q.hose h).mode.promised ∧
      q.records.length + q.reserved ≤ 64) : p.RecordsFit → q.RecordsFit := by
  rintro ⟨reserved, room, delivery, fits⟩
  have sum := promised_hose h other tanks
  obtain ⟨fits', balance, room'⟩ := moved (reserved ▸ promised_hose_le p h) (fits h) room
  refine ⟨by omega, room', fun t => ?_, fun j => ?_⟩
  · rw [Tank.state_of_quiet (tanks t), Tank.delivery_of_quiet (tanks t)]; exact delivery t
  · by_cases same : j = h
    · subst same; exact fits'
    · rw [other j same]; exact fits j

/-- The accounts after one tank has changed, while the hoses kept their promises. -/
theorem recordsFit_tank {p q : Part} (t : TankNo)
    (promised : ∀ h, (q.hose h).mode.promised = (p.hose h).mode.promised)
    (fits : ∀ h, (p.hose h).mode.SessionFits → (q.hose h).mode.SessionFits)
    (other : ∀ k, k ≠ t → (q.tank k).quiet = (p.tank k).quiet)
    (receiving : (q.tank t).state = .receiving ↔ (q.tank t).delivery.isSome = true)
    (moved : (p.tank t).promised ≤ p.reserved →
      ((p.tank t).state = .receiving ↔ (p.tank t).delivery.isSome = true) → p.records.length + p.reserved ≤ 64 →
      q.reserved + (p.tank t).promised = p.reserved + (q.tank t).promised ∧
      q.records.length + q.reserved ≤ 64) : p.RecordsFit → q.RecordsFit := by
  rintro ⟨reserved, room, delivery, fits'⟩
  have sum : ∑ k, (q.tank k).promised + (p.tank t).promised = ∑ k, (p.tank k).promised + (q.tank t).promised :=
    sum_of_one_changed (f := fun k => (p.tank k).promised) (g := fun k => (q.tank k).promised) t
      fun k ne => Tank.promised_of_quiet (other k ne)
  have hoses : ∑ h, (q.hose h).mode.promised = ∑ h, (p.hose h).mode.promised :=
    Finset.sum_congr rfl fun h _ => promised h
  obtain ⟨balance, room'⟩ := moved (reserved ▸ promised_tank_le p t) (delivery t) room
  refine ⟨?_, room', fun k => ?_, fun h => fits h (fits' h)⟩
  · rw [promised_eq] at reserved ⊢; omega
  · by_cases same : k = t
    · subst same; exact receiving
    · rw [Tank.state_of_quiet (other k same), Tank.delivery_of_quiet (other k same)]; exact delivery k

/-! ## The end of a proving run (R181) -/

theorem hoseClosed_eases (x : Tank) : x.Eases x.hoseClosed where
  closed out := .inl ⟨out, Nat.sub_le ..⟩

@[simp] theorem hoseClosed_quiet (x : Tank) : x.hoseClosed.quiet = x.quiet := rfl

theorem endRun_eases (h : HoseNo) (cause : EndCause) (s : Session) (r : ProvingRun) (p : Part) :
    Eases e p (endRun h cause s r p) := by
  have ended : Eases e p (setMode h (.proving (s.runEnded (p.runResult h cause r))) p) :=
    modHose_eases (.of_rest rfl rfl fun _ _ => nofun)
  rw [endRun_eq]
  refine Eases.trans ?_ (placeReserved_eases ..)
  unfold Part.runStopped
  cases (p.hose h).cfg.tank with
  | none =>
    refine ended.trans (sendAll_calm (fun u mem => ?_) _).eases
    exact (List.mem_append.1 mem).elim orderTo_zero lampTo_harmless
  | some k =>
    exact ended.trans ((modPump_calm ..).eases.trans ((modTank_eases (hoseClosed_eases _)).trans
      (sendAll_calm (fun _ => endOrders_harmless) _).eases))

theorem endRun_keeps {h : HoseNo} {s : Session} {r : ProvingRun} {p : Part} (m : (p.hose h).mode = .proving s)
    (run : s.run = some r) (cause : EndCause) : Keeps e p (endRun h cause s r p) := by
  refine .of_eases (endRun_eases ..) (endRun_moves m run cause).openHosesAgree
    (recordsFit_hose h (fun _ ne => endRun_hose_other ne ..) (fun k => ?_) fun held fits room => ?_)
  · rw [endRun_tank]; split
    · exact hoseClosed_quiet _
    · rfl
  · rw [endRun_hose_same, endRun_reserved, endRun_records]
    simp only [m, HoseMode.promised, HoseMode.SessionFits, Session.runEnded, run, Option.isSome_some, if_true,
      Option.isSome_none, Bool.false_eq_true, if_false, List.length_append, List.length_singleton] at held fits ⊢
    omega

/-! ## End requests (R18) -/

theorem endRequest_keeps (h : HoseNo) (cause : EndCause) (p : Part) : Keeps e p (endRequest h cause p) := by
  obtain same | ⟨_, same⟩ | ⟨ph, t, m, -, same⟩ | ⟨s, r, m, run, _, same⟩ := endRequest_cases h cause p <;> rw [same]
  · exact .refl p
  · exact (sendLamp_calm ..).keeps
  · exact (enterClosing_calm m cause).keeps
  · exact endRun_keeps m run cause

theorem endRequest_eases (h : HoseNo) (cause : EndCause) (p : Part) : Eases e p (endRequest h cause p) := by
  obtain same | ⟨_, same⟩ | ⟨ph, t, m, -, same⟩ | ⟨s, r, _, _, _, same⟩ := endRequest_cases h cause p <;> rw [same]
  · exact (Calm.refl p).eases
  · exact (sendLamp_calm ..).eases
  · exact (enterClosing_calm m cause).eases
  · exact endRun_eases ..

/-- A trip leaves nothing going on a hose. -/
theorem endRequest_trip_still (h : HoseNo) (p : Part) : ((endRequest h .trip p).hose h).mode.going = false := by
  match m : (p.hose h).mode with
  | .idle | .out => rw [endRequest_of_none (by simp [m, HoseMode.tally]), m]; rfl
  | .fill (.closing _ _) _ =>
    rw [endRequest_of_closing (by rw [m]; rfl), if_pos (by decide), sendLamp_hose, m]; rfl
  | .fill .ready t | .fill .flowing t | .fill .paused t =>
    rw [endRequest_of_fill m (by rw [m]; rfl), enterClosing_hose_same]; rfl
  | .proving s =>
    cases run : s.run with
    | none =>
      rw [endRequest_of_none (by simp [m, HoseMode.tally, run]), m]
      simp [HoseMode.going, HoseMode.dispensing, HoseMode.run, run]
    | some r => rw [endRequest_of_run m run, if_pos (by decide), endRun_hose_same]; rfl

theorem endRequests_eases (hs : List HoseNo) (cause : EndCause) (p : Part) :
    Eases e p (each hs (fun h => endRequest h cause) p) :=
  each_invariant (Eases e p) _ hs (fun h _ _ E => E.trans (endRequest_eases h cause _)) (Calm.refl p).eases

/-- Every hose a trip reaches is still once it has reached all of them. -/
theorem endRequests_trip_still {hs : List HoseNo} {h : HoseNo} (mem : h ∈ hs) (nodup : hs.Nodup) (p : Part) :
    ((each hs (fun h => endRequest h .trip) p).hose h).mode.going = false := by
  obtain ⟨before, later, -, -, same⟩ := each_split nodup mem (fun h => endRequest h .trip) p
  rw [same]
  exact (endRequests_eases (e := none) later .trip _).still h (endRequest_trip_still h _)

theorem stopPumping_keeps (t : TankNo) (p : Part) : Keeps e p (stopPumping t p) := by
  unfold stopPumping
  refine Keeps.trans ?_ (modPump_calm ..).keeps
  split
  · exact .each (fun _ _ => endRequest_keeps ..) _ p
  · exact .refl p

/-! ## What R101 takes out of the queues -/

theorem dropBarred_calm (p : Part) : Calm e p (dropBarred p) :=
  Still.calm { waits := fun _ w => .inl (w.imp Port.filtered_holds Port.filtered_holds) }

theorem dropBarred_held (p : Part) : (dropBarred p).OrdersHeld := by
  rw [ordersHeld_iff]
  intro u w
  rw [dropBarred_bars]
  rcases w with (w | w) | w | w
  · exact ((Port.mem_dropWaiting ..).1.1 w).2
  · exact ((Port.mem_dropWaiting ..).2.1 w).2
  · exact ((Port.mem_dropWaiting ..).1.1 w).2
  · exact ((Port.mem_dropWaiting ..).2.1 w).2

/-! ## Zones that trip, recover or take a tank -/

/-- The part with other zone states, or with tanks in other zones. -/
structure Rezoned (p q : Part) : Prop where
  hoses : q.hoses = p.hoses := by rfl
  tank : ∀ t, q.tank t = { p.tank t with cfg := { (p.tank t).cfg with zone := (q.tank t).cfg.zone } } := by exact fun _ => rfl
  binding : ∀ n, (q.device n).binding = (p.device n).binding := by exact fun _ => rfl
  records : q.records = p.records := by rfl
  reserved : q.reserved = p.reserved := by rfl

section Rezoned
variable {p q : Part} (R : Rezoned p q)
include R

theorem Rezoned.hose (h : HoseNo) : q.hose h = p.hose h := by unfold Part.hose; rw [R.hoses]

theorem Rezoned.stays : Stays p q where
  opens h t := by rw [R.hose]
  openHoses t := by rw [R.tank]
  promised h := by rw [R.hose]
  fits h := by rw [R.hose]; exact id
  delivery t := by rw [R.tank]
  receiving t := by rw [R.tank]
  records := by rw [R.records]
  reserved := R.reserved

/-- An operation that rezones the part and then eases it: what is left to show is what R98 and R101 say of the zones. -/
theorem Rezoned.keeps {r : Part} (E : Eases e q r) (agree : q.OpenHosesAgree → r.OpenHosesAgree)
    (records : q.RecordsFit → r.RecordsFit) (tripped : p.Shut → q.FillsOnOwnTank → r.TrippedHosesShut)
    (orders : p.Shut → p.OrdersHeld → r.Shut → r.OrdersHeld)
    (overrun : p.OpenHosesAgree → p.Shut → ∀ h ph t, (p.hose h).mode = .fill ph t → p.hoseTripped h = true →
      q.hoseTripped h = true) : Keeps e p r := by
  have own (s : p.Shut) : q.FillsOnOwnTank := fun h ph t m => by rw [R.hose] at m ⊢; exact s.own h ph t m
  have out (s : p.Shut) : q.OutTanksClosed := fun t state => by rw [R.tank] at state ⊢; exact s.out t state
  have shut (s : p.Shut) : r.Shut := ⟨E.own (own s), E.out (out s), tripped s (own s)⟩
  refine ⟨fun a => agree (R.stays.agree a), fun b => E.books fun t => ?_, fun f => records (R.stays.recordsFit f), shut,
    fun s o => orders s o (shut s), fun a s o => E.overrun fun h ph t ne m beyond => ?_⟩
  · rw [R.tank]; exact b t
  · rw [R.hose] at m; exact overrun a s h ph t m (o h ph t ne m beyond)

end Rezoned

/-! ## A trip (R99) -/

theorem modZone_state {z y : ZoneNo} {f : Zone → Zone} {p : Part} :
    ((modZone z f p).zone y).state = if z = y then (f (p.zone y)).state else (p.zone y).state := by
  rw [modZone_zone]; split <;> rfl

theorem tripping_rezoned (p : Part) (z : ZoneNo) (c : Cause) : Rezoned p (p.tripping z c) := {}

theorem tripping_state (p : Part) (z : ZoneNo) (c : Cause) (y : ZoneNo) :
    ((p.tripping z c).zone y).state = if z = y then .tripped else (p.zone y).state :=
  (modZone_state (f := fun x => x.trip c (now p))).trans (by rfl)

theorem tripping_hoseZone (p : Part) (z : ZoneNo) (c : Cause) (h : HoseNo) :
    (p.tripping z c).hoseZone h = p.hoseZone h := rfl

/-- What a trip has done once R101's orders are out of the queues. -/
def Part.tripOrders (p : Part) (z : ZoneNo) (c : Cause) : Part :=
  dropBarred (shutOrders (p.zoneHoses z) (p.zoneTanks z) (p.tripEnds z c))

theorem tripOrders_eases (p : Part) (z : ZoneNo) (c : Cause) : Eases e (p.tripping z c) (p.tripOrders z c) :=
  (endRequests_eases ..).trans ((shutOrders_calm ..).trans (dropBarred_calm _)).eases

theorem tripOrders_keeps (p : Part) (z : ZoneNo) (c : Cause) : Keeps e p (p.tripOrders z c) := by
  have after : Keeps e (p.tripping z c) (p.tripOrders z c) :=
    (Keeps.each (fun _ _ => endRequest_keeps ..) _ _).trans ((shutOrders_calm ..).trans (dropBarred_calm _)).keeps
  have E := tripOrders_eases (e := e) p z c
  refine (tripping_rezoned p z c).keeps E after.agree after.records (fun s _ h y zone state => ?_)
    (fun _ _ _ => dropBarred_held _) fun _ _ h ph t _ tripped => ?_
  · rw [E.hoseZone, tripping_hoseZone] at zone
    rw [E.zone, tripping_state] at state
    apply going_eq_false.1
    by_cases same : z = y
    · subst same
      exact ((shutOrders_calm (e := e) ..).trans (dropBarred_calm _)).eases.still h
        (endRequests_trip_still (mem_zoneHoses.2 zone) (zoneHoses_nodup p z) _)
    · rw [if_neg same] at state
      exact E.still h (going_eq_false.2 (s.tripped h y zone state))
  · unfold Part.hoseTripped at tripped ⊢
    rw [tripping_hoseZone]
    cases zone : p.hoseZone h with
    | none => rw [zone] at tripped; cases tripped
    | some y =>
      rw [zone] at tripped
      dsimp only at tripped ⊢
      rw [tripping_state]
      split
      · rfl
      · exact tripped

theorem tripSource_keeps (c : Cause) (z : ZoneNo) (p : Part) : Keeps e p (tripSource c z p) := by
  by_cases was : (p.zone z).state = .tripped
  · rw [tripSource_again was]; exact (modZone_calm Iff.rfl).keeps
  · rw [tripSource_new was]
    exact (tripOrders_keeps p z c).trans ((Calm.each tripDelivery_calm _ _).trans (raise_calm ..)).keeps

theorem tripAll_keeps (c : Cause) (p : Part) : Keeps e p (tripAll c p) := .each (fun _ _ => tripSource_keeps ..) _ p
theorem tripFor_keeps (c : Cause) (z : Option ZoneNo) (p : Part) : Keeps e p (tripFor c z p) := by
  unfold tripFor; split; exacts [tripSource_keeps .., tripAll_keeps ..]
theorem tripHose_keeps (c : Cause) (h : HoseNo) (p : Part) : Keeps e p (tripHose c h p) := by
  unfold tripHose; split; exacts [tripSource_keeps .., .refl p]

/-- Once a source is taken for a hose's zone, that zone is TRIPPED. -/
theorem tripSource_hoseTripped {c : Cause} {h : HoseNo} {z : ZoneNo} {p : Part} (own : p.hoseZone h = some z) :
    (tripSource c z p).hoseTripped h = true := by
  by_cases was : (p.zone z).state = .tripped
  · rw [tripSource_again was, (modZone_calm (e := none) Iff.rfl).eases.hoseTripped, hoseTripped_of_zone own, was]; rfl
  · rw [tripSource_new was,
      ((Calm.each (e := none) tripDelivery_calm _ _).trans (raise_calm ..)).eases.hoseTripped]
    show (p.tripOrders z c).hoseTripped h = true
    rw [(tripOrders_eases (e := none) p z c).hoseTripped, hoseTripped_of_zone ((tripping_hoseZone ..).trans own),
      tripping_state, if_pos rfl]
    rfl

/-! ## Recovery (R103, R104) -/

theorem resetBlocked_closing {z : ZoneNo} {p : Part} (free : p.resetBlocked z = false) {h : HoseNo}
    (zone : p.hoseZone h = some z) : (p.hose h).mode.isClosing = false := by
  simp only [Part.resetBlocked, Bool.or_eq_false_iff] at free
  simpa using List.any_eq_false.1 free.2 h (mem_zoneHoses.2 zone)

/-- A fill of a TRIPPED zone is in CLOSING. -/
theorem Part.Shut.isClosing {p : Part} (s : p.Shut) {h : HoseNo} {z : ZoneNo} {ph : Phase} {t : Transaction}
    (m : (p.hose h).mode = .fill ph t) (zone : p.hoseZone h = some z) (state : (p.zone z).state = .tripped) :
    (p.hose h).mode.isClosing = true := by
  have still := (s.tripped h z zone state).1
  rw [m] at still ⊢
  cases ph with
  | closing => rfl
  | _ => cases still

/-- A zone enters RECOVERY while none of its hoses is in CLOSING. -/
theorem enterRecovery_keeps {z : ZoneNo} {p : Part} (free : p.resetBlocked z = false) : Keeps e p (enterRecovery z p) := by
  have lamps : Still (modZone z (fun x => { x with state := .recovery, timer := .running 30, marks := 0 }) p)
      (enterRecovery z p) :=
    Still.trans (q := syncLines _) {} (.each (fun h => forceLamp_still h lampOff) _ _)
  have E : Eases e _ (enterRecovery z p) := lamps.eases
  have S : Stays _ (enterRecovery z p) :=
    ((syncLines_calm (e := e) _).trans (.each (fun h => forceLamp_calm h lampOff) _ _)).stays
  have zones (y : ZoneNo) : ((enterRecovery z p).zone y).state = .tripped ↔ (p.zone y).state = .tripped ∧ y ≠ z := by
    rw [E.zone, modZone_state]
    split
    · exact ⟨nofun, fun s => absurd (Eq.symm ‹_›) s.2⟩
    · exact ⟨fun s => ⟨s, Ne.symm ‹_›⟩, And.left⟩
  have hoses (h : HoseNo) : (enterRecovery z p).hoseTripped h = true ↔ p.hoseTripped h = true ∧ p.hoseZone h ≠ some z := by
    have same : (enterRecovery z p).hoseZone h = p.hoseZone h := E.hoseZone h
    unfold Part.hoseTripped
    rw [same]
    cases p.hoseZone h with
    | none => simp
    | some y => simpa using zones y
  refine Rezoned.keeps (q := modZone z _ p) {} E S.agree S.recordsFit
    (fun s _ h y zone st => ?_) (fun s o _ => ?_) fun _ s h ph t m trip => ?_
  · rw [E.hoseZone] at zone
    exact going_eq_false.1 (E.still h (going_eq_false.2 (s.tripped h y zone ((zones y).1 st).1)))
  · rw [ordersHeld_iff] at o ⊢
    intro u w
    rcases lamps.waits u w with w | harmless
    · refine bars_mono (p := p) (fun h trip => ((hoses h).1 trip).1) (fun t trip => ?_) E.binding (o u w)
      unfold Part.tankTripped at trip ⊢
      rw [(E.tank t).zone] at trip
      simpa using ((zones _).1 (by simpa using trip)).1
    · exact harmless _
  · rw [← E.hoseTripped, hoses]
    refine ⟨trip, fun zone => ?_⟩
    have state : (p.zone z).state = .tripped := by rw [hoseTripped_of_zone zone] at trip; simpa using trip
    have := s.isClosing m zone state
    rw [resetBlocked_closing free zone] at this
    cases this

end Sys2Proof.Machine
end

section
/-! The deliveries' ends, and the openings of fills and runs, keep the promises (R8, R9, R89, R180). -/

namespace Sys2Proof.Machine

open Sys2Proof

variable {e : Option HoseNo}

/-! ## Stock -/

theorem lossStep_keeps (t : TankNo) (b : Bool) (p : Part) : Keeps e p (lossStep t b p) := by
  unfold lossStep
  dsimp only
  split
  · split
    · exact (modTank_calm {}).keeps
    · split
      · exact (modTank_calm {}).keeps.trans (tripSource_keeps ..)
      · exact .refl p
    · exact .refl p
  · exact .refl p

theorem takeLevel_keeps (t : TankNo) (d : List Byte) (p : Part) : Keeps e p (takeLevel t d p) := by
  unfold takeLevel
  split
  · exact .refl p
  · split
    · exact (faultedLevel_calm t p).keeps
    · dsimp only
      refine Keeps.trans ?_ ((lossStep_keeps ..).trans ((restStep_calm ..).trans (highHighTest_calm ..)).keeps)
      split
      · exact (takeReading_calm ..).keeps
      · exact ((takeReading_calm ..).trans (gaugeMark_calm ..)).keeps

theorem restExpiry_keeps (t : TankNo) (p : Part) : Keeps e p (restExpiry t p) := by
  unfold restExpiry
  dsimp only
  split
  · exact .refl p
  · split
    · exact (modTank_calm {}).keeps
    · split
      · exact (modTank_calm {}).keeps.trans (tripSource_keeps ..)
      · split
        · exact ((modTank_calm {}).trans (raise_calm ..)).keeps
        · exact (modTank_calm {}).keeps

/-- A tank's state changes to one in which it is in service. -/
theorem setTankState_eases {t : TankNo} {st : TankState} (service : st ≠ .outOfService) (p : Part) :
    Eases e p (setTankState t st p) :=
  (modTank_eases { closed := fun out => absurd out service }).trans (recoveryTest_calm ..).eases

/-- A delivery's end up to its low-stock test. -/
theorem deliveryBooked_calm (p : Part) (t : TankNo) (closed : Bool) (n : Int) : Calm e p
    (lowStockTest t (modTank t (fun x => x.bookChange .received n) (if closed then sendInlet t 0 p else p))) := by
  refine Calm.trans ?_ ((modTank_calm (bookChange_stays ..)).trans (lowStockTest_calm ..))
  split
  · exact sendInlet_zero_calm t p
  · exact .refl p

theorem deliveryEnded_eases (p : Part) (t : TankNo) (c : CloseCause) (d : Delivery) :
    Eases e p (p.deliveryEnded t c d) := by
  have placed := (deliveryBooked_calm (e := e) p t d.closed.isNone
    (((p.tank t).gaugeNet.getD d.startGauge : Int) - d.startGauge + d.outflow)).eases.trans (placeReserved_eases
      (deliveryRecord t (numberOf (p.tank t).cfg.product) d ((p.tank t).gaugeNet.getD d.startGauge)
        (((p.tank t).gaugeNet.getD d.startGauge : Int) - d.startGauge + d.outflow) (d.closed.getD c) (now p)) _)
  unfold Part.deliveryEnded
  dsimp only
  refine Eases.trans ?_ (modTank_eases { closed := fun out => .inl ⟨out, le_rfl⟩ })
  split
  · exact placed.trans (raise_calm ..).eases
  · exact placed

/-- What the end of a delivery leaves of the hoses' promises. -/
theorem deliveryEnded_promised (p : Part) (t : TankNo) (c : CloseCause) (d : Delivery) (h : HoseNo) :
    ((p.deliveryEnded t c d).hose h).mode.promised = (p.hose h).mode.promised ∧
    ((p.hose h).mode.SessionFits → ((p.deliveryEnded t c d).hose h).mode.SessionFits) := by
  have booked := (deliveryBooked_calm (e := none) p t d.closed.isNone
    (((p.tank t).gaugeNet.getD d.startGauge : Int) - d.startGauge + d.outflow)).stays
  unfold Part.deliveryEnded
  dsimp only
  rw [modTank_hose_keep]
  split
  · rw [raise_hose, placeReserved_hose]; exact ⟨booked.promised h, booked.fits h⟩
  · rw [placeReserved_hose]; exact ⟨booked.promised h, booked.fits h⟩

theorem endDelivery_keeps {t : TankNo} {d : Delivery} {p : Part} (open_ : (p.tank t).delivery = some d) (c : CloseCause) :
    Keeps e p (endDelivery t c d p) := by
  have E : Eases e p (endDelivery t c d p) := by
    rw [endDelivery_eq]; exact (deliveryEnded_eases ..).trans (setTankState_eases (by decide) _)
  refine .of_eases E (endDelivery_moves ..).openHosesAgree ?_
  rw [endDelivery_eq]
  have after (k : TankNo) : (setTankState t .inService (p.deliveryEnded t c d)).tank k = _ := setTankState_tank ..
  obtain ⟨rec, records⟩ := deliveryEnded_records p t c d
  refine recordsFit_tank t (fun h => ?_) (fun h => ?_) (fun k ne => ?_) ?_ fun held _ room => ?_
  · rw [setTankState_hose]; exact (deliveryEnded_promised ..).1
  · rw [setTankState_hose]; exact (deliveryEnded_promised ..).2
  · rw [after, if_neg ne.symm, deliveryEnded_tank_other _ _ _ _ ne]
  · simp [after, deliveryEnded_tank_delivery]
  · have left : ((setTankState t .inService (p.deliveryEnded t c d)).tank t).promised = 0 := by
      simp [after, Tank.promised, deliveryEnded_tank_delivery]
    have was : (p.tank t).promised = 1 := by simp [Tank.promised, open_]
    have reserved : (setTankState t .inService (p.deliveryEnded t c d)).reserved = p.reserved - 1 := by
      rw [← deliveryEnded_reserved p t c d]; exact recoveryTest_reserved ..
    have placed : (setTankState t .inService (p.deliveryEnded t c d)).records = p.records ++ [rec] := by
      rw [← records]; exact recoveryTest_records ..
    rw [placed, List.length_append, List.length_singleton]
    omega

theorem restartDelivery_keeps (t : TankNo) (p : Part) : Keeps e p (restartDelivery t p) := by
  obtain ⟨-, same⟩ | ⟨d, -, open_, same⟩ := restartDelivery_cases t p <;> rw [same]
  · exact .refl p
  · exact endDelivery_keeps open_ .restart

/-! ## Openings (R8, R180) -/

/-- Nothing of the plant bars the opening of a hose on a tank. -/
structure Part.MayOpen (p : Part) (h : HoseNo) (t : TankNo) : Prop where
  tank : (p.hose h).cfg.tank = some t
  free : p.hoseTripped h = false
  service : (p.tank t).state = .inService

theorem Still.mayOpen {p q : Part} {h : HoseNo} {t : TankNo} (S : Still p q) (m : p.MayOpen h t) : q.MayOpen h t where
  tank := by rw [S.hose]; exact m.tank
  free := by rw [(S.eases (e := none)).hoseTripped]; exact m.free
  service := by rw [S.tank]; exact m.service

theorem Part.MayOpen.tankTripped {p : Part} {h : HoseNo} {t : TankNo} (m : p.MayOpen h t) : p.tankTripped t = false := by
  have zone : p.hoseZone h = some (p.tank t).cfg.zone := by simp [Part.hoseZone, m.tank]
  rw [← m.free, hoseTripped_of_zone zone]; rfl

theorem Part.MayOpen.openOrders {p : Part} {h : HoseNo} {t : TankNo} (m : p.MayOpen h t) {u : Telegram}
    (mem : u ∈ p.openOrders h t) : p.bars u = false := by
  simp only [Part.openOrders, List.mem_append] at mem
  rcases mem with (mem | mem) | mem
  · exact orderTo_bars mem (by simp [Part.barsOrder, m.free])
  · exact lampTo_harmless mem p
  · split at mem
    · have free := m.tankTripped
      unfold Part.tankTripped at free
      exact orderTo_bars mem (by simp [Part.barsOrder, free])
    · cases mem

section opened
variable (p : Part) (h : HoseNo) (f : Hose → Hose) (t : TankNo)

@[simp] theorem opened_zone (z : ZoneNo) : (p.opened h f t).zone z = p.zone z := by rw [opened_frame]; rfl
@[simp] theorem opened_device (n : DevNo) : (p.opened h f t).device n = p.device n := by rw [opened_frame]; rfl
@[simp] theorem opened_records : (p.opened h f t).records = p.records := by rw [opened_frame]
@[simp] theorem opened_reserved : (p.opened h f t).reserved = p.reserved := by rw [opened_frame]

end opened

section opened
variable {p : Part} {h : HoseNo} {f : Hose → Hose} {t : TankNo} (keep : (f (p.hose h)).cfg = (p.hose h).cfg)
include keep

theorem opened_cfg (j : HoseNo) : ((p.opened h f t).hose j).cfg = (p.hose j).cfg := by
  by_cases same : j = h
  · subst same; rw [opened_hose_same]; exact keep
  · rw [opened_hose_other p same]

theorem opened_hoseZone (j : HoseNo) : (p.opened h f t).hoseZone j = p.hoseZone j :=
  hoseZone_congr (by rw [opened_cfg keep]) fun k => by rw [opened_tank]; split <;> rfl

theorem opened_hoseTripped (j : HoseNo) : (p.opened h f t).hoseTripped j = p.hoseTripped j :=
  hoseTripped_congr (opened_hoseZone keep j) fun z => by rw [opened_zone]

theorem opened_bars {u : Telegram} (held : p.bars u = false) : (p.opened h f t).bars u = false := by
  refine bars_mono (p := p) (fun j trip => ?_) (fun k trip => ?_) (fun n => by rw [opened_device]) held
  · rwa [opened_hoseTripped keep] at trip
  · unfold Part.tankTripped at trip ⊢
    rw [opened_tank, opened_zone] at trip
    split at trip <;> exact trip

/-- A hose opens on a tank that is in service, in a zone that is not TRIPPED, on no net of its own yet. -/
theorem opened_keeps {p₀ : Part} (before : Eases e p₀ p) (may : p.MayOpen h t)
    (mode : ∀ ph txn, (f (p.hose h)).mode = .fill ph txn → txn.tank = t ∧ txn.tally.net = 0)
    (agree : p₀.OpenHosesAgree → (p.opened h f t).OpenHosesAgree)
    (records : p₀.RecordsFit → (p.opened h f t).RecordsFit) : Keeps e p₀ (p.opened h f t) := by
  have fills (ph : Phase) (txn : Transaction) (m : ((p.opened h f t).hose h).mode = .fill ph txn) :
      txn.tank = t ∧ txn.tally.net = 0 := by
    rw [opened_hose_same] at m
    obtain ⟨txn', m', rfl⟩ := HoseMode.modTally_fill m
    exact mode ph txn' m'
  have shut (s : p.Shut) : (p.opened h f t).Shut := by
    refine ⟨fun j ph txn m => ?_, fun k out => ?_, fun j z zone trip => ?_⟩
    · by_cases same : j = h
      · subst same; rw [opened_cfg keep, (fills ph txn m).1]; exact may.tank
      · rw [opened_hose_other p same] at m ⊢; exact s.own j ph txn m
    · rw [opened_tank] at out ⊢
      split at out
      · subst_vars
        have service := may.service
        rw [show (p.tank k).state = .outOfService from out] at service
        cases service
      · rw [if_neg ‹_›]; exact s.out k out
    · rw [opened_hoseZone keep] at zone
      rw [opened_zone] at trip
      by_cases same : j = h
      · subst same
        have free := may.free
        rw [hoseTripped_of_zone zone, trip] at free
        cases free
      · rw [opened_hose_other p same]; exact s.tripped j z zone trip
  refine ⟨agree, fun b k => ?_, records, fun s => shut (before.shut s), fun s o => ?_, fun _ _ o j ph txn ne m beyond => ?_⟩
  · rw [opened_tank]; split <;> exact before.books b k
  · have o := before.orders s o
    rw [ordersHeld_iff] at o ⊢
    exact fun u w => opened_bars keep ((sendAll_waits w).elim (o u) may.openOrders)
  · by_cases same : j = h
    · subst same
      unfold Transaction.Overrun at beyond
      rw [(fills ph txn m).2] at beyond; omega
    · rw [opened_hose_other p same] at m
      rw [opened_hoseTripped keep]
      exact before.overrun o j ph txn ne m beyond

end opened

@[simp] theorem hoseOpened_quiet (x : Tank) : x.hoseOpened.quiet = x.quiet := rfl

theorem opened_quiet (p : Part) (h : HoseNo) (f : Hose → Hose) (t k : TankNo) :
    ((p.opened h f t).tank k).quiet = (p.tank k).quiet := by
  rw [opened_tank]; split
  · exact hoseOpened_quiet _
  · rfl

/-- A fill opens on an IDLE hose, whose machine is free, with a place for its record. -/
theorem openFill_keeps {h : HoseNo} {t : Transaction} {p : Part} (may : p.MayOpen h t.tank)
    (idle : (p.hose h).mode = .idle) (free : (p.machine t.slot).openHose = none) (room : p.canReserve 1 = true)
    (net : t.tally.net = 0) : Keeps e p (openFill h t p) := by
  have agree := (openFill_moves (t := t) (stake_idle (.inl idle)) free).openHosesAgree
  have begun : Still p (modMachine t.slot (fun m => { m with openHose := some h }) (reserve 1 p)) := {}
  rw [openFill_eq] at agree ⊢
  refine opened_keeps rfl begun.eases (begun.mayOpen may) (fun ph txn m => ?_) agree
    (recordsFit_hose h (fun j ne => opened_hose_other _ ne ..) (fun k => ?_) fun _ _ _ => ?_)
  · obtain ⟨-, rfl⟩ := HoseMode.fill.inj m
    exact ⟨rfl, net⟩
  · rw [opened_quiet, begun.tank]
  · rw [opened_hose_same, idle]
    have room := (canReserve_one p).1 room
    refine ⟨trivial, ?_, ?_⟩
    · rw [opened_reserved]; rfl
    · rw [opened_records, opened_reserved]
      show p.records.length + (p.reserved + 1) ≤ 64; omega

theorem beginRun_keeps {h : HoseNo} {s : Session} {p : Part} (m : (p.hose h).mode = .proving s) :
    Keeps e p (beginRun h s p) := by
  cases mayBegin : p.runMayBegin h s with
  | false => rw [beginRun_refused mayBegin]; exact (sendLamp_calm ..).keeps
  | true =>
    obtain ⟨k, tank, planned, run, normal, service, _, _⟩ := (runMayBegin_iff p h s).1 mayBegin
    have agree := (beginRun_moves m).openHosesAgree
    have may : p.MayOpen h k := by
      refine ⟨tank, ?_, service⟩
      rw [hoseTripped_of_zone (z := (p.tank k).cfg.zone) (by simp [Part.hoseZone, tank]), normal]; rfl
    rw [beginRun_eq mayBegin tank] at agree ⊢
    refine opened_keeps rfl (Calm.refl p).eases may (fun _ _ same => by cases same) agree
      (recordsFit_hose h (fun j ne => opened_hose_other p ne _ k) (opened_quiet p h _ k) fun _ _ room => ?_)
    have stays := Hose.Stays.modTally (Tally.awaiting (p.claimWaits k)) { p.hose h with
      mode := .proving (s.withRun { start := now p, tally := { lastCode := (p.hose h).cfg.openCode } }) }
    rw [opened_hose_same, opened_records, opened_reserved]
    refine ⟨stays.fits ?_, ?_, room⟩
    · simp only [HoseMode.SessionFits, Session.withRun, Option.isSome_some, if_true]; exact planned
    · rw [m]; exact congrArg (p.reserved + ·) stays.promised.symm

/-! ## Authorization (R7) -/

/-- A record placed where there is room for it. -/
theorem placeRecord_keeps (r : Record) {p : Part} (room : p.canReserve 1 = true) : Keeps e p (placeRecord r p) := by
  refine .of_eases (placeRecord_eases ..) (Moves.of_eq (placeRecord_ledger r p)).openHosesAgree
    (recordsFit_hose 0 (fun j _ => placeRecord_hose ..) (fun k => by rw [placeRecord_tank]) fun _ fits _ => ?_)
  have room := (canReserve_one p).1 room
  rw [placeRecord_hose, placeRecord_records, placeRecord_reserved, List.length_append, List.length_singleton]
  exact ⟨fits, rfl, by omega⟩

theorem refuseFill_keeps_promises (h : HoseNo) (c : RefusalCause) (tag : Long) (m : Option SlotNo) (hours : Option Nat)
    (fl : Flags) (p : Part) : Keeps e p (refuseFill h c tag m hours fl p) := by
  unfold refuseFill
  dsimp only
  split
  · exact (sendLamp_calm ..).keeps.trans (placeRecord_keeps _ ‹_›)
  · exact ((sendLamp_calm ..).trans (modHose_calm_of_mode rfl rfl)).keeps

theorem holdEvaluation_still (m : SlotNo) (c : ProductClass) (hours : Option Nat) (p : Part) :
    Still p (holdEvaluation m c hours p) := by
  unfold holdEvaluation
  dsimp only
  split
  · split
    · exact Still.trans {} (raise_still ..)
    · exact {}
  · exact .refl p

theorem holdEvaluation_calm (m : SlotNo) (c : ProductClass) (hours : Option Nat) (p : Part) :
    Calm e p (holdEvaluation m c hours p) := by
  unfold holdEvaluation
  dsimp only
  split
  · split
    · exact (modMachine_calm ..).trans (raise_calm ..)
    · exact modMachine_calm ..
  · exact .refl p

theorem holdEvaluation_openHose (m : SlotNo) (c : ProductClass) (hours : Option Nat) (p : Part) :
    ((holdEvaluation m c hours p).machine m).openHose = (p.machine m).openHose :=
  congrArg (fun l => l.owner m) (holdEvaluation_ledger m c hours p)

theorem capCheck_keeps {h : HoseNo} {r : TagReading} {m : SlotNo} {t : TankNo} {i : ProductNo} {p : Part}
    (may : p.MayOpen h t) (idle : (p.hose h).mode = .idle) (free : (p.machine m).openHose = none)
    (room : p.canReserve 1 = true) : Keeps e p (capCheck h r m t i p) := by
  have own : ((modMachine m (fun _ => ((p.machine m).assess r.hours).1) p).machine m).openHose = none := by
    rw [modMachine_machine_same, assess_openHose, free]
  have assessed (b : Bool) : ∃ q, (if b then raise .hoursFault (modMachine m (fun _ => ((p.machine m).assess r.hours).1) p)
      else modMachine m (fun _ => ((p.machine m).assess r.hours).1) p) = q ∧
      Still p q ∧ (q.machine m).openHose = none ∧ q.records = p.records ∧ q.reserved = p.reserved := by
    refine ⟨_, rfl, ?_⟩
    split
    · exact ⟨Still.trans (q := modMachine m _ p) {} (raise_still ..), by rw [raise_machine]; exact own,
        by rw [raise_records]; rfl, by rw [raise_reserved]; rfl⟩
    · exact ⟨{}, own, rfl, rfl⟩
  obtain ⟨q, same, still, free', records, reserved⟩ := assessed ((p.machine m).assess r.hours).2
  have calm := still.calm (e := e) (by rw [records]) reserved
  unfold capCheck
  dsimp only
  rw [same]
  split
  · exact calm.keeps.trans (refuseFill_keeps_promises ..)
  · refine calm.keeps.trans (openFill_keeps (still.mayOpen may) (by rw [still.hose]; exact idle) free' ?_ rfl)
    rw [canReserve_one] at room ⊢
    rw [records, reserved]; exact room

theorem authorize_keeps {h : HoseNo} {p : Part} (closed : (p.hose h).mode = .idle ∨ (p.hose h).mode = .out)
    (r : TagReading) : Keeps e p (authorize h r p) := by
  unfold authorize
  split
  · exact refuseFill_keeps_promises ..
  · rename_i passed
    split
    · exact refuseFill_keeps_promises ..
    · rename_i m _
      split
      · exact refuseFill_keeps_promises ..
      · exact .refl p
      · rename_i t known tank
        have free : (p.machine m).openHose = none := by
          simpa using firstFailure_eq_none.1 known ((p.machine m).openHose.isNone, .machineBusy) (by simp [machineChecks])
        have idle : (p.hose h).mode = .idle := closed.resolve_right fun out => by
          have := firstFailure_eq_none.1 passed (_, .hoseOut) (List.mem_cons_self)
          simp [out] at this
        have may : p.MayOpen h t := by
          refine ⟨tank, ?_, ?_⟩
          · simpa using firstFailure_eq_none.1 passed (!p.hoseTripped h, .zoneTripped) (by simp [hoseChecks])
          · have := firstFailure_eq_none.1 passed (_, .tankOut)
              (List.mem_cons_of_mem _ (List.mem_cons_of_mem _ (List.mem_cons_of_mem _ List.mem_cons_self)))
            simpa [tank] using this
        split
        · exact .refl p
        · rename_i i prod _
          have still := holdEvaluation_still m prod.cls r.hours p
          have held := (holdEvaluation_calm (e := e) m prod.cls r.hours p).keeps
          dsimp only
          split
          · exact held.trans (refuseFill_keeps_promises ..)
          · split
            · exact held.trans (refuseFill_keeps_promises ..)
            · refine held.trans (capCheck_keeps (still.mayOpen may) (by rw [still.hose]; exact idle) ?_ ?_)
              · rw [holdEvaluation_openHose, free]
              · rename_i room
                simpa using room

end Sys2Proof.Machine
end

section
/-! TAG reports, METER samples, the monitor and the Pass filter keep the promises (R6, R14 to R17, R98, R117 to R124,
R145, R150). -/

namespace Sys2Proof.Machine

open Sys2Proof

variable {e : Option HoseNo}

/-! ## Telegrams queued where R101 allows them -/

/-- An operation that only queues, and nothing that R101 bars. -/
theorem Calm.of_queued {p q : Part} (same : q.sansPorts = p.sansPorts)
    (waits : ∀ u, q.Waits u → p.Waits u ∨ (p.Shut → p.bars u = false)) : Calm e p q := by
  have hose (h : HoseNo) : q.hose h = p.hose h := congrArg (fun r => r.hose h) same
  have tank (t : TankNo) : q.tank t = p.tank t := congrArg (fun r => r.tank t) same
  exact {
    eases := {
      hose := fun h => .of_eq (hose h)
      tank := fun t => .of_eq (tank t)
      zone := fun z => by rw [show q.zone z = p.zone z from congrArg (fun r => r.zone z) same]
      binding := fun n => congrArg (fun r => (r.device n).binding) same
      waits := waits }
    stays := {
      opens := fun h t => by rw [hose]
      openHoses := fun t => by rw [tank]
      promised := fun h => by rw [hose]
      fits := fun h => by rw [hose]; exact id
      delivery := fun t => by rw [tank]
      receiving := fun t => by rw [tank]
      records := (congrArg (fun r => r.records.length) same).le
      reserved := congrArg (·.reserved) same } }

/-- A hose on which something goes on is in a zone that is not TRIPPED. -/
theorem Part.Shut.free {p : Part} (s : p.Shut) {h : HoseNo} (going : (p.hose h).mode.going = true) :
    p.hoseTripped h = false := by
  unfold Part.hoseTripped
  split
  · rename_i z zone
    rw [beq_eq_false_iff_ne]
    intro trip
    rw [going_eq_false.2 (s.tripped h z zone trip)] at going
    cases going
  · rfl

theorem sendValve_calm_of_going {h : HoseNo} {p : Part} (going : (p.hose h).mode.going = true) (code : Nat) :
    Calm e p (sendValve h code p) := by
  rw [sendValve_eq]
  refine .of_queued rfl fun u w => (sendAll_waits w).imp_right fun mem s => orderTo_bars mem ?_
  simp [Part.barsOrder, s.free going]

/-! ## TAG reports (R6) -/

theorem coupledEdge_keeps (h : HoseNo) (r : TagReading) (p : Part) : Keeps e p (coupledEdge h r p) := by
  unfold coupledEdge
  split
  · exact authorize_keeps (.inl ‹_›) r
  · exact authorize_keeps (.inr ‹_›) r
  · exact beginRun_keeps ‹_›
  · exact .refl p

theorem tagRequest_keeps (h : HoseNo) (n : Nozzle) (p : Part) : Keeps e p (tagRequest h n p) := by
  unfold tagRequest; split; exacts [endRequest_keeps .., .refl p]

theorem holsteredReport_calm (h : HoseNo) (p : Part) : Calm e p (holsteredReport h p) := by
  have reset : Calm e p (modHose h (fun x => { x with uncoupled := 0, uncoupledRaised := false }) p) :=
    modHose_calm_of_mode rfl rfl
  unfold holsteredReport
  dsimp only
  split
  · exact reset.trans (sendLamp_calm ..)
  · exact reset.trans (sendLamp_calm ..)
  · exact reset

theorem takeTag_keeps (h : HoseNo) (d : List Byte) (p : Part) : Keeps e p (takeTag h d p) := by
  unfold takeTag
  split
  · exact .refl p
  · rename_i r _
    have nozzle : Keeps e p (tagRequest h r.nozzle (modHose h (fun x => { x with nozzle := r.nozzle }) p)) :=
      (modHose_calm_of_mode rfl rfl).keeps.trans (tagRequest_keeps ..)
    dsimp only
    split <;> split
    · exact (nozzle.trans (holsteredReport_calm ..).keeps).trans (coupledEdge_keeps ..)
    · exact nozzle.trans (coupledEdge_keeps ..)
    · exact nozzle.trans (holsteredReport_calm ..).keeps
    · exact nozzle

/-! ## Samples -/

theorem addUncoupled_keeps (h : HoseNo) (ml : Nat) (p : Part) : Keeps e p (addUncoupled h ml p) := by
  have added : Calm e p (modHose h (fun x => { x with uncoupled := satAdd max32 x.uncoupled ml }) p) :=
    modHose_calm_of_mode rfl rfl
  unfold addUncoupled
  dsimp only
  split
  · split
    · exact (added.trans (modHose_calm_of_mode rfl rfl)).keeps.trans (tripHose_keeps ..)
    · exact added.keeps
  · exact .refl p

theorem addSums_calm (h : HoseNo) (a b c d : Nat) (p : Part) :
    Calm e p (modHose h (fun x => { x with mode := x.mode.addSums a b c d }) p) := by
  refine modHose_calm ⟨rfl, ?_, fun ph t m => ?_⟩ ⟨fun t => by rw [opens_eq_stake, opens_eq_stake, stake_addSums], ?_, ?_⟩
  · cases m : (p.hose h).mode <;> simp [HoseMode.addSums, HoseMode.going, HoseMode.dispensing, HoseMode.run]
  · refine ⟨ph, t, ?_, rfl, .inr⟩
    cases m' : (p.hose h).mode <;> simp_all [HoseMode.addSums]
  · cases m : (p.hose h).mode <;> simp [HoseMode.addSums, HoseMode.promised]
  · cases m : (p.hose h).mode <;> simp [HoseMode.addSums, HoseMode.SessionFits]

/-- A sample is counted: its fill's net may pass the allowance, until the overrun is looked at. -/
theorem countSample_keeps (h : HoseNo) (x : Sample) (c : MeterContext) (d : Nat) (p : Part) :
    Keeps (some h) p (countSample h x c d p) := by
  have factor (curve : List CurvePoint) (rate : Nat) : Calm (some h) p (sampleFactor curve rate p).2 := by
    unfold sampleFactor
    split
    · exact .refl p
    · exact Still.calm {}
  unfold countSample
  dsimp only
  split
  · exact ((factor ..).trans ((modTally_calm (.inl rfl) _).trans ((addSums_calm ..).trans (handOff_calm ..)))).keeps.trans
      (addUncoupled_keeps ..)
  · exact ((factor ..).trans ((modHose_calm_of_mode rfl rfl).trans (handOff_calm ..))).keeps.trans (addUncoupled_keeps ..)

theorem countJump_keeps (h : HoseNo) (p : Part) : Keeps e p (countJump h p) := by
  have jump (q : Part) : Calm e q (modTally h (fun t => { t with jumps := satAdd 255 t.jumps 1 }) q) := by
    refine modTally_calm_of_net (fun _ => ?_) q; rfl
  have counted : Calm e p (raise .meterJump (modTally h (fun t => { t with jumps := satAdd 255 t.jumps 1 })
      (modHose h (fun x => { x with jumpTotal := satAdd max16 x.jumpTotal 1 }) p))) :=
    Calm.trans (modHose_calm_of_mode rfl rfl) ((jump _).trans (raise_calm ..))
  unfold countJump
  dsimp only
  split
  · split
    · exact counted.keeps.trans (endRequest_keeps ..)
    · exact counted.keeps
  · exact counted.keeps

theorem flowStep_calm (h : HoseNo) (p : Part) : Calm e p (flowStep h p) := by
  unfold flowStep
  split
  · exact (setMode_fill_calm ‹_› rfl id fun _ => rfl).trans (sendLamp_calm ..)
  · exact setMode_fill_calm ‹_› rfl id fun _ => rfl
  · exact .refl p

theorem runFlowStep_calm (h : HoseNo) (p : Part) : Calm e p (runFlowStep h p) := by
  unfold runFlowStep
  split
  · split
    · split
      · exact .refl p
      · exact (setMode_run_calm ‹_› ‹_›).trans (sendLamp_calm ..)
    · exact .refl p
  · exact .refl p

theorem capStep_keeps (h : HoseNo) (p : Part) : Keeps e p (capStep h p) := by
  unfold capStep
  split
  · split; exacts [endRequest_keeps .., .refl p]
  · split; exacts [endRequest_keeps .., .refl p]
  · exact .refl p

theorem overrunStep_keeps (h : HoseNo) (p : Part) : Keeps e p (overrunStep h p) := by
  unfold overrunStep
  split
  · split; exacts [tripHose_keeps .., .refl p]
  · exact .refl p

theorem overrunStep_noFill {h : HoseNo} {p : Part} (m : ∀ ph t, (p.hose h).mode ≠ .fill ph t) : overrunStep h p = p := by
  unfold overrunStep
  split
  · exact absurd ‹_› (m _ _)
  · rfl

/-- The sample's own hose is looked at: where its net has passed the allowance its zone is tripped. -/
theorem overrunStep_overrun {h : HoseNo} {p : Part} (agree : p.OpenHosesAgree) (s : p.Shut)
    (o : p.OverrunsBut (some h)) : (overrunStep h p).OverrunsBut none := by
  have others := (overrunStep_keeps (e := some h) h p).overrun agree s o
  intro j ph txn _ m beyond
  by_cases own : h = j
  · subst own
    by_cases filling : ∃ ph t, (p.hose h).mode = .fill ph t
    · obtain ⟨ph', t, m'⟩ := filling
      by_cases above : t.Overrun
      · have zone : p.hoseZone h = some (p.tank t.tank).cfg.zone := by simp [Part.hoseZone, s.own h ph' t m']
        rw [overrunStep_beyond m' above, tripHose_of_zone zone]
        exact tripSource_hoseTripped zone
      · rw [overrunStep_within m' above, m'] at m
        obtain ⟨-, rfl⟩ := HoseMode.fill.inj m
        exact absurd beyond above
    · push Not at filling
      rw [overrunStep_noFill filling] at m
      exact absurd m (filling ph txn)
  · exact others j ph txn (by simpa using own) m beyond

/-- Once the overrun has been looked at, no hose is exempt. -/
theorem Keeps.looked {h : HoseNo} {p q : Part} (k : Keeps (some h) p q) : Keeps none p (overrunStep h q) where
  agree a := (overrunStep_keeps (e := none) ..).agree (k.agree a)
  books b := (overrunStep_keeps (e := none) ..).books (k.books b)
  records r := (overrunStep_keeps (e := none) ..).records (k.records r)
  shut s := (overrunStep_keeps (e := none) ..).shut (k.shut s)
  orders s o := (overrunStep_keeps (e := none) ..).orders (k.shut s) (k.orders s o)
  overrun a s o := overrunStep_overrun (k.agree a) (k.shut s) (k.overrun a s fun j ph t _ => o j ph t nofun)

theorem runCapStep_keeps (h : HoseNo) (p : Part) : Keeps e p (runCapStep h p) := by
  unfold runCapStep
  split
  · split
    · split; exacts [endRequest_keeps .., .refl p]
    · exact .refl p
  · exact .refl p

theorem lowerThrottle_calm {h : HoseNo} {p : Part} (going : (p.hose h).mode.going = true) (v : Int) (t : Tally) :
    Calm e p (lowerThrottle h v t p) := by
  unfold lowerThrottle
  dsimp only
  split
  · refine (sendValve_calm_of_going going _).trans (modTally_calm_of_net (fun _ => ?_) _); rfl
  · exact .refl p

theorem taperStep_calm (h : HoseNo) (p : Part) : Calm e p (taperStep h p) := by
  unfold taperStep
  split
  · rename_i m; exact lowerThrottle_calm (by rw [m]; rfl) ..
  · rename_i m; exact lowerThrottle_calm (by rw [m]; rfl) ..
  · exact .refl p

theorem runTaperStep_calm (h : HoseNo) (p : Part) : Calm e p (runTaperStep h p) := by
  unfold runTaperStep
  split
  · rename_i s m
    split
    · rename_i run; exact lowerThrottle_calm (by simp [m, HoseMode.going, HoseMode.run, run]) ..
    · exact .refl p
  · exact .refl p

theorem afterSample_keeps {h : HoseNo} {p q : Part} (k : Keeps (some h) p q) (moved : Bool) :
    Keeps none p (afterSample h moved q) := by
  cases moved with
  | false => rw [afterSample_still]; exact (k.trans (capStep_keeps ..)).looked.trans (runCapStep_keeps ..)
  | true =>
    rw [afterSample_moved]
    exact ((k.trans (((flowStep_calm ..).trans (runFlowStep_calm ..)).keeps.trans (capStep_keeps ..))).looked.trans
      (runCapStep_keeps ..)).trans ((taperStep_calm ..).trans (runTaperStep_calm ..)).keeps

theorem takeMeter_keeps (h : HoseNo) (d : List Byte) (doubtful : Bool) (p : Part) :
    Keeps none p (takeMeter h d doubtful p) := by
  unfold takeMeter
  split
  · rename_i x _
    have start : Keeps (some h) p (modHose h (fun y => { y with baseline := some x.count })
        (if x.fault || doubtful then markDoubt h p else p)) := by
      refine (Calm.trans ?_ (modHose_calm_of_mode rfl rfl)).keeps
      split
      · exact markDoubt_calm h p
      · exact .refl p
    unfold takeSample
    dsimp only
    split
    · split
      · exact afterSample_keeps (start.trans (countJump_keeps ..)) _
      · exact afterSample_keeps (start.trans (countSample_keeps ..)) _
    · exact afterSample_keeps start _
  · exact .refl p

/-! ## The monitor (R119 to R124) -/

theorem doubtFill_calm (h : HoseNo) (p : Part) : Calm e p (doubtFill h p) := by
  unfold doubtFill; split; exacts [markDoubt_calm h p, .refl p]

theorem reportLost_keeps (b : Binding) (p : Part) : Keeps e p (reportLost b p) := by
  cases b with
  | meter h => exact ((doubtFill_calm h p).trans (modHose_calm_of_mode rfl rfl)).keeps.trans (endRequest_keeps ..)
  | reader h => exact endRequest_keeps ..
  | starter t => exact stopPumping_keeps ..
  | gauge t => exact ((disturbWindows_calm t p).trans (closeInlet_calm ..)).keeps
  | sump z => unfold reportLost; dsimp only; split; exacts [tripSource_keeps .., .refl p]
  | estop z => exact tripFor_keeps ..
  | _ => exact .refl p

theorem reportHealth_keeps (b : Binding) (new : Health) (p : Part) : Keeps e p (reportHealth b new p) := by
  cases new with
  | good => exact .refl p
  | doubtful =>
    cases b with
    | meter h => exact (doubtFill_calm h p).keeps
    | gauge t => exact (disturbWindows_calm t p).keeps
    | _ => exact .refl p
  | lost => exact (raise_calm ..).keeps.trans (reportLost_keeps ..)

theorem setScore_keeps (n : DevNo) (score : Nat) (p : Part) : Keeps e p (setScore n score p) := by
  unfold setScore
  dsimp only
  split
  · exact (modDevice_calm rfl).keeps
  · exact (modDevice_calm rfl).keeps.trans (reportHealth_keeps ..)

theorem takeStarter_keeps (t : TankNo) (d : List Byte) (p : Part) : Keeps e p (takeStarter t d p) := by
  unfold takeStarter
  split
  · exact .refl p
  · split
    · split; exacts [(confirmPump_calm ..).keeps, (sendRun_zero_calm t p).keeps]
    · split
      · split; exacts [stopPumping_keeps .., .refl p]
      · exact .refl p

theorem takeValve_calm (h : HoseNo) (d : List Byte) (p : Part) : Calm e p (takeValve h d p) := by
  unfold takeValve; split; exacts [modHose_calm_of_mode rfl rfl, .refl p]

theorem takeInlet_calm (t : TankNo) (d : List Byte) (p : Part) : Calm e p (takeInlet t d p) := by
  unfold takeInlet; split; exacts [modTank_calm {}, .refl p]

theorem takeSump_keeps (n : DevNo) (z : ZoneNo) (d : List Byte) (p : Part) : Keeps e p (takeSump n z d p) := by
  unfold takeSump
  split
  · exact .refl p
  · dsimp only; split; exacts [(modDevice_calm rfl).keeps.trans (tripSource_keeps ..), (modDevice_calm rfl).keeps]

theorem takeEstop_keeps (n : DevNo) (z : Option ZoneNo) (d : List Byte) (p : Part) : Keeps e p (takeEstop n z d p) := by
  unfold takeEstop
  split
  · exact .refl p
  · dsimp only; split; exacts [(modDevice_calm rfl).keeps.trans (tripFor_keeps ..), (modDevice_calm rfl).keeps]

theorem handTelegram_keeps (n : DevNo) (d : List Byte) (p : Part) : Keeps none p (handTelegram n d p) := by
  unfold handTelegram
  dsimp only
  split
  · exact .refl p
  · split; exacts [.refl p, takeMeter_keeps ..]
  · exact takeTag_keeps ..
  · exact (takeValve_calm ..).keeps
  · exact takeStarter_keeps ..
  · exact (takeInlet_calm ..).keeps
  · split; exacts [.refl p, takeLevel_keeps ..]
  · exact takeSump_keeps ..
  · exact takeEstop_keeps ..

theorem finishTest_calm (p : Part) : Calm e p (finishTest p) :=
  Calm.trans (q := { p with test := none }) (Still.calm {}) (raise_calm ..)

theorem takeEchoBack_calm (n : DevNo) (d : List Byte) (p : Part) : Calm e p (takeEchoBack n d p) := by
  unfold takeEchoBack
  split
  · exact .refl p
  · split
    · exact .refl p
    · split
      · dsimp only
        split
        · exact Calm.trans (Still.calm {}) (finishTest_calm _)
        · exact Still.calm {}
      · exact .refl p

theorem checkKind_keeps (n : DevNo) (kind : Byte) (d : List Byte) (p : Part) : Keeps none p (checkKind n kind d p) := by
  unfold checkKind
  dsimp only
  split
  · exact (takeEchoBack_calm ..).keeps
  · split
    · exact .refl p
    · split
      · exact handTelegram_keeps ..
      · exact (modDevice_calm rfl).keeps

theorem monitorTelegram_keeps (t : Telegram) (p : Part) : Keeps none p (monitorTelegram t p) := by
  unfold monitorTelegram
  split
  · exact .refl p
  · dsimp only
    refine Keeps.trans ?_ (checkKind_keeps ..)
    split
    · exact (modDevice_calm rfl).keeps
    · exact (modDevice_calm rfl).keeps.trans (setScore_keeps ..)

theorem periodExpiry_keeps (n : DevNo) (p : Part) : Keeps e p (periodExpiry n p) := by
  unfold periodExpiry; split; exacts [.refl p, setScore_keeps ..]

/-! ## The Pass filter (R145 to R152) -/

/-- What R101 bars, the traffic guard covers. -/
theorem guardOn_of_bars {p : Part} {kind value : Byte} {b : Binding} (bars : p.barsOrder kind value b = true) :
    (p.guardOn b).isSome = true := by
  cases b with
  | valve h =>
    simp only [Part.barsOrder, Bool.and_eq_true] at bars
    simp [Part.guardOn, bars.2]
  | starter t | inlet t =>
    simp only [Part.barsOrder, Bool.and_eq_true, beq_iff_eq] at bars
    simp [Part.guardOn, bars.2]
  | _ => simp [Part.barsOrder] at bars

theorem guardFor_isSome {p : Part} {x : Node} {n : DevNo} (reach : x = 63 ∨ deviceOf x = some n)
    (guarded : (p.guardOn (p.device n).binding).isSome = true) : (p.guardFor x).isSome = true := by
  unfold Part.guardFor
  split
  · obtain ⟨m, found⟩ := Option.isSome_iff_exists.1
      (firstIdx_isSome (t := fun d : Device => (p.guardOn d.binding).isSome) (v := p.devices) guarded)
    rw [found]; exact firstIdx_some found
  · rw [reach.resolve_left ‹_›]; exact guarded

/-- A RUN or SET that R101 bars never comes past the traffic guard. -/
theorem bars_of_unguarded {p : Part} {t : Telegram}
    (free : (if t.kind = kindRun || t.kind = kindSet then p.guardFor t.head.dst else none) = none) : p.bars t = false := by
  split at free
  · by_contra no
    obtain ⟨value, rest, n, -, reach, bars⟩ := (bars_iff p t).1 (by simpa using no)
    have := guardFor_isSome reach (guardOn_of_bars bars)
    rw [free] at this
    cases this
  · rename_i other
    simp only [Bool.or_eq_true, decide_eq_true_eq, not_or] at other
    exact harmless_of_kind other.1 other.2 p

theorem passOn_calm (dir : Direction) {t : Telegram} {p : Part} (free : p.bars t = false) : Calm e p (passOn dir t p) := by
  have counted := countEvent_calm (e := e) dir.from .passed p
  refine counted.trans (.of_queued (modPort_sansPorts ..) fun u w => ?_)
  have held : (countEvent dir.from .passed p).bars t = false := counted.eases.bars.2 free
  have same (m : u = t) : (countEvent dir.from .passed p).bars u = false := by rw [m]; exact held
  cases dir with
  | fieldToUp => exact w.elim (fun w => (Port.placeForwarded_holds w).imp .inl fun m _ => same m) fun w => .inl (.inr w)
  | upToField => exact w.elim (fun w => .inl (.inl w)) fun w => (Port.placeForwarded_holds w).imp .inr fun m _ => same m

theorem settleTelegram_calm (dir : Direction) {t : Telegram} {p : Part} (free : p.bars t = false) (passes : Bool) :
    Calm e p (settleTelegram dir t passes p) := by
  unfold settleTelegram; split; exacts [passOn_calm dir free, countEvent_calm ..]

theorem tableDecision_calm (dir : Direction) {t : Telegram} {p : Part} (free : p.bars t = false) :
    Calm e p (tableDecision dir t p) := by
  unfold tableDecision
  split
  · exact settleTelegram_calm dir free true
  · split
    · rename_i i _
      have decided : Calm e p { p with rules := setNth p.rules i (nth p.rules i).decided } := Still.calm {}
      exact decided.trans (settleTelegram_calm dir (decided.eases.bars.2 free) _)
    · exact settleTelegram_calm dir free _

theorem guardDrop_calm (dir : Direction) (x : Node) (c : GuardCondition) (p : Part) : Calm e p (guardDrop dir x c p) := by
  cases dir with
  | upToField => exact Calm.trans (Still.calm {}) (countEvent_calm ..)
  | fieldToUp => exact Still.calm {}

theorem offer_calm (dir : Direction) (t : Telegram) (p : Part) : Calm e p (offer dir t p) := by
  unfold offer
  split
  · exact guardDrop_calm ..
  · split
    · exact countEvent_calm ..
    · exact tableDecision_calm dir (bars_of_unguarded ‹_›)

theorem fieldTelegram_keeps (t : Telegram) (p : Part) : Keeps none p (fieldTelegram t p) :=
  (heardEnd_calm .fp p).keeps.trans ((monitorTelegram_keeps ..).trans (offer_calm ..).keeps)

end Sys2Proof.Machine
end

section
/-! The closes of fills and sessions, and the commands but for WRITE and RESTART, keep the promises. -/

namespace Sys2Proof.Machine

open Sys2Proof

variable {e : Option HoseNo}

/-! ## Answers -/

theorem withArgs_keeps {α : Type} {args : Option α} {f : α → Part → Answer} (each : ∀ a p, Keeps e p (f a p).part)
    (p : Part) : Keeps e p (withArgs args f p).part := by
  unfold withArgs; split; exacts [each .., .refl p]

theorem withIndex_keeps {n : Nat} {x : Byte} {f : Fin n → Part → Answer} (each : ∀ i p, Keeps e p (f i p).part)
    (p : Part) : Keeps e p (withIndex n x f p).part := by
  unfold withIndex; split; exacts [each .., .refl p]

theorem withMachine_keeps {slot : Word} {f : SlotNo → Part → Answer} (each : ∀ m p, Keeps e p (f m p).part) (p : Part) :
    Keeps e p (withMachine slot f p).part := by
  unfold withMachine
  split
  · split; exacts [.refl p, each ..]
  · exact .refl p

theorem withPort_keeps {port : Byte} {f : PortId → Part → Answer} (each : ∀ q p, Keeps e p (f q p).part) (p : Part) :
    Keeps e p (withPort port f p).part := by
  unfold withPort
  split
  · exact each ..
  · split; exacts [each .., .refl p]

/-- An effect is kept by the answer DONE. -/
theorem Keeps.done {p q : Part} (k : Keeps e p q) : Keeps e p (done q).part := k

theorem command_keeps {f : Part → Answer} (each : ∀ p, Keeps e p (f p).part) (src : Node) (p : Part) :
    Keeps e p (command src f p) :=
  (consumeUp_calm p).keeps.trans ((each _).trans (reply_calm ..).keeps)

/-! ## Hoses that come to rest (R5, R21) -/

/-- The accounts where a hose's reservations went to its records or back. -/
theorem recordsFit_of_draws {p q : Part} (draws : p.Booked → q.Booked ∧ p.Draws q)
    (tanks : ∀ k, (q.tank k).quiet = (p.tank k).quiet) : p.RecordsFit → q.RecordsFit := by
  rintro ⟨reserved, room, delivery, fits⟩
  obtain ⟨⟨reserved', fits'⟩, placed, records, drawn⟩ := draws ⟨reserved, fits⟩
  refine ⟨reserved', ?_, fun t => ?_, fits'⟩
  · rw [records, List.length_append]; omega
  · rw [Tank.state_of_quiet (tanks t), Tank.delivery_of_quiet (tanks t)]; exact delivery t

theorem enterOut_eases (h : HoseNo) (p : Part) : Eases e p (enterOut h p) := by
  have rests : Eases e p (setMode h .out p) := modHose_eases (.of_rest rfl rfl fun _ _ => nofun)
  exact rests.trans ((sendValve_zero_calm h _).trans (sendLamp_calm ..)).eases

theorem enterOut_calm {h : HoseNo} {p : Part} (idle : (p.hose h).mode = .idle) : Calm e p (enterOut h p) := by
  have rests : Calm e p (setMode h .out p) := modHose_calm (.of_rest rfl rfl fun _ _ => nofun)
    ⟨fun t => by unfold Hose.opens; simp only [idle], by rw [idle]; rfl, fun _ => trivial⟩
  exact rests.trans ((sendValve_zero_calm h _).trans (sendLamp_calm ..))

theorem abandonSession_eases (h : HoseNo) (p : Part) : Eases e p (abandonSession h p) := by
  obtain ⟨-, same⟩ | ⟨s, -, -, same⟩ | ⟨s, r, -, -, same⟩ := abandonSession_cases h p <;> rw [same]
  · exact (Calm.refl p).eases
  · exact (release_eases ..).trans (enterOut_eases ..)
  · exact (endRun_eases ..).trans ((release_eases ..).trans (enterOut_eases ..))

theorem abandonSession_keeps (h : HoseNo) (p : Part) : Keeps e p (abandonSession h p) :=
  .of_eases (abandonSession_eases h p) (abandonSession_moves h p).openHosesAgree
    (recordsFit_of_draws (abandonSession_draws h) (abandonSession_quiet h p))

theorem closeMachine_calm (t : Transaction) (cause : EndCause) (p : Part) : Calm e p (closeMachine t cause p) := by
  obtain ⟨same, -⟩ | ⟨same, -⟩ := closeMachine_cases t cause p <;> rw [same]
  · exact modMachine_calm ..
  · exact (modMachine_calm ..).trans ((raise_calm ..).trans (modMachine_calm ..))

theorem leaveClosing_keeps (h : HoseNo) (p : Part) : Keeps e p (leaveClosing h p) := by
  cases c : (p.hose h).mode.isClosing with
  | false => rw [leaveClosing_of_not c]; exact .refl p
  | true =>
    obtain ⟨cause, ended, t, m⟩ := HoseMode.tally_of_closing c
    have closed : Eases e p (p.fillClosed h t cause ended) :=
      (placeReserved_eases ..).trans ((closeMachine_calm ..).eases.trans (modTank_eases (hoseClosed_eases _)))
    have E : Eases e p (leaveClosing h p) := by
      rw [leaveClosing_eq m]
      refine closed.trans ((modHose_eases ?_).trans (sendAll_calm (fun u mem => ?_) _).eases)
      · refine .of_rest rfl ?_ fun ph t => ?_
        · unfold Hose.freed; dsimp only; split <;> rfl
        · unfold Hose.freed; dsimp only; split <;> exact nofun
      · unfold Part.freedOrders at mem
        split at mem
        · exact (List.mem_append.1 mem).elim orderTo_zero lampTo_harmless
        · cases mem
    refine .of_eases E (leaveClosing_moves h p).openHosesAgree
      (recordsFit_hose h (fun _ ne => leaveClosing_hose_other ne p) (fun k => ?_) fun held _ room => ?_)
    · rw [leaveClosing_eq m, sendAll_tank, modHose_tank_keep, fillClosed_tank]; split <;> rfl
    · have freed : ((leaveClosing h p).hose h).mode = .out ∨ ((leaveClosing h p).hose h).mode = .idle := by
        rw [leaveClosing_hose_same c]; unfold Hose.freed; dsimp only; split <;> simp
      have records : (leaveClosing h p).records.length = p.records.length + 1 := by
        rw [leaveClosing_eq m]
        exact (congrArg List.length (fillClosed_records p h t cause ended)).trans (List.length_append ..)
      have reserved : (leaveClosing h p).reserved = p.reserved - 1 := by
        rw [leaveClosing_eq m]; exact fillClosed_reserved p h t cause ended
      rw [m] at held ⊢
      rw [records, reserved]
      have one : 1 ≤ p.reserved := held
      rcases freed with out | idle
      · rw [out]; exact ⟨trivial, show p.reserved - 1 + 1 = p.reserved + 0 by omega, by omega⟩
      · rw [idle]; exact ⟨trivial, show p.reserved - 1 + 1 = p.reserved + 0 by omega, by omega⟩

theorem setPendingOut_calm (h : HoseNo) (b : Bool) (p : Part) : Calm e p (setPendingOut h b p) :=
  modHose_calm_of_mode rfl rfl

theorem forceClose_keeps (h : HoseNo) (p : Part) : Keeps e p (forceClose h p) := by
  rw [forceClose_eq]
  exact (endRequest_keeps ..).trans ((leaveClosing_keeps ..).trans (setPendingOut_calm ..).keeps)

/-! ## The commands of hoses -/

theorem hoseOut_keeps (h : HoseNo) (p : Part) : Keeps e p (hoseOut h p).part := by
  unfold hoseOut
  split
  · exact (enterOut_calm ‹_›).keeps
  · exact (setPendingOut_calm ..).keeps
  · exact (endRequest_keeps ..).trans (setPendingOut_calm ..).keeps
  · exact .refl p
  · exact .refl p

theorem enterIn_calm {h : HoseNo} {p : Part} (out : (p.hose h).mode = .out) : Calm e p (enterIn h p) := by
  have rests : Calm e p (modHose h
      (fun x => { x with mode := .idle, uncoupled := 0, uncoupledRaised := false, pendingOut := false }) p) :=
    modHose_calm (.of_rest rfl rfl fun _ _ => nofun)
      ⟨fun t => by unfold Hose.opens; simp only [out], by rw [out]; rfl, fun _ => trivial⟩
  exact rests.trans (sendLamp_calm ..)

theorem hoseIn_keeps (h : HoseNo) (p : Part) : Keeps e p (hoseIn h p).part := by
  unfold hoseIn
  split
  · exact .refl p
  · exact .refl p
  · exact .refl p
  · split; exacts [(enterIn_calm ‹_›).keeps, .refl p]

theorem hoseService_keeps (hose form : Byte) (p : Part) : Keeps e p (hoseService hose form p).part := by
  refine withIndex_keeps (fun h q => ?_) p
  split
  · exact hoseOut_keeps h q
  · split; exacts [hoseIn_keeps h q, .refl q]

/-- A session is begun on a hose that is OUT, with a place for each of its runs. -/
theorem startSession_keeps {h : HoseNo} {runs : Nat} {p : Part} (out : (p.hose h).mode = .out)
    (room : p.canReserve runs = true) (can : Nat) : Keeps e p (startSession h runs can p) := by
  have rests : Eases e (reserve runs p)
      (setMode h (.proving { planned := runs, can := can, ended := [], run := none }) (reserve runs p)) :=
    modHose_eases (.of_rest rfl rfl fun _ _ same => by cases same)
  have E : Eases e p (startSession h runs can p) :=
    (reserve_eases runs p).trans (rests.trans (sendLamp_calm ..).eases)
  have begun (j : HoseNo) : (startSession h runs can p).hose j = if h = j then
      { p.hose j with mode := .proving { planned := runs, can := can, ended := [], run := none } } else p.hose j := by
    unfold startSession; rw [sendLamp_hose, setMode_eq, modHose_hose]; rfl
  have agree (k : TankNo) (j : HoseNo) : ((startSession h runs can p).hose j).opens k = (p.hose j).opens k := by
    rw [begun]; split
    · subst_vars; unfold Hose.opens; simp [out]
    · rfl
  have tanks (k : TankNo) : (startSession h runs can p).tank k = p.tank k := by
    unfold startSession; rw [sendLamp_tank]; rfl
  refine .of_eases E (fun a k => by simp only [tanks, agree]; exact a k)
    (recordsFit_hose h (fun j ne => by rw [begun, if_neg ne.symm]) (fun k => by rw [tanks]) fun _ _ _ => ?_)
  have free := (canReserve_iff ..).1 room
  have records : (startSession h runs can p).records = p.records := by unfold startSession; rw [sendLamp_records]; rfl
  have reserved : (startSession h runs can p).reserved = p.reserved + runs := by
    unfold startSession; rw [sendLamp_reserved]; rfl
  rw [begun, if_pos rfl, records, reserved, out]
  exact ⟨Nat.zero_le _, rfl, by omega⟩

theorem proveStart_keeps (args : Option (Byte × Byte × Long)) (p : Part) : Keeps e p (proveStartCommand args p).part := by
  refine withArgs_keeps (fun a q => withIndex_keeps (fun h q => ?_) q) p
  split
  · exact .refl q
  · split
    · exact .refl q
    · rename_i out
      split
      · exact .refl q
      · split
        · exact .refl q
        · split
          · exact .refl q
          · rename_i room
            exact startSession_keeps (by simpa using out) (by simpa using room) _

theorem takeResult_keeps {h : HoseNo} {s : Session} {p : Part} (m : (p.hose h).mode = .proving s) (k : Nat)
    (r : EndedRun) (x : RunResult) : Keeps e p (takeResult h s k r x p).part := by
  have resulted : Calm e p (setMode h (.proving { s with ended := s.ended.set (k - 1) { r with result := some x } }) p) := by
    refine modHose_calm ⟨rfl, ?_, fun _ _ => nofun⟩ ⟨fun t => ?_, ?_, ?_⟩
    · rw [m]; exact id
    · unfold Hose.opens; simp only [m]
    · simp only [m, HoseMode.promised, List.length_set]
    · simp only [m, HoseMode.SessionFits, List.length_set]; exact id
  exact (resulted.trans (creditTank_calm ..)).keeps

theorem proveResult_keeps (args : Option (Byte × Byte × Long)) (p : Part) :
    Keeps e p (proveResultCommand args p).part := by
  refine withArgs_keeps (fun a q => withIndex_keeps (fun h q => ?_) q) p
  split
  · split
    · exact .refl q
    · split
      · exact .refl q
      · split
        · exact .refl q
        · exact takeResult_keeps ‹_› ..
  · exact .refl q

/-- A session with no run in progress is dropped as an abandoned one is. -/
theorem dropSession_keeps {h : HoseNo} {s : Session} {p : Part} (m : (p.hose h).mode = .proving s) (run : s.run = none) :
    Keeps e p (dropSession h p) := by
  rw [dropSession_of_proving m, ← abandonSession_of_noRun m run]; exact abandonSession_keeps h p

theorem acceptSession_keeps {h : HoseNo} {s : Session} {p : Part} (m : (p.hose h).mode = .proving s) :
    Keeps e p (acceptSession h s p).part := by
  unfold acceptSession
  split
  · exact .refl p
  · rename_i run
    split
    · exact .refl p
    · rename_i ps position _
      have curve : Calm e p (modHose h (fun y => { y with cfg := y.cfg.putCurve ps }) p) := modHose_calm_of_mode rfl rfl
      dsimp only
      refine curve.keeps.trans (Keeps.trans (dropSession_keeps (s := s) ?_ (by simpa using run)) (raise_calm ..).keeps)
      rw [modHose_hose_same]; exact m

theorem proveEnd_keeps (hose form : Byte) (p : Part) : Keeps e p (proveEnd hose form p).part := by
  refine withIndex_keeps (fun h q => ?_) p
  split
  · split
    · exact acceptSession_keeps ‹_›
    · split
      · exact (abandonSession_keeps ..).trans (raise_calm ..).keeps
      · exact .refl q
  · exact .refl q

/-! ## The commands of tanks and zones -/

/-- A tank's state changes, but neither into RECEIVING nor out of it; one that goes OUT_OF_SERVICE has no open hose. -/
theorem setTankState_calm {t : TankNo} {st : TankState} {p : Part} (closed : st = .outOfService → (p.tank t).openHoses = 0)
    (receiving : st = .receiving ↔ (p.tank t).state = .receiving) : Calm e p (setTankState t st p) :=
  (modTank_calm_of_eases { closed := fun out => .inr (closed out) } rfl rfl receiving).trans (recoveryTest_calm ..)

theorem tankOut_keeps (t : TankNo) (p : Part) : Keeps e p (tankOut t p).part := by
  unfold tankOut
  split
  · exact .refl p
  · exact .refl p
  · rename_i service
    split
    · exact .refl p
    · rename_i shut
      have windows : Calm e p (modTank t (fun x => { x with loss := .none, rest := .none }) p) := modTank_calm {}
      refine (windows.trans (setTankState_calm (fun _ => ?_) ?_)).keeps
      · rw [modTank_tank_same]; simpa using shut
      · rw [modTank_tank_same]; simp [service]

theorem tankIn_keeps (t : TankNo) (p : Part) : Keeps e p (tankIn t p).part := by
  unfold tankIn
  split
  · exact .refl p
  · rename_i out
    split
    · have out : (p.tank t).state = .outOfService := by simpa using out
      have served : Calm e p (setTankState t .inService p) :=
        setTankState_calm (fun same => by cases same) (by simp [out])
      exact (served.trans (lowStockTest_calm ..)).keeps
    · exact .refl p

theorem tankService_keeps (tank form : Byte) (p : Part) : Keeps e p (tankService tank form p).part := by
  refine withIndex_keeps (fun t q => ?_) p
  split
  · exact tankOut_keeps t q
  · split; exacts [tankIn_keeps t q, .refl q]

theorem setStock_keeps (t : TankNo) (ml : Nat) {p : Part} (room : p.canReserve 1 = true) : Keeps e p (setStock t ml p) := by
  have booked : Calm e p (modTank t (fun x => { x with setPoint := ml, totals := {}, book := ml }) p) :=
    modTank_calm { balanced := fun _ => by simp [Tank.Balanced] }
  have room : (modTank t (fun x => { x with setPoint := ml, totals := {}, book := ml }) p).canReserve 1 = true := room
  exact booked.keeps.trans ((placeRecord_keeps _ room).trans
    ((lowStockTest_calm ..).trans (disturbWindows_calm ..)).keeps)

theorem stockSet_keeps (args : Option (Byte × Long)) (p : Part) : Keeps e p (stockSetCommand args p).part := by
  refine withArgs_keeps (fun a q => withIndex_keeps (fun t q => ?_) q) p
  dsimp only
  split
  · exact .refl q
  · split
    · exact .refl q
    · split
      · exact .refl q
      · split
        · exact .refl q
        · exact setStock_keeps t _ (by simpa using ‹¬(!q.canReserve 1) = true›)

end Sys2Proof.Machine
end

section
/-! The deliveries, the zones' commands, the responder's commands and the table window keep the promises. -/

namespace Sys2Proof.Machine

open Sys2Proof

variable {e : Option HoseNo}

/-! ## Deliveries (R85, R89) -/

/-- SET to the inlet of a tank whose zone is not TRIPPED. -/
theorem sendInlet_calm_of_free {t : TankNo} {p : Part} (free : p.tankTripped t = false) (code : Nat) :
    Calm e p (sendInlet t code p) := by
  rw [sendInlet_eq]
  refine .of_queued rfl fun u w => (sendAll_waits w).imp_right fun mem _ => orderTo_bars mem ?_
  unfold Part.tankTripped at free
  simp [Part.barsOrder, free]

theorem startDelivery_keeps {t : TankNo} {p : Part} (service : (p.tank t).state ≠ .receiving)
    (free : p.tankTripped t = false) (room : p.canReserve 1 = true) (declared : Nat) :
    Keeps e p (startDelivery t declared p) := by
  obtain ⟨d, started⟩ : ∃ d, startDelivery t declared p = sendInlet t 15 (disturbWindows t (setTankState t .receiving
      (modTank t (fun x => { x with delivery := some d }) (reserve 1 p)))) := ⟨_, rfl⟩
  have delivery : Eases e (reserve 1 p) (modTank t (fun x => { x with delivery := some d }) (reserve 1 p)) :=
    modTank_eases { closed := fun out => .inl ⟨out, le_rfl⟩ }
  have shown : Eases e p (disturbWindows t (setTankState t .receiving
      (modTank t (fun x => { x with delivery := some d }) (reserve 1 p)))) :=
    (reserve_eases 1 p).trans (delivery.trans ((setTankState_eases (by decide) _).trans (disturbWindows_calm ..).eases))
  have E : Eases e p (startDelivery t declared p) := by
    rw [started]
    exact shown.trans (sendInlet_calm_of_free (by rw [shown.tankTripped]; exact free) 15).eases
  have ledger : (startDelivery t declared p).ledger = p.ledger := by
    rw [started, sendInlet_ledger, disturbWindows_ledger, setTankState_ledger, modTank_ledger rfl, reserve_ledger]
  have tank (k : TankNo) : ((startDelivery t declared p).tank k).quiet =
      if t = k then { p.tank k with state := .receiving, delivery := some d }.quiet else (p.tank k).quiet := by
    rw [started, sendInlet_tank, disturbWindows, modTank_tank, setTankState_tank, modTank_tank]
    split <;> rfl
  have hose (h : HoseNo) : (startDelivery t declared p).hose h = p.hose h := by
    rw [started, sendInlet_hose]; exact setTankState_hose ..
  have own := tank t
  rw [if_pos rfl] at own
  refine .of_eases E (Moves.of_eq ledger).openHosesAgree (recordsFit_tank t (fun h => by rw [hose])
    (fun h => by rw [hose]; exact id) (fun k ne => by rw [tank, if_neg ne.symm]) ?_ fun _ was _ => ?_)
  · rw [Tank.state_of_quiet own, Tank.delivery_of_quiet own]; simp
  · have none : (p.tank t).delivery.isSome = false := by
      cases some_ : (p.tank t).delivery.isSome with
      | false => rfl
      | true => exact absurd (was.2 some_) service
    have records : (startDelivery t declared p).records = p.records := by
      rw [started, sendInlet_records]; exact recoveryTest_records ..
    have reserved : (startDelivery t declared p).reserved = p.reserved + 1 := by
      rw [started, sendInlet_reserved]; exact recoveryTest_reserved ..
    have free := (canReserve_one p).1 room
    have one : ((startDelivery t declared p).tank t).promised = 1 := by
      rw [Tank.promised_of_quiet own]; rfl
    rw [records, reserved, one, show (p.tank t).promised = 0 by simp [Tank.promised, none]]
    exact ⟨rfl, by omega⟩

theorem deliveryStart_keeps (args : Option (Byte × Word)) (p : Part) : Keeps e p (deliveryStartCommand args p).part := by
  refine withArgs_keeps (fun a q => withIndex_keeps (fun t q => ?_) q) p
  dsimp only
  split
  · exact .refl q
  split
  · exact .refl q
  split
  · exact .refl q
  rename_i service
  split
  · exact .refl q
  split
  · exact .refl q
  split
  · exact .refl q
  split
  · exact .refl q
  rename_i normal
  split
  · exact .refl q
  · rename_i room
    refine startDelivery_keeps service ?_ (by simpa using room) _
    unfold Part.tankTripped
    rw [show (q.zone (q.tank t).cfg.zone).state = .normal by simpa using normal]; rfl

theorem deliveryEnd_keeps (tank : Option Byte) (p : Part) : Keeps e p (deliveryEndCommand tank p).part := by
  refine withArgs_keeps (fun a q => withIndex_keeps (fun t q => ?_) q) p
  split
  · exact endDelivery_keeps ‹_› .deliveryEnd
  · exact .refl q

/-! ## Zones (R97, R103) -/

theorem tripZone_keeps (zone : Option Byte) (p : Part) : Keeps e p (tripZoneCommand zone p).part := by
  refine withArgs_keeps (fun a q => ?_) p
  have one : Keeps e q (withIndex 4 a (fun z r => done (tripSource .command z r)) q).part :=
    withIndex_keeps (fun z r => (tripSource_keeps _ z r).done) q
  split
  · exact (tripAll_keeps .command q).done
  · exact one

theorem tripReset_keeps (zone : Option Byte) (p : Part) : Keeps e p (tripResetCommand zone p).part := by
  refine withArgs_keeps (fun a q => withIndex_keeps (fun z q => ?_) q) p
  split
  · exact .refl q
  · split
    · exact .refl q
    · exact enterRecovery_keeps (by simpa using ‹¬q.resetBlocked z = true›)

/-! ## The commands of machines and of the responder -/

theorem machineState_keeps (slot : Word) (state : Byte) (p : Part) : Keeps e p (machineState slot state p).part := by
  refine withMachine_keeps (fun m q => ?_) p
  split
  · exact (modMachine_calm ..).keeps.done
  · split; exacts [(modMachine_calm ..).keeps.done, .refl q]

theorem serviceDone_keeps (args : Option (Word × Long)) (p : Part) : Keeps e p (serviceDoneCommand args p).part := by
  refine withArgs_keeps (fun a q => withMachine_keeps (fun m q => ?_) q) p
  split; exacts [.refl q, (modMachine_calm ..).keeps.done]

theorem take_keeps (serial : Option Word) (p : Part) : Keeps e p (takeCommand serial p).part := by
  unfold takeCommand
  cases serial with
  | none => exact .refl p
  | some w =>
    dsimp only
    unfold takeHead
    split
    · exact .refl p
    · rename_i r rest records
      split
      · have taken : Calm e p { p with records := rest } := Still.calm {} (by rw [records]; exact Nat.le_succ _)
        exact (taken.trans (headChanged_calm _)).keeps
      · exact .refl p

theorem stopTest_calm (p : Part) : Calm e p (stopTest p) := by
  unfold stopTest
  split
  · exact .refl p
  · rename_i t _
    have counted : Calm e p { p with counts := countMissing t p.counts, test := none } := Still.calm {}
    refine counted.trans (modPort_calm_of_fewer (fun _ _ w => ?_) .fp _)
    exact w.imp_left fun m => (List.mem_filter.1 m).1

theorem stopTestNoticed_calm (p : Part) : Calm e p (stopTestNoticed p) := by
  unfold stopTestNoticed; split; exacts [(stopTest_calm p).trans (raise_calm ..), .refl p]

theorem queueEcho_calm (t : LineTest) (p : Part) : Calm e p (queueEcho t p) := by
  have tested (u : LineTest) : Calm e p { p with test := some u } := Still.calm {}
  refine (tested (nextBytes t.length t).2).trans (modPort_calm (fun _ _ w => (Port.queueOrder_holds w).imp_right ?_) .fp _)
  intro same
  rw [same]
  exact harmless_of_kind (show kindEcho ≠ kindRun by decide) (show kindEcho ≠ kindSet by decide)

theorem lineTestStart_keeps (continuous : Bool) (args : Option (Byte × Byte × Byte × Byte × Byte)) (p : Part) :
    Keeps e p (lineTestStart continuous args p).part := by
  unfold lineTestStart
  split
  · exact .refl p
  · split
    · exact .refl p
    · split
      · exact .refl p
      · split
        · have zeroed : Calm e p { p with counts := {} } := Still.calm {}
          exact (zeroed.trans (queueEcho_calm ..)).keeps
        · exact .refl p

theorem lineTestStop_keeps (mode : Option Byte) (p : Part) : Keeps e p (lineTestStopCommand mode p).part := by
  unfold lineTestStopCommand; split; exacts [(stopTestNoticed_calm p).keeps, .refl p]

theorem bayMode_keeps (mode : Option Byte) (p : Part) : Keeps e p (bayModeCommand mode p).part := by
  have set (b : BayMode) (q : Part) : Calm e q { q with bayMode := b } := Still.calm {}
  refine withArgs_keeps (fun a q => ?_) p
  dsimp only
  split
  · show Keeps e q { (if q.bayMode = .layUp then stopTestNoticed q else q) with bayMode := .run }
    split
    · exact ((stopTestNoticed_calm q).trans (set ..)).keeps
    · exact (set ..).keeps
  · split
    · exact (set ..).keeps
    · split <;> exact .refl q

theorem switchProfile_calm (l : Letter) (p : Part) : Calm e p (switchProfile l p) := Still.calm {}

theorem profile_keeps (letter : Option Byte) (p : Part) : Keeps e p (profileCommand letter p).part := by
  refine withArgs_keeps (fun a q => ?_) p
  split
  · exact .refl q
  · split; exacts [.refl q, (switchProfile_calm ..).keeps]

theorem profileSource_keeps (source : Option Byte) (p : Part) : Keeps e p (profileSourceCommand source p).part := by
  have set (x : ProfileSource) (q : Part) : Calm e q { q with source := x } := Still.calm {}
  refine withArgs_keeps (fun a q => ?_) p
  split
  · exact ((set ..).trans (switchProfile_calm ..)).keeps
  · split; exacts [(set ..).keeps, .refl q]

theorem setRate_holds {r : BitVec 2} {q : Port} {u : Telegram} (w : (q.setRate r).Holds u) : q.Holds u := by
  unfold Port.setRate at w
  split at w
  · exact w
  · split at w <;> exact w

theorem lineRate_keeps (code : Option Byte) (p : Part) : Keeps e p (lineRateCommand code p).part := by
  refine withArgs_keeps (fun a q => ?_) p
  split
  · exact .refl q
  · exact (modPort_calm_of_fewer (f := Port.setRate (a.extractLsb' 0 2)) (fun _ _ => setRate_holds) .fp q).keeps.done

theorem counterSelect_keeps (args : Option (Byte × Byte)) (p : Part) : Keeps e p (counterSelectCommand args p).part := by
  refine withArgs_keeps (fun a q => withPort_keeps (fun i q => ?_) q) p
  split
  · refine (modPort_calm_of_fewer (fun _ _ w => ?_) i q).keeps.done
    exact w
  · exact .refl q

theorem counterRead_keeps (port : Option Byte) (p : Part) : Keeps e p (counterReadCommand port p).part := by
  refine withArgs_keeps (fun _ q => withPort_keeps (fun i q => ?_) q) p
  dsimp only
  refine (modPort_calm_of_fewer (fun _ _ w => ?_) i q).keeps
  exact w

theorem clockSet_keeps (seconds : Option Long) (p : Part) : Keeps e p (clockSetCommand seconds p).part :=
  withArgs_keeps (fun _ _ => (Still.calm {}).keeps) p

theorem noticeRead_keeps (p : Part) : Keeps e p (noticeReadCommand p).part := (Still.calm {}).keeps
theorem noticeMask_keeps (set : Option Word) (p : Part) : Keeps e p (noticeMaskCommand set p).part :=
  withArgs_keeps (fun _ _ => (Still.calm {}).keeps) p

/-! ## The table window (R168, R169) -/

theorem setCursor_keeps (c : Cursor) (p : Part) : Keeps e p { p with cursor := c } := (Still.calm {}).keeps

theorem window_keeps (args : Option (Byte × Word)) (p : Part) : Keeps e p (windowCommand args p).part := by
  refine withArgs_keeps (fun a q => ?_) p
  dsimp only
  split; exacts [setCursor_keeps _ q, .refl q]

theorem stepMode_keeps (mode : Option Byte) (p : Part) : Keeps e p (stepModeCommand mode p).part := by
  refine withArgs_keeps (fun a q => ?_) p
  dsimp only
  split
  · exact setCursor_keeps _ q
  · split
    · exact setCursor_keeps _ q
    · split; exacts [setCursor_keeps _ q, .refl q]

theorem read_keeps (n : Option Byte) (p : Part) : Keeps e p (readCommand n p).part := by
  refine withArgs_keeps (fun a q => ?_) p
  dsimp only
  split
  · exact .refl q
  · split
    · exact .refl q
    · dsimp only; split; exacts [setCursor_keeps _ q, .refl q]

end Sys2Proof.Machine
end

section
/-! The words of the table window keep the promises; those that matter are a hose's tank, a tank's zone and a node's
binding (R101, R115, R170, R171). -/

namespace Sys2Proof.Machine

open Sys2Proof

variable {e : Option HoseNo}

/-! ## What the cells of an entry apply -/

/-- Whatever a cell applies to the part keeps the promises. -/
def Cell.Keeping (p : Part) (c : Cell) : Prop :=
  match c.slot with
  | .shut _ => True
  | .one f => ∀ w q, f w p = .ok q → Keeps none p q
  | .lower => True
  | .upper f => ∀ w q, f w p = .ok q → Keeps none p q

/-- Whatever some cells apply to the part keeps the promises. -/
structure CellsKeep (p : Part) (cs : List Cell) : Prop where
  each : ∀ c ∈ cs, c.Keeping p

theorem CellsKeep.append {p : Part} {cs ds : List Cell} (hc : CellsKeep p cs) (hd : CellsKeep p ds) :
    CellsKeep p (cs ++ ds) := ⟨fun c mem => (List.mem_append.1 mem).elim (hc.each c) (hd.each c)⟩

theorem CellsKeep.flatMap {α : Type} {p : Part} {is : List α} {f : α → List Cell} (each : ∀ i, CellsKeep p (f i)) :
    CellsKeep p (is.flatMap f) := ⟨fun c mem => by
  obtain ⟨i, _, at_⟩ := List.mem_flatMap.1 mem
  exact (each i).each c at_⟩

theorem CellsKeep.gated {p : Part} {ok : Bool} {st : Status} {cs : List Cell} (open_ : ok = true → CellsKeep p cs) :
    CellsKeep p (gated ok st cs) := by
  cases ok with
  | true => exact open_ rfl
  | false =>
    refine ⟨fun c mem => ?_⟩
    obtain ⟨d, _, rfl⟩ := List.mem_map.1 mem
    trivial

theorem ro_keep (p : Part) (v : Word) : CellsKeep p (ro v) := ⟨fun c mem => by rw [List.mem_singleton.1 mem]; trivial⟩
theorem ro2_keep (p : Part) (v : Long) : CellsKeep p (ro2 v) := (ro_keep ..).append (ro_keep ..)
theorem rw1_keep {p : Part} {v : Word} {f : Word → Part → Except Status Part}
    (each : ∀ w q, f w p = .ok q → Keeps none p q) : CellsKeep p (rw1 v f) :=
  ⟨fun c mem => by rw [List.mem_singleton.1 mem]; exact each⟩
theorem rw2_keep {p : Part} {v : Long} {f : Long → Part → Except Status Part}
    (each : ∀ w q, f w p = .ok q → Keeps none p q) : CellsKeep p (rw2 v f) := ⟨fun c mem => by
  rcases List.mem_cons.1 mem with rfl | mem
  · trivial
  · rw [List.mem_singleton.1 mem]; exact each⟩

theorem within_keeps {ok : Bool} {f : Part → Part} {p q : Part} (calm : Calm none p (f p)) (took : within ok f p = .ok q) :
    Keeps none p q := by rw [within_ok took]; exact calm.keeps

theorem number_keep {p : Part} {v lo hi : Nat} {f : Nat → Part → Part} (calm : ∀ n, Calm none p (f n p)) :
    CellsKeep p (number v lo hi f) := rw1_keep fun _ _ => within_keeps (calm _)
theorem number2_keep {p : Part} {v lo hi : Nat} {f : Nat → Part → Part} (calm : ∀ n, Calm none p (f n p)) :
    CellsKeep p (number2 v lo hi f) := rw2_keep fun _ _ => within_keeps (calm _)
theorem zeroOnly_keep {p : Part} {v : Nat} {f : Part → Part} (calm : Calm none p (f p)) : CellsKeep p (zeroOnly v f) :=
  rw1_keep fun _ _ => within_keeps calm
theorem zeroOnly2_keep {p : Part} {v : Nat} {f : Part → Part} (calm : Calm none p (f p)) : CellsKeep p (zeroOnly2 v f) :=
  rw2_keep fun _ _ => within_keeps calm
theorem hourField_keep {p : Part} {v : Option Nat} {f : Option Nat → Part → Part} (calm : ∀ n, Calm none p (f n p)) :
    CellsKeep p (hourField v f) := rw2_keep fun _ _ took => by rw [← Except.ok.inj took]; exact (calm _).keeps
theorem set_keep {p : Part} {v : Word} {f : Word → Part → Part} (calm : ∀ w, Calm none p (f w p)) :
    CellsKeep p (rw1 v fun w p => .ok (f w p)) := rw1_keep fun _ _ took => by rw [← Except.ok.inj took]; exact (calm _).keeps

/-! ## Machines -/

theorem writeTag_keeps {m : SlotNo} {tag : Long} {p q : Part} (took : writeTag m tag p = .ok q) : Keeps e p q := by
  unfold writeTag at took
  split at took
  · cases took; exact .refl _
  · split at took
    · cases took
    · split at took
      · cases took; exact (modMachine_calm ..).keeps
      · split at took
        · cases took
        · cases took; exact (modMachine_calm ..).keeps

theorem machineEntry_keep (m : SlotNo) (p : Part) : CellsKeep p (machineEntry m (p.machine m)) := by
  have mod (f : MachineRec → MachineRec) : Calm none p (modMachine m f p) := modMachine_calm m f p
  unfold machineEntry
  repeat' with_reducible apply CellsKeep.append
  · exact rw2_keep fun w q took => writeTag_keeps took
  · exact ro_keep ..
  · exact rw1_keep fun w q => within_keeps (mod _)
  · exact .flatMap fun i => number_keep fun n => mod _
  · exact number2_keep fun n => mod _
  · exact number_keep fun n => mod _
  · exact hourField_keep fun n => mod _
  · exact hourField_keep fun n => mod _
  · exact number2_keep fun n => mod _
  · exact hourField_keep fun n => mod _
  · exact number_keep fun n => mod _
  · exact number_keep fun n => mod _
  · exact number_keep fun n => mod _
  · exact number2_keep fun n => mod _
  · exact number_keep fun n => mod _

/-! ## Hoses -/

/-- A hose that is OUT takes another tank: nothing of it is open. -/
theorem giveTank_keeps {h : HoseNo} {p : Part} (out : (p.hose h).mode = .out) (t : Option TankNo) :
    Keeps e p (giveTank h t p) := by
  obtain ⟨q, given⟩ : ∃ q, modHose h (fun x => { x with cfg := { x.cfg with tank := t }, straySet := {} }) p = q := ⟨_, rfl⟩
  have hose (j : HoseNo) (ne : j ≠ h) : q.hose j = p.hose j := by rw [← given, modHose_hose, if_neg ne.symm]
  have mode (j : HoseNo) : (q.hose j).mode = (p.hose j).mode := by rw [← given, modHose_hose]; split <;> rfl
  have tank (k : TankNo) : q.tank k = p.tank k := by rw [← given]; rfl
  have zone (z : ZoneNo) : q.zone z = p.zone z := by rw [← given]; rfl
  have device (n : DevNo) : q.device n = p.device n := by rw [← given]; rfl
  have waits (u : Telegram) : q.Waits u ↔ p.Waits u := by rw [← given]; rfl
  have zoneOf (j : HoseNo) (ne : j ≠ h) : q.hoseZone j = p.hoseZone j :=
    hoseZone_congr (by rw [hose j ne]) fun k => by rw [tank]
  have tripped (j : HoseNo) (ne : j ≠ h) : q.hoseTripped j = p.hoseTripped j :=
    hoseTripped_congr (zoneOf j ne) fun z => by rw [zone]
  have still : (q.hose h).mode = .out := (mode h).trans out
  have agree := (giveTank_moves out t).openHosesAgree
  have shut (s : p.Shut) : q.Shut := by
    refine ⟨fun j ph txn m => ?_, fun k state => ?_, fun j z at_ trip => ?_⟩
    · have ne : j ≠ h := fun same => by rw [same, still] at m; cases m
      rw [hose j ne] at m ⊢; exact s.own j ph txn m
    · rw [tank] at state ⊢; exact s.out k state
    · by_cases same : j = h
      · rw [same, still]; exact ⟨rfl, rfl⟩
      · rw [zoneOf j same] at at_
        rw [zone] at trip
        rw [mode]; exact s.tripped j z at_ trip
  have took : giveTank h t p = if q.hoseTripped h then dropBarred q else q := by unfold giveTank; rw [given]
  have after : Calm e q (giveTank h t p) := by
    rw [took]; split; exacts [dropBarred_calm q, .refl q]
  refine ⟨agree, fun b => after.eases.books fun k => ?_, fun f => after.stays.recordsFit ?_, fun s => after.eases.shut (shut s),
    fun s o => ?_, fun _ _ o => after.eases.overrun fun j ph txn ne m beyond => ?_⟩
  · rw [tank]; exact b k
  · exact recordsFit_hose h hose (fun k => by rw [tank]) (fun _ fits room => by
      rw [mode, ← given]; exact ⟨fits, rfl, room⟩) f
  · rw [took]
    split
    · exact dropBarred_held q
    · rename_i free
      rw [ordersHeld_iff] at o ⊢
      intro u w
      refine bars_mono (p := p) (fun j trip => ?_) (fun k trip => ?_) (fun n => by rw [device]) (o u ((waits u).1 w))
      · have ne : j ≠ h := fun same => free (by rw [← same]; exact trip)
        rw [tripped j ne] at trip; exact trip
      · unfold Part.tankTripped at trip ⊢
        rw [tank, zone] at trip; exact trip
  · have ne' : j ≠ h := fun same => by rw [same, still] at m; cases m
    rw [hose j ne'] at m
    rw [tripped j ne']; exact o j ph txn ne m beyond

theorem hoseEntry_keep (h : HoseNo) (p : Part) : CellsKeep p (hoseEntry h p) := by
  have kept {f : Hose → Hose} (mode : ∀ x, (f x).mode = x.mode) (tank : ∀ x, (f x).cfg.tank = x.cfg.tank) :
      Calm none p (modHose h f p) := modHose_calm_of_mode (mode _) (tank _)
  have cfg {f : HoseConfig → HoseConfig} (tank : ∀ x, (f x).tank = x.tank) : Calm none p (modConfig h f p) :=
    kept (fun _ => rfl) (fun _ => tank _)
  have point (i : Fin 6) (f : CurvePoint → CurvePoint) : Calm none p (modPoint h i f p) := cfg fun _ => rfl
  have step (i : Fin 4) (f : TaperStep → TaperStep) : Calm none p (modStep h i f p) := cfg fun _ => rfl
  have opens : CellsKeep p (openWords (p.hose h).mode) := by
    unfold openWords
    split
    · repeat' with_reducible apply CellsKeep.append
      all_goals first | exact ro_keep .. | exact ro2_keep ..
    · exact .flatMap fun i => ro_keep ..
  unfold hoseEntry hoseConfigWords
  dsimp only
  repeat' with_reducible apply CellsKeep.append
  · exact ro_keep ..
  · refine .gated fun out => rw1_keep fun w q took => ?_
    rw [within_ok took]
    exact giveTank_keeps (by simpa using out) _
  · exact ro_keep ..
  · exact ro_keep ..
  · exact ro_keep ..
  · refine .gated fun _ => ?_
    repeat' with_reducible apply CellsKeep.append
    · exact number2_keep fun n => cfg fun _ => rfl
    · exact number_keep fun n => cfg fun _ => rfl
    · exact number_keep fun n => cfg fun _ => rfl
    · exact number_keep fun n => cfg fun _ => rfl
    · exact number_keep fun n => cfg fun _ => rfl
    · exact number_keep fun n => cfg fun _ => rfl
    · exact number_keep fun n => cfg fun _ => rfl
    · exact .flatMap fun i => (set_keep fun w => point i _).append (number2_keep fun n => point i _)
    · exact number_keep fun n => cfg fun _ => rfl
    · exact .flatMap fun i => (number_keep fun n => step i _).append (number_keep fun n => step i _)
  · exact ro_keep ..
  · exact ro_keep ..
  · exact ro2_keep ..
  · exact zeroOnly2_keep (kept (fun _ => rfl) fun _ => rfl)
  · exact ro_keep ..
  · exact zeroOnly_keep (kept (fun _ => rfl) fun _ => rfl)
  · exact .flatMap fun i => zeroOnly_keep (kept (fun _ => rfl) fun _ => rfl)
  · exact opens

/-! ## Tanks -/

/-- A tank with no open hose has no fill. -/
theorem no_fill_of_closed {p : Part} (agree : p.OpenHosesAgree) {t : TankNo} (closed : (p.tank t).openHoses = 0) {h : HoseNo}
    {ph : Phase} {txn : Transaction} (m : (p.hose h).mode = .fill ph txn) : txn.tank ≠ t := by
  intro same
  have none : ((hoseNos.map fun h => (p.hose h).opens t).sum) = 0 := (agree t).symm.trans closed
  have zero : (p.hose h).opens t = 0 := List.sum_eq_zero_iff.1 none _ (List.mem_map.2 ⟨h, mem_hoseNos h, rfl⟩)
  simp [Hose.opens, m, same] at zero

section rezone
variable (p : Part) (t : TankNo) (z : ZoneNo)

/-- A tank whose zone field has changed. -/
def Part.rezoned : Part := modTankConfig t (fun c => { c with zone := z }) p

theorem rezoned_tank (k : TankNo) : (p.rezoned t z).tank k =
    if t = k then { p.tank k with cfg := { (p.tank k).cfg with zone := z } } else p.tank k := modTank_tank ..

theorem rezoned_rezoned : Rezoned p (p.rezoned t z) where
  tank k := by rw [rezoned_tank]; split <;> rfl

/-- The hoses of the tank are in the zone it has taken, and the others where they were. -/
theorem rezoned_hoseZone (h : HoseNo) : (p.rezoned t z).hoseZone h =
    if (p.hose h).cfg.tank = some t then some z else p.hoseZone h := by
  unfold Part.hoseZone
  rw [show (p.rezoned t z).hose h = p.hose h from rfl]
  cases own : (p.hose h).cfg.tank with
  | none => simp
  | some k =>
    by_cases same : k = t
    · subst same; simp [rezoned_tank]
    · simp [rezoned_tank, same, Ne.symm same]

theorem rezoned_hoseTripped (h : HoseNo) : (p.rezoned t z).hoseTripped h =
    if (p.hose h).cfg.tank = some t then (p.zone z).state == .tripped else p.hoseTripped h := by
  unfold Part.hoseTripped
  rw [rezoned_hoseZone]
  by_cases own : (p.hose h).cfg.tank = some t
  · rw [if_pos own, if_pos own]; rfl
  · rw [if_neg own, if_neg own]; rfl

theorem rezoned_overrun {p : Part} (agree : p.OpenHosesAgree) (s : p.Shut) {t : TankNo}
    (out : (p.tank t).state = .outOfService) {h : HoseNo} {ph : Phase} {txn : Transaction}
    (m : (p.hose h).mode = .fill ph txn) (trip : p.hoseTripped h = true) (z : ZoneNo) :
    (p.rezoned t z).hoseTripped h = true := by
  rw [rezoned_hoseTripped, if_neg, trip]
  rw [s.own h ph txn m]
  exact fun same => no_fill_of_closed agree (s.out t out) m (Option.some.inj same)

/-- The closing steps of R99 on a tank that has moved into a TRIPPED zone. -/
def Part.movedShut : Part :=
  dropBarred (shutOrders ((p.rezoned t z).tankHoses t) [t]
    (each ((p.rezoned t z).tankHoses t) (fun h => endRequest h .trip) (p.rezoned t z)))

theorem moveTank_eq (other : z ≠ (p.tank t).cfg.zone) : moveTank t z p = recoveryTest z (recoveryTest (p.tank t).cfg.zone
    (if (p.zone z).state = .tripped then p.movedShut t z else p.rezoned t z)) := by
  unfold moveTank; dsimp only; rw [if_neg other]; rfl

end rezone

theorem movedShut_keeps {p : Part} {t : TankNo} (out : (p.tank t).state = .outOfService) (z : ZoneNo) :
    Keeps e p (p.movedShut t z) := by
  have last (q : Part) : Calm e q (dropBarred (shutOrders ((p.rezoned t z).tankHoses t) [t] q)) :=
    (shutOrders_calm ..).trans (dropBarred_calm _)
  have E : Eases e (p.rezoned t z) (p.movedShut t z) := (endRequests_eases ..).trans (last _).eases
  have after : Keeps e (p.rezoned t z) (p.movedShut t z) :=
    (Keeps.each (fun _ _ => endRequest_keeps ..) _ _).trans (last _).keeps
  refine (rezoned_rezoned p t z).keeps E after.agree after.records (fun s _ h y zone state => ?_)
    (fun _ _ _ => dropBarred_held _) fun a s h ph txn m trip => rezoned_overrun a s out m trip z
  apply going_eq_false.1
  by_cases own : (p.hose h).cfg.tank = some t
  · exact (last _).eases.still h (endRequests_trip_still (mem_tankHoses.2 own) (tankHoses_nodup ..) _)
  · rw [E.hoseZone, rezoned_hoseZone, if_neg own] at zone
    rw [E.zone] at state
    exact E.still h (going_eq_false.2 (s.tripped h y zone state))

theorem rezoned_keeps {p : Part} {t : TankNo} (out : (p.tank t).state = .outOfService) {z : ZoneNo}
    (free : (p.zone z).state ≠ .tripped) : Keeps e p (p.rezoned t z) := by
  have up (h : HoseNo) (trip : (p.rezoned t z).hoseTripped h = true) : p.hoseTripped h = true := by
    rw [rezoned_hoseTripped] at trip
    split at trip
    · exact absurd (by simpa using trip) free
    · exact trip
  refine (rezoned_rezoned p t z).keeps (Calm.refl _).eases id id (fun s _ h y zone state => ?_) (fun s o _ => ?_)
    fun a s h ph txn m trip => rezoned_overrun a s out m trip z
  · rw [rezoned_hoseZone] at zone
    split at zone
    · cases zone; exact absurd state free
    · exact s.tripped h y zone state
  · rw [ordersHeld_iff] at o ⊢
    refine fun u w => bars_mono (p := p) up (fun k trip => ?_) (fun _ => rfl) (o u w)
    unfold Part.tankTripped at trip ⊢
    rw [rezoned_tank] at trip
    split at trip
    · exact absurd (beq_iff_eq.1 trip) free
    · exact trip

/-- A tank that is OUT_OF_SERVICE moves into another zone. -/
theorem moveTank_keeps {p : Part} {t : TankNo} (out : (p.tank t).state = .outOfService) (z : ZoneNo) :
    Keeps e p (moveTank t z p) := by
  by_cases other : z = (p.tank t).cfg.zone
  · rw [show moveTank t z p = p by unfold moveTank; exact if_pos other]; exact .refl p
  · rw [moveTank_eq p t z other]
    refine Keeps.trans ?_ ((recoveryTest_calm ..).trans (recoveryTest_calm ..)).keeps
    split
    · exact movedShut_keeps out z
    · exact rezoned_keeps out ‹_›

theorem modTankConfig_calm {t : TankNo} {f : TankConfig → TankConfig} {p : Part}
    (zone : (f (p.tank t).cfg).zone = (p.tank t).cfg.zone) : Calm e p (modTankConfig t f p) :=
  modTank_calm { zone := zone }

theorem tankEntry_keep (t : TankNo) (p : Part) : CellsKeep p (tankEntry t p) := by
  have zone (out : (p.tank t).state = .outOfService) (w : Word) (q : Part) (took : writeZone t w p = .ok q) :
      Keeps none p q := by
    unfold writeZone at took
    split at took
    · cases took; exact moveTank_keeps out _
    · cases took
  have delivery : CellsKeep p (deliveryWords (p.tank t).delivery) := by
    unfold deliveryWords
    split
    all_goals
      repeat' with_reducible apply CellsKeep.append
      all_goals first | exact ro_keep .. | exact ro2_keep ..
  unfold tankEntry tankConfigWords
  dsimp only
  repeat' with_reducible apply CellsKeep.append
  case hd => exact ro_keep ..
  all_goals first | exact ro_keep .. | exact ro2_keep .. | exact delivery | skip
  refine .gated fun out => ?_
  repeat' with_reducible apply CellsKeep.append
  · exact number_keep fun n => modTankConfig_calm rfl
  · exact rw1_keep (zone (by simpa using out))
  · exact number2_keep fun n => modTankConfig_calm rfl
  · exact number_keep fun n => modTankConfig_calm rfl
  · exact number2_keep fun n => modTankConfig_calm rfl
  · exact number_keep fun n => modTankConfig_calm rfl
  · exact number_keep fun n => modTankConfig_calm rfl
  · exact number_keep fun n => modTankConfig_calm rfl
  · exact number_keep fun n => modTankConfig_calm rfl

theorem strapEntry_keep (t : TankNo) (p : Part) : CellsKeep p (strapEntry t (p.tank t)) := by
  have strap (i : Fin 32) (f : StrapPoint → StrapPoint) : Calm none p (modStrap t i f p) := modTankConfig_calm rfl
  exact .gated fun _ => (number_keep fun n => modTankConfig_calm rfl).append
    (.flatMap fun i => (number_keep fun n => strap i _).append (number2_keep fun n => strap i _))

/-! ## Devices (R114, R115) -/

theorem rebindOwner_calm (b : Binding) (p : Part) : Calm e p (rebindOwner b p) := by
  unfold rebindOwner
  cases b with
  | meter h => exact modHose_calm_of_mode rfl rfl
  | reader h => exact modHose_calm_of_mode rfl rfl
  | valve h => exact modHose_calm_of_mode rfl rfl
  | starter t => exact modPump_calm ..
  | inlet t => exact modTank_calm {}
  | gauge t => exact disturbWindows_calm t p
  | _ => exact .refl p

/-- What is bound is either of no TRIPPED zone, or nothing barred goes on waiting. -/
theorem holdTaken_cases (b : Binding) (p : Part) : holdTaken b p = dropBarred p ∨
    holdTaken b p = p ∧ ∀ kind value, p.barsOrder kind value b = false := by
  cases b with
  | valve h =>
    cases trip : p.hoseTripped h with
    | true => left; simp [holdTaken, trip]
    | false => right; simp [holdTaken, trip, Part.barsOrder]
  | starter t | inlet t =>
    by_cases trip : (p.zone (p.tank t).cfg.zone).state = .tripped
    · left; simp [holdTaken, trip]
    · right; simp [holdTaken, trip, Part.barsOrder]
  | _ => exact .inr ⟨rfl, fun _ _ => rfl⟩

/-- A node is bound to another pair; what waits for it is looked at. -/
theorem rebound_keeps (n : DevNo) (old b : Binding) (p : Part) : Keeps e p (holdTaken b (rebindOwner b (rebindOwner old
    (modDevice n (fun d => d.rebound b) (modPort .fp (Port.dropOrders (nodeOf n)) p))))) := by
  obtain ⟨q, bound⟩ : ∃ q, modDevice n (fun d => d.rebound b) (modPort .fp (Port.dropOrders (nodeOf n)) p) = q := ⟨_, rfl⟩
  have hose (h : HoseNo) : q.hose h = p.hose h := by rw [← bound]; rfl
  have tank (t : TankNo) : q.tank t = p.tank t := by rw [← bound]; rfl
  have zone (z : ZoneNo) : q.zone z = p.zone z := by rw [← bound]; rfl
  have device (m : DevNo) : (q.device m).binding = if n = m then b else (p.device m).binding := by
    rw [← bound, modDevice_device]; split <;> rfl
  have waits (u : Telegram) (w : q.Waits u) : p.Waits u := by
    rw [← bound] at w
    exact w.imp_right fun w => w.imp_left fun m => (List.mem_filter.1 m).1
  rw [bound]
  have zoneOf (h : HoseNo) : q.hoseZone h = p.hoseZone h := hoseZone_congr (by rw [hose]) fun k => by rw [tank]
  have tripped (h : HoseNo) : q.hoseTripped h = p.hoseTripped h := hoseTripped_congr (zoneOf h) fun z => by rw [zone]
  have told : Calm e q (rebindOwner b (rebindOwner old q)) := (rebindOwner_calm ..).trans (rebindOwner_calm ..)
  have E : Calm e q (holdTaken b (rebindOwner b (rebindOwner old q))) := by
    obtain same | ⟨same, -⟩ := holdTaken_cases b (rebindOwner b (rebindOwner old q)) <;> rw [same]
    · exact told.trans (dropBarred_calm _)
    · exact told
  have shut (s : p.Shut) : q.Shut := by
    refine ⟨fun h ph t m => ?_, fun t out => ?_, fun h z at_ trip => ?_⟩
    · rw [hose] at m ⊢; exact s.own h ph t m
    · rw [tank] at out ⊢; exact s.out t out
    · rw [zoneOf] at at_; rw [zone] at trip; rw [hose]; exact s.tripped h z at_ trip
  refine ⟨fun a => E.stays.agree fun t => ?_, fun a => E.eases.books fun t => ?_, fun f => E.stays.recordsFit ?_,
    fun s => E.eases.shut (shut s), fun s o => ?_, fun _ _ o => E.eases.overrun fun h ph t ne m beyond => ?_⟩
  · simp only [tank, hose]; exact a t
  · rw [tank]; exact a t
  · exact recordsFit_hose 0 (fun j _ => hose j) (fun k => by rw [tank]) (fun _ fits room => by
      rw [hose, ← bound]; exact ⟨fits, rfl, room⟩) f
  · obtain same | ⟨same, free⟩ := holdTaken_cases b (rebindOwner b (rebindOwner old q)) <;> rw [same]
    · exact dropBarred_held _
    · rw [ordersHeld_iff] at o ⊢
      intro u w
      rcases told.eases.waits u w with w | held
      · by_contra no
        obtain ⟨value, rest, m, pay, reach, bars⟩ := (bars_iff _ u).1 (by simpa using no)
        rw [told.eases.binding, device] at bars
        split at bars
        · rw [free] at bars; cases bars
        · have barred : p.bars u = true := (bars_iff p u).2 ⟨value, rest, m, pay, reach, barsOrder_mono
            (fun h trip => by rwa [told.eases.hoseTripped, tripped] at trip)
            (fun t trip => by
              rw [told.eases.tankTripped] at trip
              unfold Part.tankTripped at trip ⊢
              rwa [tank, zone] at trip) bars⟩
          rw [o u (waits u w)] at barred; cases barred
      · exact told.eases.bars.2 (held (shut s))
  · rw [hose] at m; rw [tripped]; exact o h ph t ne m beyond

theorem bindDevice_keeps {n : DevNo} {role object : Nat} {p q : Part} (took : bindDevice n role object p = .ok q) :
    Keeps e p q := by
  unfold bindDevice at took
  split at took
  · cases took
  · split at took
    · cases took
    · dsimp only at took
      split at took
      · cases took; exact .refl _
      · split at took
        · cases took
        · split at took
          · cases took
          · split at took
            · cases took
            · cases took; exact rebound_keeps ..

/-! ## Every table -/

theorem profileEntry_keep (l : Letter) (p : Part) (x : Profile) : CellsKeep p (profileEntry l x) := by
  have mod (f : Profile → Profile) : Calm none p (modProfile l f p) := by cases l <;> exact Still.calm {}
  refine .append (.append (.append (.append (.append ?_ ?_) ?_) ?_) ?_) (set_keep fun w => mod _) <;>
    exact number_keep fun n => mod _

theorem productEntry_keep (i : ProductNo) (p : Part) (x : Product) (used : Bool) : CellsKeep p (productEntry i x used) := by
  have mod (f : Product → Product) : Calm none p (modProduct i f p) := Still.calm {}
  refine .gated fun _ => .append (.append (.append (rw1_keep fun w q took => ?_) (number_keep fun n => mod _))
    (rw1_keep fun w q => within_keeps (mod _))) (ro_keep ..)
  unfold writeClass at took
  split at took
  · cases took; exact (mod _).keeps
  · cases took

theorem ruleEntry_keep (r : RuleNo) (p : Part) (x : PassRule) : CellsKeep p (ruleEntry r x) := by
  have mod (f : PassRule → PassRule) : Calm none p (modRule r f p) := Still.calm {}
  refine .append (.append (.append (.append (rw1_keep fun w q took => ?_) (set_keep fun w => mod _))
    (rw1_keep fun w q => within_keeps (mod _))) (ro_keep ..)) (zeroOnly_keep (Still.calm {}))
  unfold writeRuleHead at took
  split at took
  · cases took; exact (mod _).keeps
  · cases took

theorem deviceEntry_keep (n : DevNo) (p : Part) : CellsKeep p (deviceEntry n (p.device n)) := by
  have mod {f : Device → Device} (binding : ∀ d, (f d).binding = d.binding) : Calm none p (modDevice n f p) :=
    modDevice_calm (binding _)
  exact .append (.append (.append (.append (rw1_keep fun w q took => bindDevice_keeps took)
    (set_keep fun w => mod fun _ => rfl)) (ro_keep ..)) (zeroOnly_keep (mod fun _ => rfl))) (ro_keep ..)

theorem filterEntry_keep (p : Part) (x : FilterEntry) : CellsKeep p (filterEntry x) := by
  have mod (f : FilterEntry) : Calm none p { p with filter := f } := Still.calm {}
  exact .append (.append (.append (set_keep fun w => mod _) (zeroOnly_keep (mod _))) (zeroOnly_keep (mod _))) (ro_keep ..)

theorem zoneEntry_keep (z : ZoneNo) (p : Part) (x : Zone) : CellsKeep p (zoneEntry z x) := by
  have mod {f : Zone → Zone} (state : ∀ y, (f y).state = y.state) : Calm none p (modZone z f p) :=
    modZone_calm (by rw [state])
  exact .append (.append (.append (.append (.append (.append (.append (ro_keep ..) (ro_keep ..)) (ro2_keep ..))
    (ro_keep ..)) (zeroOnly_keep (mod fun _ => rfl))) (number_keep fun n => mod fun _ => rfl)) (ro_keep ..)) (ro_keep ..)

theorem cells_keep (sel : Selection) (p : Part) : CellsKeep p (cells sel p) := by
  cases sel with
  | machine m => exact machineEntry_keep m p
  | hose h => exact hoseEntry_keep h p
  | tank t => exact tankEntry_keep t p
  | strap t => exact strapEntry_keep t p
  | product i => exact productEntry_keep i p _ _
  | device n => exact deviceEntry_keep n p
  | rule r => exact ruleEntry_keep r p _
  | filter => exact filterEntry_keep p _
  | profileA => exact profileEntry_keep .a p _
  | profileB => exact profileEntry_keep .b p _
  | recordHead => exact .flatMap fun v => ro_keep ..
  | zone z => exact zoneEntry_keep z p _

theorem writeWord_keeps {sel : Selection} {k : Nat} {w : Word} {p q : Part} (took : writeWord sel k w p = .ok q) :
    Keeps none p q := by
  unfold writeWord at took
  split at took
  · cases took; exact .refl _
  · rename_i c at_
    have kept := (cells_keep sel p).each c (List.mem_of_getElem? at_)
    unfold Cell.Keeping at kept
    split at took
    · cases took
    · rename_i f slot; rw [slot] at kept; exact kept _ _ took
    · cases took; exact setCursor_keeps ..
    · rename_i f slot; rw [slot] at kept; exact kept _ _ took

theorem writeWords_keeps (sel : Selection) (ws : List Word) (k pos : Nat) (p : Part) :
    Keeps none p (writeWords sel ws k pos p).1 := by
  induction ws generalizing k pos p with
  | nil => exact .refl p
  | cons w rest ih =>
    unfold writeWords
    split
    · exact (writeWord_keeps ‹_›).trans (ih ..)
    · exact ih ..

theorem write_keeps (data : List Byte) (p : Part) : Keeps none p (writeCommand data p).part := by
  have words := writeWords_keeps p.cursor.sel (wholeWords data) p.cursor.offset 1 p
  unfold writeCommand
  dsimp only
  split
  · exact .refl p
  · split; exacts [words, words.trans (setCursor_keeps ..)]

end Sys2Proof.Machine
end

section
/-! RESTART, the resets, the ports and the timers keep the promises; so does every step. -/

namespace Sys2Proof.Machine

open Sys2Proof

variable {e : Option HoseNo}

/-! ## RESTART (R175) -/

theorem restartEnds_keeps (p : Part) : Keeps e p (restartEnds p) :=
  (Keeps.each forceClose_keeps ..).trans ((Keeps.each restartDelivery_keeps ..).trans (.each abandonSession_keeps ..))

/-- The tanks of an idle bay are put at rest. -/
theorem quietTanks_keeps {p : Part} (idle : ∀ h, (p.hose h).stake = {}) : Keeps e p (each tankNos quietTank p) := by
  have quieted (t : TankNo) (q : Part) : Eases e q (quietTank t q) :=
    (modTank_eases (f := fun x => { x with loss := .none, rest := .none, openHoses := 0 }) { closed := fun _ => .inr rfl }).trans
      (modPump_calm ..).eases
  have records : (each tankNos quietTank p).records = p.records :=
    each_keep_mem (·.records) quietTank tankNos (fun _ _ _ => rfl) p
  have reserved : (each tankNos quietTank p).reserved = p.reserved :=
    each_keep_mem (·.reserved) quietTank tankNos (fun _ _ _ => rfl) p
  refine .of_eases (each_invariant (Eases e p) _ _ (fun t _ q E => E.trans (quieted t q)) (Calm.refl p).eases)
    (quietTanks_moves idle).openHosesAgree (recordsFit_hose 0 (fun _ _ => quietTanks_hose ..) (fun k => ?_)
      fun _ fits room => ?_)
  · rw [quietTanks_tank]; rfl
  · rw [quietTanks_hose, records, reserved]; exact ⟨fits, rfl, room⟩

theorem closingOrders_calm (p : Part) : Calm e p (closingOrders p) :=
  (Calm.each sendValve_zero_calm ..).trans ((Calm.each sendInlet_zero_calm ..).trans (.each sendRun_zero_calm ..))

theorem resetCursor_calm (p : Part) : Calm e p (resetCursor p) := by
  have zeroed (q : PortId) (r : Part) : Calm e r (modPort q (fun x => { x with count := 0 }) r) := by
    refine modPort_calm_of_fewer (fun _ _ w => ?_) q r
    exact w
  have cursor (c : Cursor) (r : Part) : Calm e r { r with cursor := c } := Still.calm {}
  exact ((zeroed .up p).trans (zeroed .fp _)).trans (cursor _ _)

theorem restartEffects_keeps (p : Part) : Keeps e p (restartEffects p) := by
  rw [restartEffects_eq]
  have rests (h : HoseNo) : (({ stopTest (restartEnds p) with bayMode := .layUp } : Part).hose h).stake = {} := by
    rw [setBayMode_hose, stopTest_hose, restartEnds_hose]
    exact stake_idle (Hose.forced_abandoned_rests _)
  have mode (q : Part) : Calm e q { q with bayMode := .layUp } := Still.calm {}
  exact (restartEnds_keeps p).trans (((stopTest_calm _).trans (mode _)).keeps.trans ((quietTanks_keeps rests).trans
    ((closingOrders_calm _).trans (resetCursor_calm _)).keeps))

theorem restartCommand_keeps (src : Node) (p : Part) : Keeps e p (restartCommand src p) :=
  ((consumeUp_calm p).trans (reply_calm ..)).keeps.trans (restartEffects_keeps _)

/-! ## The resets (R110) -/

/-- The state after a reset promises nothing, and nothing is open in it. -/
theorem atReset_keeps (node : Node) (rate : BitVec 2) (high : Bool) (n : Nat) (p : Part) :
    Keeps none p { Part.atReset node rate high with freeUses := n } := by
  obtain ⟨q, reset⟩ : ∃ q : Part, ({ Part.atReset node rate high with freeUses := n } : Part) = q := ⟨_, rfl⟩
  have hose (h : HoseNo) : q.hose h = Hose.atReset := by rw [← reset]; simp [Part.hose, Part.atReset]
  have tank (t : TankNo) : q.tank t = Tank.atReset := by rw [← reset]; simp [Part.tank, Part.atReset]
  rw [reset]
  refine ⟨fun _ t => ?_, fun _ t => ?_, fun _ => ⟨?_, ?_, fun t => ?_, fun h => ?_⟩, fun _ => ⟨fun h ph t m => ?_, fun t _ => ?_,
    fun h z _ _ => ?_⟩, fun _ _ => ?_, fun _ _ _ h ph t _ m => ?_⟩
  · simp [tank, hose, Tank.atReset, Hose.atReset, Hose.opens, hoseNos]
  · rw [tank]; simp [Tank.atReset, Tank.Balanced]
  · rw [promised_eq, ← reset]; simp [HoseMode.promised, Tank.promised]; rfl
  · rw [← reset]; simp [Part.atReset]
  · rw [tank]; simp [Tank.atReset]
  · rw [hose]; trivial
  · rw [hose] at m; cases m
  · rw [tank]; rfl
  · rw [hose]; exact ⟨rfl, rfl⟩
  · rw [ordersHeld_iff]
    intro u w
    rw [← reset] at w
    simp [Part.Waits, Port.Holds, Part.atReset, Port.atReset] at w
  · rw [hose] at m; cases m

theorem powerUp_keeps (node : Node) (rate : BitVec 2) (high : Bool) (p : Part) : Keeps none p (powerUp node rate high p) :=
  (atReset_keeps ..).trans (Calm.each (fun z => raise_calm (.trip z)) zoneNos _).keeps

/-! ## The ports (R127, R137, R138) -/

theorem quiet_holds {q : Port} {u : Telegram} (w : q.quiet.Holds u) : q.Holds u := by
  unfold Port.quiet at w; split at w <;> exact w

theorem startBit_holds {d : Byte} {q : Port} {u : Telegram} (w : (q.startBit d).Holds u) : q.Holds u := by
  unfold Port.startBit at w
  split at w
  · exact w
  · split at w
    · exact w
    · dsimp only at w
      split at w
      · have held := (Port.counted_holds ..).1 w
        exact held
      · exact w
    · dsimp only at w
      split at w
      · have held := (Port.counted_holds ..).1 w
        exact held
      · exact w

theorem sendHead_holds {q : Port} {u : Telegram} (w : q.sendHead.Holds u) : q.Holds u := by
  unfold Port.sendHead at w
  split at w
  · split at w
    · rename_i own
      exact w.imp_left fun m => by rw [own]; exact List.mem_cons_of_mem _ m
    · rename_i forwarded
      exact w.imp_right fun m => by rw [forwarded]; exact List.mem_cons_of_mem _ m
    · exact w
  · exact w

theorem sent_holds {ours : Bool} {q : Port} {u : Telegram} (w : (q.sent ours).Holds u) : q.Holds u := by
  unfold Port.sent at w
  dsimp only at w
  split at w
  · have held := (Port.counted_holds ..).1 w
    exact held
  · exact w

theorem sendEnd_calm (port : PortId) (p : Part) : Calm e p (sendEnd port p) := by
  unfold sendEnd
  split
  · exact .refl p
  · rename_i f _
    have gone : Calm e p (modPort port (Port.sent f.ours) p) := modPort_calm_of_fewer (fun _ _ => sent_holds) port p
    dsimp only
    split
    · exact gone.trans (Still.calm {})
    · exact gone

/-! ## The timers -/

theorem idleExpiry_keeps (h : HoseNo) (p : Part) : Keeps e p (idleExpiry h p) := by
  unfold idleExpiry; split; exacts [endRequest_keeps .., .refl p]

theorem confirmExpiry_keeps (h : HoseNo) (p : Part) : Keeps e p (confirmExpiry h p) := by
  unfold confirmExpiry; split; exacts [endRequest_keeps .., .refl p]

theorem pauseExpiry_calm (h : HoseNo) (p : Part) : Calm e p (pauseExpiry h p) := by
  unfold pauseExpiry
  split
  · exact setMode_fill_calm ‹_› rfl id fun _ => rfl
  · exact .refl p

theorem settleExpiry_calm (t : TankNo) (p : Part) : Calm e p (settleExpiry t p) := modTank_calm {}

theorem recoveryExpiry_calm (z : ZoneNo) (p : Part) : Calm e p (recoveryExpiry z p) := by
  unfold recoveryExpiry
  split
  · exact (modZone_calm Iff.rfl).trans (recoveryTest_calm ..)
  · exact .refl p

theorem clockTick_calm (p : Part) : Calm e p (clockTick p) := by
  have tick : Calm e p { p with clock := p.clock + 1 } := Still.calm {}
  exact tick.trans (.each (fun z _ => modZone_calm Iff.rfl) _ _)

theorem gapExpiry_calm (p : Part) : Calm e p (gapExpiry p) := by
  unfold gapExpiry
  split
  · exact .refl p
  · rename_i t _
    split
    · split
      · have counted : Calm e p { p with counts := countMissing t p.counts } := Still.calm {}
        exact counted.trans (queueEcho_calm ..)
      · exact Still.calm {}
    · exact .refl p

theorem waitExpiry_calm (p : Part) : Calm e p (waitExpiry p) := by
  unfold waitExpiry
  split
  · exact .refl p
  · rename_i t _
    split
    · have counted : Calm e p { p with counts := countMissing t p.counts } := Still.calm {}
      exact counted.trans (finishTest_calm _)
    · exact .refl p

theorem profileLine_calm (high : Bool) (p : Part) : Calm e p (profileLine high p) := by
  have level : Calm e p { p with profileHigh := high } := Still.calm {}
  unfold profileLine
  split
  · exact .refl p
  · dsimp only; split; exacts [level.trans (switchProfile_calm ..), level]

/-! ## The commands by their rows, and the telegrams of the upstream line -/

theorem runCommand_keeps (i : Instr) (p : Part) : Keeps none p (runCommand i p) := by
  cases i <;> unfold runCommand
  case window src a => exact command_keeps (window_keeps a) src p
  case stepMode src a => exact command_keeps (stepMode_keeps a) src p
  case read src a => exact command_keeps (read_keeps a) src p
  case write src d => exact command_keeps (write_keeps d) src p
  case bayMode src a => exact command_keeps (bayMode_keeps a) src p
  case profile src a => exact command_keeps (profile_keeps a) src p
  case profileSource src a => exact command_keeps (profileSource_keeps a) src p
  case clockSet src a => exact command_keeps (clockSet_keeps a) src p
  case lineRate src a => exact command_keeps (lineRate_keeps a) src p
  case counterSelect src a => exact command_keeps (counterSelect_keeps a) src p
  case counterRead src a => exact command_keeps (counterRead_keeps a) src p
  case stockSet src a => exact command_keeps (stockSet_keeps a) src p
  case deliveryStart src a => exact command_keeps (deliveryStart_keeps a) src p
  case deliveryEnd src a => exact command_keeps (deliveryEnd_keeps a) src p
  case tripZone src a => exact command_keeps (tripZone_keeps a) src p
  case tripReset src a => exact command_keeps (tripReset_keeps a) src p
  case hoseServiceOut src a => exact command_keeps (withArgs_keeps fun _ => hoseService_keeps _ _) src p
  case hoseServiceIn src h => exact command_keeps (hoseService_keeps h 1) src p
  case tankServiceIn src t => exact command_keeps (tankService_keeps t 1) src p
  case tankServiceOut src a => exact command_keeps (withArgs_keeps fun _ => tankService_keeps _ _) src p
  case machineStateBarred src m => exact command_keeps (machineState_keeps m 1) src p
  case machineStateOpen src a => exact command_keeps (withArgs_keeps fun _ => machineState_keeps _ _) src p
  case serviceDone src a => exact command_keeps (serviceDone_keeps a) src p
  case take src a => exact command_keeps (take_keeps a) src p
  case noticeRead src => exact command_keeps noticeRead_keeps src p
  case noticeMask src a => exact command_keeps (noticeMask_keeps a) src p
  case topNotice src => exact command_keeps (fun q => .refl q) src p
  case proveStart src a => exact command_keeps (proveStart_keeps a) src p
  case proveResult src a => exact command_keeps (proveResult_keeps a) src p
  case proveEndAccept src a => exact command_keeps (withArgs_keeps fun _ => proveEnd_keeps _ _) src p
  case proveEndAbandon src h => exact command_keeps (proveEnd_keeps h 1) src p
  case lineTestSingle src a => exact command_keeps (lineTestStart_keeps false a) src p
  case lineTestContinuous src a => exact command_keeps (lineTestStart_keeps true a) src p
  case lineTestRead src => exact command_keeps (fun q => .refl q) src p
  case lineTestStop src a => exact command_keeps (lineTestStop_keeps a) src p
  case restart src => exact restartCommand_keeps src p
  case commandUnknown src => exact command_keeps (fun q => .refl q) src p
  all_goals exact .refl p

theorem upTelegram_keeps (t : Telegram) (p : Part) : Keeps none p (upTelegram t p) := by
  unfold upTelegram takeUp offerUp
  split
  · split; exacts [runCommand_keeps .., (consumeUp_calm p).keeps]
  · exact ((heardEnd_calm .up p).trans (offer_calm ..)).keeps

theorem telegramEnd_keeps (q : PortId) (heard : List RxChar) (p : Part) : Keeps none p (telegramEnd q heard p) := by
  have counted (c : PortEvent) : Calm none p (countEvent q c (modPort q Port.heardEnd p)) :=
    (heardEnd_calm q p).trans (countEvent_calm ..)
  unfold telegramEnd
  split
  · exact (counted _).keeps
  · exact (counted _).keeps
  · split; exacts [upTelegram_keeps .., fieldTelegram_keeps ..]

/-! ## Every step -/

theorem outcome_keeps {f : Part → Part} (keeps : ∀ p, Keeps none p (f p)) {s t : State} (same : outcome f s = .next t) :
    Keeps none s.toPart t.toPart := by cases same; exact keeps _

theorem exec_keeps (i : Instr) {s t : State} (same : exec i s = .next t) : Keeps none s.toPart t.toPart := by
  have command : ∀ p, Keeps none p (runCommand i p) := runCommand_keeps i
  cases i
  case powerOn => exact outcome_keeps (powerUp_keeps _ _ _) same
  case resetLine => exact outcome_keeps (powerUp_keeps _ _ _) same
  case profileLineChange => exact outcome_keeps (fun p => (profileLine_calm _ p).keeps) same
  case meterSample => exact outcome_keeps (fieldTelegram_keeps _) same
  case levelReport => exact outcome_keeps (fieldTelegram_keeps _) same
  case tagReport => exact outcome_keeps (fieldTelegram_keeps _) same
  case sumpReport => exact outcome_keeps (fieldTelegram_keeps _) same
  case estopReport => exact outcome_keeps (fieldTelegram_keeps _) same
  case starterStatus => exact outcome_keeps (fieldTelegram_keeps _) same
  case valveStatus => exact outcome_keeps (fieldTelegram_keeps _) same
  case inletStatus => exact outcome_keeps (fieldTelegram_keeps _) same
  case echoBack => exact outcome_keeps (fieldTelegram_keeps _) same
  case fieldTelegramOther => exact outcome_keeps (fieldTelegram_keeps _) same
  case telegramDiscarded => exact outcome_keeps (telegramEnd_keeps _ _) same
  case upTelegramOffered => exact outcome_keeps (upTelegram_keeps _) same
  case upTelegramConsumed => exact outcome_keeps (upTelegram_keeps _) same
  case idleWaitExpiry => exact outcome_keeps (fun p => (modPort_calm_of_fewer (fun _ _ => quiet_holds) _ p).keeps) same
  case transmitStart => exact outcome_keeps (fun p => (modPort_calm_of_fewer (fun _ _ => sendHead_holds) _ p).keeps) same
  case startBitHeard heard =>
    exact outcome_keeps (f := modPort heard.port (Port.startBit heard.data))
      (fun p => (modPort_calm_of_fewer (fun _ _ => startBit_holds) _ p).keeps) same
  case transmitEnd => exact outcome_keeps (fun p => (sendEnd_calm _ p).keeps) same
  case idleTimerExpiry => exact outcome_keeps (idleExpiry_keeps _) same
  case pauseTimerExpiry => exact outcome_keeps (fun p => (pauseExpiry_calm _ p).keeps) same
  case confirmTimerExpiry => exact outcome_keeps (confirmExpiry_keeps _) same
  case drainWindowExpiry => exact outcome_keeps (leaveClosing_keeps _) same
  case periodTimerExpiry => exact outcome_keeps (periodExpiry_keeps _) same
  case settleTimerExpiry => exact outcome_keeps (fun p => (settleExpiry_calm _ p).keeps) same
  case restWindowExpiry => exact outcome_keeps (restExpiry_keeps _) same
  case recoveryTimerExpiry => exact outcome_keeps (fun p => (recoveryExpiry_calm _ p).keeps) same
  case bayClockTick => exact outcome_keeps (fun p => (clockTick_calm p).keeps) same
  case gapTimerExpiry => exact outcome_keeps (fun p => (gapExpiry_calm p).keeps) same
  case echoWaitExpiry => exact outcome_keeps (fun p => (waitExpiry_calm p).keeps) same
  all_goals exact outcome_keeps command same

theorem step_keeps {s t : State} (same : step s = .next t) : Keeps none s.toPart t.toPart := by
  unfold step at same
  split at same
  · cases same; exact .refl _
  · rename_i rest _
    exact exec_keeps (s := { s with pending := rest }) _ same

/-! ## The promises -/

/-- Settles O9: every operation keeps each book balanced, and a step is one. -/
theorem bookStockEqualsItsAccounts : Obligations.BookStockEqualsItsAccounts :=
  fun _ _ balanced took => (step_keeps took).books balanced

/-- Settles O10: every operation keeps the reservations what is promised, and a step is one. -/
theorem recordsAndReservationsNeverPassSixtyFour : Obligations.RecordsAndReservationsNeverPassSixtyFour :=
  fun _ _ fit took => (step_keeps took).records fit

/-- Settles O13: every operation keeps the TRIPPED zones shut and their orders held, and no hose is exempt from the
overrun once a step is over. -/
theorem noHoseOfATrippedZoneDispenses : Obligations.NoHoseOfATrippedZoneDispenses := by
  constructor
  · intro s t agree own out shut orders took
    have k := step_keeps took
    obtain ⟨own', out', shut'⟩ := k.shut ⟨own, out, shut⟩
    exact ⟨k.agree agree, own', out', shut', k.orders ⟨own, out, shut⟩ orders⟩
  · intro s t agree own out shut overrun took
    exact (overrunsTripped_iff _).2
      ((step_keeps took).overrun agree ⟨own, out, shut⟩ ((overrunsTripped_iff _).1 overrun))

end Sys2Proof.Machine
end

section
/-! The settle timer and the rest window (R81, R84). -/

namespace Sys2Proof.Machine

open Sys2Proof

/-- A change that leaves the tank as it is. -/
theorem modTank_same {t : TankNo} {f : Tank → Tank} {p : Part} (same : f (p.tank t) = p.tank t) : modTank t f p = p := by
  unfold modTank Part.tank at *
  rw [same, setNth_nth]

theorem settleExpiry_opened {t : TankNo} {p : Part} {g : Nat} {b : Int} {settled : Bool}
    (loss : (p.tank t).loss = .opened g b settled) :
    settleExpiry t p = modTank t (fun x => { x with loss := .opened g b true }) p :=
  modTank_congr (by simp only [loss])

theorem settleExpiry_other {t : TankNo} {p : Part} (loss : ∀ g b settled, (p.tank t).loss ≠ .opened g b settled) :
    settleExpiry t p = p := by
  refine modTank_same ?_
  cases m : (p.tank t).loss with
  | opened g b settled => exact absurd m (loss g b settled)
  | _ => simp only [← m]

theorem restExpiry_none {t : TankNo} {p : Part} (rest : (p.tank t).rest = .none) : restExpiry t p = p := by
  unfold restExpiry; simp only [rest]

/-- A rest window that runs is evaluated where a good reading has been seen, and the next starts from what is read now. -/
theorem restExpiry_running {t : TankNo} {p : Part} {g net : Nat} {b : Int} {seen : Bool}
    (rest : (p.tank t).rest = .running g b seen) (gauge : (p.tank t).gaugeNet = some net) : restExpiry t p =
      let q := modTank t (fun x => { x with rest := .running net x.book false }) p
      let limit : Int := ((p.tank t).cfg.restThreshold * 1000 : Nat)
      if seen = true ∧ (net : Int) - g < -limit then tripSource .restLoss (p.tank t).cfg.zone q
      else if seen = true ∧ limit < (net : Int) - g then raise .restGain q
      else q := by
  unfold restExpiry
  simp only [rest, gauge, Option.getD_some]
  cases seen with
  | false => simp
  | true => simp

/-- Settles O37: the two timers' expiries, by the state of the window each looks at. -/
theorem settleAndRestTimersActOnTheirWindows : Obligations.SettleAndRestTimersActOnTheirWindows := by
  refine ⟨fun k s => ⟨fun g b loss => ?_, fun loss => ?_⟩, fun k s => ⟨fun rest => ?_, fun g net b seen rest gauge => ?_⟩⟩
  · exact congrArg Host.Outcome.next (State.on_congr (settleExpiry_opened loss))
  · refine congrArg Host.Outcome.next (State.on_self (settleExpiry_other fun g b settled same => ?_))
    rw [same] at loss
    rcases loss with loss | loss | loss <;> cases loss
  · exact congrArg Host.Outcome.next (State.on_self (restExpiry_none rest))
  · exact congrArg Host.Outcome.next (State.on_congr (restExpiry_running rest gauge))

end Sys2Proof.Machine
end

section
/-! STOCK_SET (R79, R80). -/

namespace Sys2Proof.Machine

open Sys2Proof

/-! ## An accepted STOCK_SET -/

section setStock
variable (t : TankNo) (ml : Nat) (p : Part)

theorem setStock_tank (k : TankNo) : (setStock t ml p).tank k = if t = k then { p.tank k with
    setPoint := ml, totals := {}, book := ml, low := decide (ml ≤ (p.tank k).cfg.lowCutoff * 1000),
    loss := (p.tank k).loss.restart, rest := .none } else p.tank k := by
  unfold setStock disturbWindows
  rw [modTank_tank, lowStockTest_tank, placeRecord_tank, modTank_tank]
  by_cases same : t = k
  · have low : ((ml : Int) - ((p.tank k).cfg.lowCutoff * 1000 : Nat) ≤ 0) ↔ ml ≤ (p.tank k).cfg.lowCutoff * 1000 := by omega
    simp only [if_pos same, Tank.bound, low]
  · simp only [if_neg same]

theorem setStock_records : (setStock t ml p).records = p.records ++
    [{ adjustRecord t (numberOf (p.tank t).cfg.product) (p.tank t).book ml (now p) with serial := p.nextSerial }] := by
  unfold setStock disturbWindows
  simp

theorem setStock_reserved : (setStock t ml p).reserved = p.reserved := by
  unfold setStock disturbWindows; simp
theorem setStock_zones : (setStock t ml p).zones = p.zones := by
  unfold setStock disturbWindows; simp
theorem setStock_machines : (setStock t ml p).machines = p.machines := by
  unfold setStock disturbWindows; simp
theorem setStock_devices : (setStock t ml p).devices = p.devices := by
  unfold setStock disturbWindows; simp

end setStock

/-! ## The command's checks -/

/-- STOCK_SET on a tank, as its checks are read in their order. -/
theorem stockSet_eq {b : Byte} {t : TankNo} (hb : b.toNat = t.val + 1) (ml : Long) (p : Part) :
    stockSetCommand (some (b, ml)) p =
      if (p.tank t).cfg.capacity * 1000 < ml.toNat then refuse .badValue p
      else if (p.tank t).state = .receiving then refuse .inUse p
      else if (p.tank t).state ≠ .outOfService && p.bayMode ≠ .layUp then refuse .refusedMode p
      else if !p.canReserve 1 then refuse .queueFull p
      else done (setStock t ml.toNat p) := by
  unfold stockSetCommand
  rw [withArgs_some]
  dsimp only
  rw [withIndex_of t hb]

theorem canReserve_one_false (p : Part) : p.canReserve 1 = false ↔ 64 ≤ p.records.length + p.reserved := by
  rw [← Bool.not_eq_true, canReserve_one, Nat.not_lt]

theorem restart_eq (w : LossWindow) : w.restart = match w with
    | .opened _ _ _ => .waiting
    | w => w := by cases w <;> rfl

/-- Settles O46: the checks in their order, and what an accepted STOCK_SET leaves. -/
theorem stockSetPutsTheBookAndRecordsIt : Obligations.StockSetPutsTheBookAndRecordsIt := by
  intro src b t ml s hb x
  have x_eq : (consumeUp s.toPart).tank t = x := consumeUp_tank ..
  have answered {st : Status} {f : Part → Part}
      (answer : stockSetCommand (some (b, ml)) (consumeUp s.toPart) = ⟨f (consumeUp s.toPart), st, []⟩) :
      exec (.stockSet src (some (b, ml))) s = .next (s.answered src st [] f) := outcome_command answer
  have checks := stockSet_eq hb ml (consumeUp s.toPart)
  simp only [x_eq, consumeUp_bayMode, consumeUp_canReserve] at checks
  refine ⟨fun above => answered ?_, fun inside state => answered ?_, fun inside state mode => answered ?_,
    fun inside state => ?_⟩
  · rw [checks, if_pos above]; rfl
  · rw [checks, if_neg (Nat.not_lt.2 inside), if_pos state]; rfl
  · rw [checks, if_neg (Nat.not_lt.2 inside), if_neg (by rw [state]; decide), if_pos (by rw [state, mode]; decide)]; rfl
  · have receiving : x.state ≠ .receiving := by
      rcases state with state | ⟨state, -⟩ <;> rw [state] <;> decide
    have allowed : ¬(x.state ≠ .outOfService && s.bayMode ≠ .layUp) = true := by
      rcases state with state | ⟨-, mode⟩
      · simp [state]
      · simp [mode]
    rw [if_neg (Nat.not_lt.2 inside), if_neg receiving, if_neg allowed] at checks
    refine ⟨fun full => answered (f := id) ?_, fun free => ⟨s.answered src .done [] (setStock t ml.toNat),
      { adjustRecord t (numberOf x.cfg.product) x.book ml.toNat (now s.toPart) with serial := s.nextSerial },
      answered (f := setStock t ml.toNat) ?_, ?_⟩⟩
    · rw [checks, if_pos (by rw [(canReserve_one_false _).2 full]; rfl)]; rfl
    · rw [checks, if_neg (by rw [(canReserve_one _).2 free]; decide)]; rfl
    · simp only [State.answered, State.on, reply_tank, reply_records, reply_reserved, reply_zones, reply_machines,
        reply_devices, setStock_tank, setStock_records, setStock_reserved, setStock_zones, setStock_machines,
        setStock_devices, consumeUp_tank, consumeUp_records, consumeUp_reserved, consumeUp_zones, consumeUp_machines,
        consumeUp_devices, consumeUp_nextSerial]
      refine ⟨?_, rfl, trivial, trivial, rfl, rfl, ?_, rfl, rfl, rfl, Bool.or_self _, fun k other => if_neg other.symm,
        trivial, trivial, trivial⟩
      · rw [if_pos trivial, restart_eq] <;> rfl
      · cases x.cfg.product <;> rfl

end Sys2Proof.Machine
end

section
/-! DELIVERY_START and DELIVERY_END (R85, R89). -/

namespace Sys2Proof.Machine

open Sys2Proof

/-! ## DELIVERY_START's checks -/

/-- DELIVERY_START on a tank, as its checks are read in their order. -/
theorem deliveryStart_eq {b : Byte} {t : TankNo} (hb : b.toNat = t.val + 1) (litres : Word) (p : Part) :
    deliveryStartCommand (some (b, litres)) p =
      if litres = 0 || (p.tank t).cfg.capacity < litres.toNat then refuse .badValue p
      else if (p.boundNode (.gauge t)).isNone || (p.boundNode (.inlet t)).isNone then refuse .badValue p
      else if (p.tank t).state = .receiving then refuse .inUse p
      else if (p.tank t).state ≠ .inService then refuse .refusedMode p
      else if !p.gaugeReady t then refuse .refusedMode p
      else if !(p.tank t).belowHighHigh then refuse .refusedMode p
      else if (p.zone (p.tank t).cfg.zone).state ≠ .normal then refuse .refusedMode p
      else if !p.canReserve 1 then refuse .queueFull p
      else done (startDelivery t litres.toNat p) := by
  unfold deliveryStartCommand
  rw [withArgs_some]
  dsimp only
  rw [withIndex_of t hb]

theorem gaugeReady_iff (p : Part) (t : TankNo) : p.gaugeReady t = true ↔
    p.roleGood (.gauge t) = true ∧ (p.tank t).gaugeHeld = false ∧ ∃ net, (p.tank t).gaugeNet = some net := by
  simp [Part.gaugeReady, and_assoc, Option.isSome_iff_exists]

theorem belowHighHigh_iff (x : Tank) : x.belowHighHigh = true ↔ ∃ level, x.lastLevel = some level ∧ level < x.cfg.highHigh := by
  unfold Tank.belowHighHigh
  cases x.lastLevel <;> simp

/-- What R85 asks of a tank in service. -/
structure Part.ReadyToReceive (p : Part) (t : TankNo) : Prop where
  gauge : p.gaugeReady t = true
  below : (p.tank t).belowHighHigh = true
  normal : (p.zone (p.tank t).cfg.zone).state = .normal

theorem readyToReceive_iff (p : Part) (t : TankNo) : p.ReadyToReceive t ↔
    (p.roleGood (.gauge t) = true ∧ (p.tank t).gaugeHeld = false ∧ ∃ net, (p.tank t).gaugeNet = some net) ∧
      (∃ level, (p.tank t).lastLevel = some level ∧ level < (p.tank t).cfg.highHigh) ∧
      (p.zone (p.tank t).cfg.zone).state = .normal := by
  rw [← gaugeReady_iff, ← belowHighHigh_iff]
  exact ⟨fun r => ⟨r.gauge, r.below, r.normal⟩, fun ⟨g, b, n⟩ => ⟨g, b, n⟩⟩

/-! ## An accepted DELIVERY_START -/

/-- A tank that opens a delivery. -/
def Tank.opens (d : Delivery) (x : Tank) : Tank :=
  { x with state := .receiving, delivery := some d, loss := x.loss.restart, rest := .none }

theorem startDelivery_eq {t : TankNo} {p : Part} {n : DevNo} {net : Nat} (bound : p.boundNode (.inlet t) = some n)
    (gauge : (p.tank t).gaugeNet = some net) (normal : (p.zone (p.tank t).cfg.zone).state = .normal) (declared : Nat) :
    startDelivery t declared p = modPort .fp (Port.queueOrder (orderTelegram kindSet n [15])) (modTank t (Tank.opens
      { declared := declared, startGauge := net, start := now p, outflow := 0, closed := none }) (reserve 1 p)) := by
  have test : ∀ (z : ZoneNo) (f : Tank → Tank), z = (p.tank t).cfg.zone →
      recoveryTest z (modTank t f (reserve 1 p)) = modTank t f (reserve 1 p) := fun z f e =>
    recoveryTest_failed fun ready => by
      have state : (p.zone z).state = .recovery := ready.1
      rw [e, normal] at state
      cases state
  unfold startDelivery setTankState disturbWindows
  dsimp only
  rw [modTank_modTank, test _ _ (by rw [modTank_tank_same]; rfl), modTank_modTank, gauge]
  unfold sendInlet order
  have inlet (f : Tank → Tank) : (modTank t f (reserve 1 p)).boundNode (.inlet t) = some n := bound
  rw [inlet]
  rfl

theorem exec_deliveryStart {src : Node} {b : Byte} {litres : Word} {s : State} {st : Status} {f : Part → Part}
    (e : deliveryStartCommand (some (b, litres)) (consumeUp s.toPart) = ⟨f (consumeUp s.toPart), st, []⟩) :
    exec (.deliveryStart src (some (b, litres))) s = .next (s.answered src st [] f) := outcome_command e

section deliveryStart
variable {b : Byte} {t : TankNo} {litres : Word} {p : Part} (hb : b.toNat = t.val + 1)
include hb

theorem deliveryStart_badValue (not : litres = 0 ∨ (p.tank t).cfg.capacity < litres.toNat) :
    deliveryStartCommand (some (b, litres)) p = refuse .badValue p := by
  rw [deliveryStart_eq hb, if_pos (by simpa using not)]

section declared
variable (some_ : litres ≠ 0) (fits : litres.toNat ≤ (p.tank t).cfg.capacity)
include some_ fits

theorem deliveryStart_unbound (not : p.boundNode (.gauge t) = none ∨ p.boundNode (.inlet t) = none) :
    deliveryStartCommand (some (b, litres)) p = refuse .badValue p := by
  rw [deliveryStart_eq hb, if_neg (by simpa using ⟨some_, fits⟩), if_pos (by simpa using not)]

variable (gauge : (p.boundNode (.gauge t)).isSome = true) (inlet : (p.boundNode (.inlet t)).isSome = true)
include gauge inlet

theorem deliveryStart_receiving (state : (p.tank t).state = .receiving) :
    deliveryStartCommand (some (b, litres)) p = refuse .inUse p := by
  rw [deliveryStart_eq hb, if_neg (by simpa using ⟨some_, fits⟩),
    if_neg (by rw [← Option.not_isSome, ← Option.not_isSome, gauge, inlet]; decide), if_pos state]

theorem deliveryStart_out (state : (p.tank t).state = .outOfService) :
    deliveryStartCommand (some (b, litres)) p = refuse .refusedMode p := by
  rw [deliveryStart_eq hb, if_neg (by simpa using ⟨some_, fits⟩),
    if_neg (by rw [← Option.not_isSome, ← Option.not_isSome, gauge, inlet]; decide), if_neg (by rw [state]; decide),
    if_pos (by rw [state]; decide)]

theorem deliveryStart_unready (state : (p.tank t).state = .inService) (not : ¬p.ReadyToReceive t) :
    deliveryStartCommand (some (b, litres)) p = refuse .refusedMode p := by
  rw [deliveryStart_eq hb, if_neg (by simpa using ⟨some_, fits⟩),
    if_neg (by rw [← Option.not_isSome, ← Option.not_isSome, gauge, inlet]; decide), if_neg (by rw [state]; decide),
    if_neg (by rw [state]; decide)]
  by_cases ready : p.gaugeReady t = true
  · by_cases below : (p.tank t).belowHighHigh = true
    · rw [if_neg (by rw [ready]; decide), if_neg (by rw [below]; decide), if_pos fun normal => not ⟨ready, below, normal⟩]
    · rw [if_neg (by rw [ready]; decide), if_pos (by simpa using below)]
  · rw [if_pos (by simpa using ready)]

theorem deliveryStart_ready (state : (p.tank t).state = .inService) (ready : p.ReadyToReceive t) :
    deliveryStartCommand (some (b, litres)) p =
      if p.canReserve 1 then done (startDelivery t litres.toNat p) else refuse .queueFull p := by
  rw [deliveryStart_eq hb, if_neg (by simpa using ⟨some_, fits⟩),
    if_neg (by rw [← Option.not_isSome, ← Option.not_isSome, gauge, inlet]; decide), if_neg (by rw [state]; decide),
    if_neg (by rw [state]; decide), if_neg (by rw [ready.gauge]; decide), if_neg (by rw [ready.below]; decide),
    if_neg (not_not.2 ready.normal)]
  cases p.canReserve 1 <;> rfl

end declared
end deliveryStart

/-! ## The SETs that wait for an inlet's node -/

theorem nodeOf_inj {m n : DevNo} (e : nodeOf m = nodeOf n) : m = n :=
  Option.some.inj ((deviceOf_nodeOf m).symm.trans ((congrArg deviceOf e).trans (deviceOf_nodeOf n)))

/-- A SET to node `n`. -/
def isSetTo (n : DevNo) (u : Telegram) : Bool := u.kind == kindSet && u.head.dst == nodeOf n

theorem isSetTo_iff (n : DevNo) (u : Telegram) : isSetTo n u = true ↔ u.kind = kindSet ∧ u.head.dst = nodeOf n := by
  simp [isSetTo]

/-- The part's own waiting SETs to node `n`, read where that node is bound as the inlet of `t`. -/
def Part.setsToInlet (t : TankNo) (n : DevNo) (p : Part) : List Telegram :=
  if (p.device n).binding = .inlet t then p.fp.own.filter (isSetTo n) else []

theorem setsToInlet_of_bound {t : TankNo} {n : DevNo} {p : Part} (bound : p.boundNode (.inlet t) = some n) :
    p.setsToInlet t n = p.fp.own.filter (isSetTo n) := if_pos (boundNode_binding bound)

/-- An order of another kind or to another node leaves them in place. -/
theorem queueOrder_filter {n : DevNo} {u : Telegram} (not : isSetTo n u = false) (q : Port) :
    (q.queueOrder u).own.filter (isSetTo n) = q.own.filter (isSetTo n) := by
  have kept : (q.own.filter fun x => !sameOrder u x).filter (isSetTo n) = q.own.filter (isSetTo n) := by
    rw [List.filter_filter]
    refine List.filter_congr fun x _ => ?_
    cases set : isSetTo n x with
    | false => rfl
    | true =>
      cases same : sameOrder u x with
      | false => rfl
      | true =>
        obtain ⟨kind, dst⟩ := (sameOrder_iff u x).1 same
        obtain ⟨k, d⟩ := (isSetTo_iff n x).1 set
        exact absurd ((isSetTo_iff n u).2 ⟨kind.symm.trans k, dst.symm.trans d⟩) (by rw [not]; decide)
  unfold Port.queueOrder Port.placeOwn
  split
  · rw [List.filter_append, kept, List.filter_singleton, not]; exact List.append_nil _
  · split <;> rw [counted_own]
    · exact kept
    · rw [List.filter_append, kept, List.filter_singleton, not]; exact List.append_nil _

theorem queueOrders_filter {n : DevNo} {us : List Telegram} (others : ∀ u ∈ us, isSetTo n u = false) (q : Port) :
    (us.foldl (fun x u => x.queueOrder u) q).own.filter (isSetTo n) = q.own.filter (isSetTo n) := by
  induction us generalizing q with
  | nil => rfl
  | cons u us ih =>
    rw [List.forall_mem_cons] at others
    exact (ih others.2 _).trans (queueOrder_filter others.1 q)

theorem sendAll_setsToInlet {t : TankNo} {n : DevNo} {us : List Telegram} {p : Part}
    (others : (p.device n).binding = .inlet t → ∀ u ∈ us, isSetTo n u = false) :
    (sendAll us p).setsToInlet t n = p.setsToInlet t n := by
  unfold Part.setsToInlet
  by_cases inlet : (p.device n).binding = .inlet t
  · rw [if_pos inlet, if_pos (show ((sendAll us p).device n).binding = .inlet t from inlet), sendAll_fp]
    exact queueOrders_filter (others inlet) p.fp
  · rw [if_neg inlet, if_neg (show ((sendAll us p).device n).binding ≠ .inlet t from inlet)]

theorem orderTo_isSetTo {p : Part} {kind value : Byte} {b : Binding} {t : TankNo} {n : DevNo}
    (inlet : (p.device n).binding = .inlet t) (other : kind ≠ kindSet ∨ b ≠ .inlet t) :
    ∀ u ∈ p.orderTo kind b value, isSetTo n u = false := by
  intro u mem
  obtain ⟨m, bound, rfl⟩ := List.mem_map.1 mem
  refine Bool.eq_false_iff.2 fun set => ?_
  obtain ⟨k, d⟩ := (isSetTo_iff n _).1 set
  obtain rfl := nodeOf_inj d
  exact other.elim (fun ne => ne k) fun ne => ne ((boundNode_binding (Option.mem_toList.1 bound)).symm.trans inlet)

theorem mem_lampTo {p : Part} {h : HoseNo} {lamp : Byte} {u : Telegram} (mem : u ∈ p.lampTo h lamp) :
    ∃ v, u ∈ p.orderTo kindLamp (.reader h) v := by
  unfold Part.lampTo at mem
  split at mem
  · exact ⟨_, mem⟩
  · split at mem
    · cases mem
    · exact ⟨_, mem⟩

theorem endOrders_isSetTo {p : Part} {h : HoseNo} {cause : EndCause} {k t : TankNo} {n : DevNo}
    (inlet : (p.device n).binding = .inlet t) : ∀ u ∈ p.endOrders h cause k, isSetTo n u = false := by
  intro u mem
  unfold Part.endOrders at mem
  simp only [List.mem_append] at mem
  rcases mem with (m | m) | m
  · exact orderTo_isSetTo inlet (.inr (by simp)) u m
  · obtain ⟨v, m⟩ := mem_lampTo m
    exact orderTo_isSetTo inlet (.inl (by decide)) u m
  · split at m
    · exact orderTo_isSetTo inlet (.inl (by decide)) u m
    · cases m

theorem enterClosing_setsToInlet (t : TankNo) (n : DevNo) (h : HoseNo) (cause : EndCause) (txn : Transaction) (p : Part) :
    (enterClosing h cause txn p).setsToInlet t n = p.setsToInlet t n := by
  rw [enterClosing_eq]
  exact sendAll_setsToInlet (p := modPump txn.tank Pump.released (setMode h (.fill (.closing cause (now p)) txn.shut) p))
    fun inlet => endOrders_isSetTo inlet

/-! ## The end of a delivery, part by part -/

theorem raise_isIn_mono {m : Notice} (n : Notice) {p : Part} (pending : m.isIn p.pendingNotices = true) :
    m.isIn (raise n p).pendingNotices = true := by
  cases was : n.isIn p.pendingNotices with
  | true => rw [raise_pending was]; exact pending
  | false =>
    rw [raise_new was]
    show (p.pendingNotices ||| n.bit).getLsbD (m.rank - 1) = true
    rw [BitVec.getLsbD_or, show p.pendingNotices.getLsbD (m.rank - 1) = true from pending, Bool.true_or]

theorem placeReserved_isIn {m : Notice} (r : Record) {p : Part} (pending : m.isIn p.pendingNotices = true) :
    m.isIn (placeReserved r p).pendingNotices = true := by
  have head (c : Prop) [Decidable c] (q : Part) :
      (if c then headChanged q else q).pendingNotices = q.pendingNotices := by
    unfold headChanged; split
    · split <;> rfl
    · rfl
  unfold placeReserved placeRecord
  dsimp only
  split
  · exact raise_isIn_mono _ (by rw [head]; exact pending)
  · rw [head]; exact pending

theorem bookChange_low (a : Account) (n : Int) (x : Tank) : (x.bookChange a n).low = x.low := by
  unfold Tank.bookChange; dsimp only; split <;> rfl

section deliveryEnded
variable (p : Part) (t : TankNo) (cause : CloseCause) (d : Delivery)

/-- What the end of a delivery adds to the book (R89). -/
def Part.received (p : Part) (t : TankNo) (d : Delivery) : Int :=
  (((p.tank t).gaugeNet.getD d.startGauge : Nat) : Int) - d.startGauge + d.outflow

/-- The part once the inlet has its order and the book what was received. -/
def Part.deliveryBooked (p : Part) (t : TankNo) (d : Delivery) : Part :=
  modTank t (fun x => x.bookChange .received (p.received t d)) (if d.closed.isNone then sendInlet t 0 p else p)

/-- What a record, the notice and the tank's own record do not touch is as the low-stock test on the new book left it. -/
theorem deliveryEnded_view {α : Type} (view : Part → α) (mod : ∀ f p, view (modTank t f p) = view p)
    (place : ∀ r p, view (placeReserved r p) = view p) (note : ∀ p, view (raise .deliveryVariance p) = view p) :
    view (p.deliveryEnded t cause d) = view (lowStockTest t (p.deliveryBooked t d)) := by
  unfold Part.deliveryEnded
  dsimp only
  rw [mod]
  split
  · rw [note, place]; rfl
  · rw [place]; rfl

theorem deliveryBooked_tank : (p.deliveryBooked t d).tank t = (p.tank t).bookChange .received (p.received t d) := by
  unfold Part.deliveryBooked
  rw [modTank_tank_same]
  split <;> simp only [sendInlet_tank]

theorem deliveryBooked_hose (h : HoseNo) : (p.deliveryBooked t d).hose h = p.hose h := by
  unfold Part.deliveryBooked
  show (if d.closed.isNone then sendInlet t 0 p else p).hose h = p.hose h
  split <;> simp only [sendInlet_hose]

theorem deliveryBooked_bound : ((p.deliveryBooked t d).tank t).bound =
    (p.tank t).book + p.received t d - ((p.tank t).cfg.lowCutoff * 1000 : Nat) := by
  rw [deliveryBooked_tank]
  unfold Tank.bound
  rw [bookChange_book, bookChange_cfg]
  simp only [Account.sign, one_mul]

theorem deliveryEnded_tank : (p.deliveryEnded t cause d).tank t = { (p.tank t).bookChange .received (p.received t d) with
    low := decide (((p.deliveryBooked t d).tank t).bound ≤ 0), delivery := none } := by
  rw [deliveryBooked_tank]
  unfold Part.deliveryEnded
  dsimp only
  rw [modTank_tank_same]
  split <;> split <;>
    simp only [raise_tank, placeReserved_tank, lowStockTest_tank, if_true, modTank_tank_same, sendInlet_tank] <;> rfl

theorem deliveryEnded_hose (h : HoseNo) :
    (p.deliveryEnded t cause d).hose h = (lowStockTest t (p.deliveryBooked t d)).hose h :=
  deliveryEnded_view p t cause d (·.hose h) (fun _ _ => rfl) (fun _ _ => placeReserved_hose ..)
    fun _ => raise_hose ..

/-- A hose keeps its state where the book stays above the cutoff, it is of another tank, or it dispenses nothing. -/
theorem deliveryEnded_hose_still {h : HoseNo} (still : 0 < ((p.deliveryBooked t d).tank t).bound ∨
    (p.hose h).cfg.tank ≠ some t ∨ (p.hose h).mode.dispensing = false) : (p.deliveryEnded t cause d).hose h = p.hose h := by
  rw [deliveryEnded_hose]
  by_cases low : ((p.deliveryBooked t d).tank t).bound ≤ 0
  · rw [lowStockTest_hose_of_low low, endFills_low_still (by
      rw [deliveryBooked_hose]; exact still.resolve_left (Int.not_lt.2 low)), deliveryBooked_hose]
  · rw [lowStockTest_hose_of_free (Int.not_le.1 low), deliveryBooked_hose]

/-- At or below the cutoff an open fill of the tank ends. -/
theorem deliveryEnded_hose_low {h : HoseNo} {ph : Phase} {txn : Transaction} (low : ((p.deliveryBooked t d).tank t).bound ≤ 0)
    (own : (p.hose h).cfg.tank = some t) (m : (p.hose h).mode = .fill ph txn) (going : (p.hose h).mode.isClosing = false) :
    ((p.deliveryEnded t cause d).hose h).mode = .fill (.closing .tankLow (now p)) txn.shut := by
  have hose := deliveryBooked_hose p t d h
  have clock : now (p.deliveryBooked t d) = now p := by
    unfold Part.deliveryBooked now
    split <;> simp only [modTank_clock, modTank_clockUnset, sendInlet_clock, sendInlet_clockUnset]
  rw [deliveryEnded_hose, lowStockTest_hose_of_low low, endFills_low_fill (by rw [hose]; exact own) (by rw [hose]; exact m)
    (by rw [hose]; exact going), clock]

theorem lowStockTest_nextSerial (q : Part) : (lowStockTest t q).nextSerial = q.nextSerial :=
  lowStockTest_keep (·.nextSerial) (fun _ _ _ => by rw [enterClosing_eq]; rfl) (fun _ _ _ => rfl) (raise_nextSerial _) t q

theorem deliveryEnded_record : (p.deliveryEnded t cause d).records = p.records ++
    [{ deliveryRecord t (numberOf (p.tank t).cfg.product) d ((p.tank t).gaugeNet.getD d.startGauge) (p.received t d)
        (d.closed.getD cause) (now p) with serial := p.nextSerial }] := by
  unfold Part.deliveryEnded
  dsimp only
  rw [modTank_records]
  split <;> split <;>
    simp only [raise_records, placeReserved_records, lowStockTest_records, modTank_records, sendInlet_records,
      lowStockTest_nextSerial, modTank_nextSerial, sendInlet_nextSerial] <;> rfl

theorem deliveryEnded_variance 
    (off : ((d.declared * (p.tank t).cfg.tolerance : Nat) : Int) < |p.received t d - d.declared * 1000|) :
    Notice.deliveryVariance.isIn (p.deliveryEnded t cause d).pendingNotices = true := by
  unfold Part.deliveryEnded
  dsimp only
  rw [Int.abs_eq_natAbs, Int.ofNat_lt] at off
  rw [modTank_pendingNotices, if_pos (by rw [Int.natCast_mul]; exact off)]
  exact raise_isIn ..

theorem deliveryEnded_tankLow (low : ((p.deliveryBooked t d).tank t).bound ≤ 0) (new : (p.tank t).low = false) :
    Notice.tankLow.isIn (p.deliveryEnded t cause d).pendingNotices = true := by
  have raised : Notice.tankLow.isIn (lowStockTest t (p.deliveryBooked t d)).pendingNotices = true := by
    rw [lowStockTest_notice low (by rw [deliveryBooked_tank, bookChange_low]; exact new)]
    exact raise_isIn ..
  have placed (r : Record) := placeReserved_isIn r raised
  unfold Part.deliveryEnded
  dsimp only
  rw [modTank_pendingNotices]
  split
  · exact raise_isIn_mono _ (placed _)
  · exact placed _

/-- The end of a delivery leaves the inlet's waiting SETs as its order to the inlet left them. -/
theorem deliveryEnded_sets (n : DevNo) : (p.deliveryEnded t cause d).setsToInlet t n =
    (if d.closed.isNone then sendInlet t 0 p else p).setsToInlet t n := by
  have note (m : Notice) (q : Part) : (raise m q).setsToInlet t n = q.setsToInlet t n := by
    simp only [Part.setsToInlet, raise_fp, raise_device]
  have place (r : Record) (q : Part) : (placeReserved r q).setsToInlet t n = q.setsToInlet t n := by
    simp only [Part.setsToInlet, placeReserved_fp, placeReserved_device]
  rw [deliveryEnded_view p t cause d (·.setsToInlet t n) (fun _ _ => rfl) place (note _),
    lowStockTest_keep (·.setsToInlet t n) (fun h => enterClosing_setsToInlet t n h .tankLow) (fun _ _ _ => rfl) (note _)]
  rfl

theorem deliveryEnded_devices : (p.deliveryEnded t cause d).devices = p.devices :=
  deliveryEnded_keep p t cause d (·.devices) (fun _ => sendInlet_devices ..) (fun _ _ => rfl)
    (fun _ => lowStockTest_devices ..) (fun _ _ => placeReserved_devices ..) (fun _ => raise_devices ..)

theorem deliveryEnded_own {n : DevNo} (bound : p.boundNode (.inlet t) = some n) :
    (p.deliveryEnded t cause d).fp.own.filter (isSetTo n) =
      (if d.closed.isNone then sendInlet t 0 p else p).fp.own.filter (isSetTo n) := by
  have ended : (p.deliveryEnded t cause d).boundNode (.inlet t) = some n := by
    rw [← bound]; unfold Part.boundNode; rw [deliveryEnded_devices]
  have ordered : (if d.closed.isNone then sendInlet t 0 p else p).boundNode (.inlet t) = some n := by
    split <;> simpa using bound
  rw [← setsToInlet_of_bound ended, ← setsToInlet_of_bound ordered, deliveryEnded_sets]

end deliveryEnded

theorem sendInlet_fp {t : TankNo} {code : Nat} {p : Part} {n : DevNo} (bound : p.boundNode (.inlet t) = some n) :
    (sendInlet t code p).fp = p.fp.queueOrder (orderTelegram kindSet n [BitVec.ofNat 8 code]) := by
  unfold sendInlet order; rw [bound]; rfl

/-- An order finds a place unless the part's own orders fill the queue (R141). -/
theorem queueOrder_mem (u : Telegram) {q : Port} (room : q.own.length ≤ 31) : u ∈ (q.queueOrder u).own := by
  have fewer := (List.length_filter_le (fun x => !sameOrder u x) q.own).trans room
  unfold Port.queueOrder Port.placeOwn Port.hasRoom
  dsimp only
  split
  · simp
  · rename_i full
    split
    · rename_i none
      have long := mt decide_eq_true full
      rw [List.isEmpty_iff.1 none, List.length_nil, Config.queuePlaces] at long
      omega
    · rw [counted_own]; simp

theorem deliveryEnd_refused {src : Node} {b : Byte} {t : TankNo} {s : State} (hb : b.toNat = t.val + 1)
    (not : (s.tank t).state ≠ .receiving) :
    exec (.deliveryEnd src (some b)) s = .next (s.answered src .refusedMode [] id) := by
  refine outcome_command (f := id) ?_
  unfold deliveryEndCommand
  rw [withArgs_some, withIndex_of t hb]
  split
  · rename_i state delivery
    exact absurd ((congrArg Tank.state (consumeUp_tank s.toPart t)).symm.trans state) not
  · rfl

theorem deliveryEnd_accepted {src : Node} {b : Byte} {t : TankNo} {s : State} {d : Delivery} (hb : b.toNat = t.val + 1)
    (state : (s.tank t).state = .receiving) (delivery : (s.tank t).delivery = some d) :
    exec (.deliveryEnd src (some b)) s = .next (s.answered src .done [] (endDelivery t .deliveryEnd d)) := by
  refine outcome_command ?_
  unfold deliveryEndCommand
  rw [withArgs_some, withIndex_of t hb]
  simp only [consumeUp_tank, state, delivery]
  rfl

section setTankState
variable (t : TankNo) (st : TankState) (p : Part)
theorem setTankState_records : (setTankState t st p).records = p.records := by unfold setTankState recoveryTest; split <;> rfl
theorem setTankState_reserved : (setTankState t st p).reserved = p.reserved := by unfold setTankState recoveryTest; split <;> rfl
theorem setTankState_pendingNotices : (setTankState t st p).pendingNotices = p.pendingNotices := by
  unfold setTankState recoveryTest; split <;> rfl
theorem setTankState_fp : (setTankState t st p).fp = p.fp := by unfold setTankState recoveryTest; split <;> rfl
end setTankState

@[simp] theorem reply_fp (src : Node) (st : Status) (data : List Byte) (p : Part) : (reply src st data p).fp = p.fp := rfl

/-- Settles O47: each command's checks in their order, and what the start and the end of a delivery leave. -/
theorem deliveriesOpenAndEndByCommand : Obligations.DeliveriesOpenAndEndByCommand := by
  constructor
  · intro src b t litres s hb x refused
    have x_eq : (consumeUp s.toPart).tank t = x := consumeUp_tank ..
    have answered {st : Status} (e : deliveryStartCommand (some (b, litres)) (consumeUp s.toPart) =
      refuse st (consumeUp s.toPart)) : refused st := exec_deliveryStart (f := id) e
    refine ⟨fun not => answered (deliveryStart_badValue hb (by rwa [x_eq])), fun some_ fits => ?_⟩
    have fits' : litres.toNat ≤ ((consumeUp s.toPart).tank t).cfg.capacity := by rwa [x_eq]
    refine ⟨fun not => answered (deliveryStart_unbound hb some_ fits' (by simpa using not)), fun n gauge inlet => ?_⟩
    have gauge' : ((consumeUp s.toPart).boundNode (.gauge t)).isSome = true := by simpa using gauge
    have inlet' : (consumeUp s.toPart).boundNode (.inlet t) = some n := by simpa using inlet
    have inletSome := Option.isSome_of_eq_some inlet'
    refine ⟨fun state => answered (deliveryStart_receiving hb some_ fits' gauge' inletSome (by rwa [x_eq])),
      fun state => answered (deliveryStart_out hb some_ fits' gauge' inletSome (by rwa [x_eq])), fun state => ?_⟩
    have ready_iff := readyToReceive_iff (consumeUp s.toPart) t
    simp only [x_eq, consumeUp_zone, consumeUp_roleGood] at ready_iff
    refine ⟨fun not => answered (deliveryStart_unready hb some_ fits' gauge' inletSome (by rwa [x_eq]) fun ready => ?_),
      fun net level good free gaugeNet lastLevel below normal => ?_⟩
    · obtain ⟨⟨good, free, net, gaugeNet⟩, ⟨level, lastLevel, below⟩, normal⟩ := ready_iff.1 ready
      rcases not with not | not | not | not | not
      · rw [good] at not; cases not
      · rw [free] at not; cases not
      · rw [gaugeNet] at not; cases not
      · exact Nat.not_le.2 below (not level lastLevel)
      · exact not normal
    · have checks := deliveryStart_ready hb some_ fits' gauge' inletSome (by rwa [x_eq])
        (ready_iff.2 ⟨⟨good, free, net, gaugeNet⟩, ⟨level, lastLevel, below⟩, normal⟩)
      rw [consumeUp_canReserve] at checks
      refine ⟨fun full => answered ?_, fun room => exec_deliveryStart ?_⟩
      · rw [checks, if_neg (by rw [(canReserve_one_false _).2 full]; decide)]
      · rw [checks, if_pos ((canReserve_one _).2 room), startDelivery_eq inlet' (by rwa [x_eq]) (by rw [x_eq]; simpa using normal)]
        rfl
  · intro src b t s hb
    refine ⟨fun not => deliveryEnd_refused hb not, fun d net state delivery gauge => ?_⟩
    refine ⟨s.answered src .done [] (endDelivery t .deliveryEnd d), { deliveryRecord t (numberOf (s.tank t).cfg.product) d
      net ((net : Int) - d.startGauge + d.outflow) (d.closed.getD .deliveryEnd) (now s.toPart) with
      serial := s.nextSerial }, deliveryEnd_accepted hb state delivery, ?_⟩
    have clock : now (consumeUp s.toPart) = ⟨s.clock, s.clockUnset⟩ := rfl
    have hoses (h : HoseNo) : (consumeUp s.toPart).hose h = s.hose h := consumeUp_hose ..
    have serial : (consumeUp s.toPart).nextSerial = s.nextSerial := rfl
    have records : (consumeUp s.toPart).records = s.records := rfl
    have places : (consumeUp s.toPart).reserved = s.reserved := rfl
    have fp : (consumeUp s.toPart).fp = s.fp := rfl
    have others (k : TankNo) : (consumeUp s.toPart).tank k = s.tank k := consumeUp_tank ..
    have bound (n : DevNo) (e : s.boundNode (.inlet t) = some n) : (consumeUp s.toPart).boundNode (.inlet t) = some n := e
    simp only [State.answered, State.on, reply_tank, reply_hose, reply_records, reply_reserved, reply_fp,
      reply_pendingNotices, endDelivery_eq, setTankState_tank, setTankState_hose, setTankState_records,
      setTankState_reserved, setTankState_pendingNotices, setTankState_fp]
    generalize consumeUp s.toPart = p at *
    have received : p.received t d = (net : Int) - d.startGauge + d.outflow := by
      unfold Part.received; rw [others, gauge]; rfl
    have free := deliveryBooked_bound p t d
    have tank := deliveryEnded_tank p t .deliveryEnd d
    rw [received, others] at free tank
    rw [free] at tank
    refine ⟨?_, ?_, ?_, fun k ne => ?_, ?_, fun low => ⟨fun new => ?_, fun h ph txn own m going => ?_⟩, fun h still => ?_,
      fun n inlet => ⟨fun open_ room => ?_, fun shut x mem kind dst => ?_⟩, ?_, ?_, trivial, rfl, rfl, rfl, ?_, rfl, fun off => ?_⟩
    · rw [if_pos trivial]
    · rw [if_pos trivial, tank]
    · rw [if_pos trivial, tank]; exact (bookChange_book ..).trans (by simp only [Account.sign, one_mul])
    · rw [if_neg ne.symm, deliveryEnded_tank_other _ _ _ _ ne, others]
    · rw [if_pos trivial, tank]
    · exact deliveryEnded_tankLow _ _ _ _ (free ▸ low) (by rw [others]; exact new)
    · refine ⟨txn.shut, (deliveryEnded_hose_low p t .deliveryEnd d (free ▸ low) (by rw [hoses]; exact own)
        (by rw [hoses]; exact m) (by rw [hoses]; exact going)).trans ?_⟩
      rw [clock]
    · rw [deliveryEnded_hose_still _ _ _ _ (by rw [free, hoses]; exact still), hoses]
    · have sets := deliveryEnded_own p t .deliveryEnd d (bound n inlet)
      rw [open_, if_pos (show none.isNone = true from rfl), sendInlet_fp (bound n inlet)] at sets
      exact (List.mem_filter.1 (sets ▸ List.mem_filter.2 ⟨queueOrder_mem _ (fp ▸ room), (isSetTo_iff ..).2 ⟨rfl, rfl⟩⟩)).1
    · have sets := deliveryEnded_own p t .deliveryEnd d (bound n inlet)
      rw [if_neg (by simpa using shut), fp] at sets
      exact (List.mem_filter.1 (sets ▸ List.mem_filter.2 ⟨mem, (isSetTo_iff n x).2 ⟨kind, dst⟩⟩)).1
    · rw [deliveryEnded_record, records, others, gauge, received, serial, clock]
      rfl
    · rw [deliveryEnded_reserved, places]
    · cases d.closed with
      | none => rfl
      | some c => cases c <;> rfl
    · refine deliveryEnded_variance _ _ _ _ ?_
      rw [received, others]
      exact off

end Sys2Proof.Machine
end

section
/-! A trip as a whole (R99): its closing orders, the lines, the inlets of its deliveries, and the notice. -/

namespace Sys2Proof.Machine

open Sys2Proof

/-! ## The closing orders of a zone or a tank -/

/-- Telegrams of one kind with one value, to each node bound in the roles of a list. -/
def Part.ordersTo (p : Part) (kind value : Byte) (bs : List Binding) : List Telegram :=
  bs.filterMap fun b => (p.boundNode b).map fun n =>
    { head := { dst := nodeOf n, cls := 1, src := 0, rsv := 0 }, kind := kind, payload := [value] }

theorem ordersTo_cons (p : Part) (kind value : Byte) (b : Binding) (bs : List Binding) :
    p.ordersTo kind value (b :: bs) = p.orderTo kind b value ++ p.ordersTo kind value bs := by
  unfold Part.ordersTo Part.orderTo
  rw [List.filterMap_cons]
  cases p.boundNode b <;> rfl

theorem ordersTo_congr {p q : Part} (devices : q.devices = p.devices) (kind value : Byte) (bs : List Binding) :
    q.ordersTo kind value bs = p.ordersTo kind value bs := by simp only [Part.ordersTo, Part.boundNode, devices]

theorem each_orderTo {ι : Type} (kind value : Byte) (role : ι → Binding) (is : List ι) (p : Part) :
    each is (fun i => order kind (role i) value) p = sendAll (p.ordersTo kind value (is.map role)) p := by
  induction is generalizing p with
  | nil => rfl
  | cons i is ih =>
    rw [each_cons, ih, order_eq, sendAll_sendAll, List.map_cons, ordersTo_cons,
      ordersTo_congr (p := p) (sendAll_devices ..)]

/-- The closing orders to the devices of hoses and tanks, in the order in which they are queued (R99). -/
def Part.shutting (p : Part) (hs : List HoseNo) (ts : List TankNo) : List Telegram :=
  p.ordersTo kindSet 0 (hs.map .valve) ++ p.ordersTo kindSet 0 (ts.map .inlet) ++
    p.ordersTo kindRun 0 (ts.map .starter) ++ p.ordersTo kindLamp lampTrip (hs.map .reader)

theorem shutting_congr {p q : Part} (devices : q.devices = p.devices) (hs : List HoseNo) (ts : List TankNo) :
    q.shutting hs ts = p.shutting hs ts := by simp only [Part.shutting, ordersTo_congr devices]

theorem shutOrders_eq (hs : List HoseNo) (ts : List TankNo) (p : Part) :
    shutOrders hs ts p = sendAll (p.shutting hs ts) p := by
  have valves (q : Part) := each_orderTo kindSet 0 .valve hs q
  have inlets (q : Part) := each_orderTo kindSet 0 .inlet ts q
  have starters (q : Part) := each_orderTo kindRun 0 .starter ts q
  have readers (q : Part) := each_orderTo kindLamp lampTrip .reader hs q
  have opened : shutOrders hs ts p = each hs (fun h => order kindLamp (.reader h) lampTrip)
    (each ts (fun t => order kindRun (.starter t) 0) (each ts (fun t => order kindSet (.inlet t) 0)
      (each hs (fun h => order kindSet (.valve h) 0) p))) := rfl
  rw [opened, valves, inlets, starters, readers]
  simp only [ordersTo_congr (sendAll_devices ..), sendAll_sendAll, Part.shutting, List.append_assoc]

/-- A closing order is its kind and its node. -/
theorem shutting_form {p : Part} {hs : List HoseNo} {ts : List TankNo} {u : Telegram} (mem : u ∈ p.shutting hs ts) :
    u = { head := { dst := u.head.dst, cls := 1, src := 0, rsv := 0 }, kind := u.kind,
          payload := [if u.kind = kindLamp then lampTrip else 0] } := by
  have form {kind value : Byte} {bs : List Binding} (mem : u ∈ p.ordersTo kind value bs)
      (pays : value = if kind = kindLamp then lampTrip else 0) :
      u = { head := { dst := u.head.dst, cls := 1, src := 0, rsv := 0 }, kind := u.kind,
            payload := [if u.kind = kindLamp then lampTrip else 0] } := by
    obtain ⟨b, -, e⟩ := List.mem_filterMap.1 mem
    obtain ⟨n, -, rfl⟩ := Option.map_eq_some_iff.1 e
    rw [← pays]
  obtain ((mem | mem) | mem) | mem := by simpa only [Part.shutting, List.mem_append] using mem
  exacts [form mem (by decide), form mem (by decide), form mem (by decide), form mem (by decide)]

theorem shutting_unique {p : Part} {hs : List HoseNo} {ts : List TankNo} {u v : Telegram} (hu : u ∈ p.shutting hs ts)
    (hv : v ∈ p.shutting hs ts) (kind : u.kind = v.kind) (dst : u.head.dst = v.head.dst) : u = v := by
  rw [shutting_form hu, shutting_form hv, kind, dst]

/-- Queued in turn, each closing order is the only telegram of its kind for its node. -/
theorem shutting_only (p : Part) (hs : List HoseNo) (ts : List TankNo) (q : Port) :
    ((p.shutting hs ts).foldl (fun x u => x.queueOrder u) q).Only (p.shutting hs ts) :=
  queueOrders_only (fun _ hu _ hv => shutting_unique hu hv) [] _ rfl ⟨fun _ _ _ => nofun, fun _ _ _ => nofun⟩

theorem dropWaiting_only {q : Port} {orders : List Telegram} (only : q.Only orders) (f : Telegram → Bool) :
    (q.dropWaiting f).Only orders :=
  ⟨fun x hx => only.1 x (List.mem_filter.1 hx).1, fun x hx => only.2 x (List.mem_filter.1 hx).1⟩

/-! ## The lines of a part with a TRIPPED zone (R108, R109) -/

/-- The zone is TRIPPED and both lines are active. -/
def Part.Alarmed (p : Part) (z : ZoneNo) : Prop :=
  (p.zone z).state = .tripped ∧ p.shutdown = true ∧ p.bayAlarm = true

theorem syncLines_alarmed {p : Part} {z : ZoneNo} (tripped : (p.zone z).state = .tripped) : (syncLines p).Alarmed z := by
  obtain ⟨shutdown, alarm⟩ := syncLines_linesFollow p
  exact ⟨tripped, shutdown.2 ⟨z, tripped⟩, alarm.2 (.inl ⟨z, by
    show (p.zone z).state ≠ .normal
    rw [tripped]; decide⟩)⟩

theorem Part.Alarmed.raise {p : Part} {z : ZoneNo} (a : p.Alarmed z) (n : Notice) : (Machine.raise n p).Alarmed z := by
  cases pending : n.isIn p.pendingNotices with
  | true => rw [raise_pending pending]; exact a
  | false =>
    rw [raise_new pending]
    exact syncLines_alarmed (p := { p with pendingNotices := p.pendingNotices ||| n.bit }) a.1

theorem Part.Alarmed.placeReserved {p : Part} {z : ZoneNo} (a : p.Alarmed z) (r : Record) :
    (Machine.placeReserved r p).Alarmed z := by
  have head (c : Prop) [Decidable c] {q : Part} (a : q.Alarmed z) : (if c then headChanged q else q).Alarmed z := by
    unfold headChanged; split
    · split <;> exact a
    · exact a
  unfold Machine.placeReserved placeRecord
  dsimp only
  split
  · exact (head _ (q := { release 1 p with records := _, nextSerial := _ }) a).raise _
  · exact head _ (q := { release 1 p with records := _, nextSerial := _ }) a

theorem Part.Alarmed.endRequest {p : Part} {z : ZoneNo} (a : p.Alarmed z) (h : HoseNo) (cause : EndCause) :
    (Machine.endRequest h cause p).Alarmed z := by
  obtain e | ⟨-, e⟩ | ⟨-, t, -, -, e⟩ | ⟨s, r, -, -, -, e⟩ := endRequest_cases h cause p <;> rw [e]
  · exact a
  · rw [sendLamp_eq]; exact a
  · rw [enterClosing_eq]; exact a
  · rw [endRun_eq]
    refine Part.Alarmed.placeReserved ?_ _
    unfold Part.runStopped
    cases (p.hose h).cfg.tank <;> exact a

theorem tripEnds_alarmed (p : Part) (z : ZoneNo) (c : Cause) : (p.tripEnds z c).Alarmed z :=
  each_invariant (·.Alarmed z) _ _ (fun h _ _ a => a.endRequest h .trip)
    (syncLines_alarmed (by rw [modZone_zone_same]; rfl))

theorem shutOrders_alarmed {p : Part} {z : ZoneNo} (a : p.Alarmed z) (hs : List HoseNo) (ts : List TankNo) :
    (shutOrders hs ts p).Alarmed z := by rw [shutOrders_eq]; exact a

/-! ## What a trip leaves of ports, tanks and hoses -/

/-- An operation that trips and resets no zone and binds no node bars what was barred. -/
theorem Eases.bars_eq {e : Option HoseNo} {p q : Part} (E : Eases e p q) : q.bars = p.bars := by
  funext u
  cases barred : p.bars u with
  | false => exact E.bars.2 barred
  | true => rw [← Bool.not_eq_false, E.bars, barred]; decide

theorem tripDeliveries_ports (ts : List TankNo) (p : Part) :
    (each ts tripDelivery p).up = p.up ∧ (each ts tripDelivery p).fp = p.fp :=
  ⟨each_keep_mem (·.up) tripDelivery ts (fun _ _ _ => rfl) p, each_keep_mem (·.fp) tripDelivery ts (fun _ _ _ => rfl) p⟩

theorem tripDelivery_delivery (j k : TankNo) (p : Part) : ((tripDelivery j p).tank k).delivery =
    if j = k then (p.tank k).delivery.map (Delivery.close .trip) else (p.tank k).delivery := by
  unfold tripDelivery
  rw [modTank_tank]
  split <;> rfl

theorem tripDeliveries_delivery {ts : List TankNo} (nodup : ts.Nodup) (p : Part) (k : TankNo) :
    ((each ts tripDelivery p).tank k).delivery =
      if k ∈ ts then (p.tank k).delivery.map (Delivery.close .trip) else (p.tank k).delivery := by
  have other (j : TankNo) (ne : j ≠ k) (q : Part) : ((tripDelivery j q).tank k).delivery = (q.tank k).delivery := by
    rw [tripDelivery_delivery, if_neg ne]
  by_cases mem : k ∈ ts
  · obtain ⟨q, same, e⟩ := each_at nodup mem (fun q => (q.tank k).delivery) other p
    rw [if_pos mem, ← same]
    exact e.trans ((tripDelivery_delivery ..).trans (if_pos rfl))
  · rw [if_neg mem]
    exact each_keep_mem (fun q => (q.tank k).delivery) tripDelivery ts
      (fun j hj => other j fun e => mem (e ▸ hj)) p

theorem zoneTanks_nodup (p : Part) (z : ZoneNo) : (p.zoneTanks z).Nodup := tankNos_nodup.filter _
theorem mem_zoneTanks {p : Part} {z : ZoneNo} {t : TankNo} : t ∈ p.zoneTanks z ↔ (p.tank t).cfg.zone = z := by
  simp [Part.zoneTanks, mem_tankNos]

section tripSource
variable {z : ZoneNo} {p : Part} (new : (p.zone z).state ≠ .tripped) (c : Cause)
include new

theorem tripSource_of_orders : tripSource c z p = raise (.trip z) (each (p.zoneTanks z) tripDelivery (p.tripOrders z c)) :=
  tripSource_new new c

theorem tripSource_alarmed : (tripSource c z p).Alarmed z := by
  rw [tripSource_of_orders new]
  have shut : (p.tripOrders z c).Alarmed z := shutOrders_alarmed (tripEnds_alarmed p z c) _ _
  have inlets := each_invariant (·.Alarmed z) tripDelivery (p.zoneTanks z) (fun _ _ _ a => a) shut
  exact inlets.raise _

/-- What the inlets and the notice leave of the field port and of what R101 bars. -/
theorem tripSource_fp : (tripSource c z p).fp = (p.tripOrders z c).fp := by
  rw [tripSource_of_orders new, raise_fp]
  exact (tripDeliveries_ports ..).2

theorem tripSource_bars : (tripSource c z p).bars = (p.tripOrders z c).bars := by
  rw [tripSource_of_orders new]
  exact ((Calm.each (e := none) tripDelivery_calm _ _).trans (raise_calm ..)).eases.bars_eq

theorem tripSource_devices : (tripSource c z p).devices = p.devices := by
  rw [tripSource_view (·.devices) (fun _ _ _ => rfl) (fun _ _ => rfl) raise_devices new c]
  exact each_keep_mem (·.devices) _ _ (fun h _ q => endRequest_devices ..) _

theorem tripSource_machines : (tripSource c z p).machines = p.machines := by
  rw [tripSource_view (·.machines) (fun _ _ _ => rfl) (fun _ _ => rfl) raise_machines new c]
  exact each_keep_mem (·.machines) _ _ (fun h _ q => endRequest_machines ..) _

/-- The closing orders, with what R101 bars taken out. -/
theorem tripSource_closing : (tripSource c z p).fp = (((p.shutting (p.zoneHoses z) (p.zoneTanks z)).foldl
    (fun x u => x.queueOrder u) (p.tripEnds z c).fp).dropWaiting (tripSource c z p).bars) := by
  have devices : (p.tripEnds z c).devices = p.devices := each_keep_mem (·.devices) _ _ (fun h _ q => endRequest_devices ..) _
  rw [tripSource_bars new, tripSource_fp new]
  unfold Part.tripOrders
  rw [dropBarred_bars, shutOrders_eq, shutting_congr devices]
  rfl

theorem tripSource_held : (tripSource c z p).OrdersHeld := by
  rw [ordersHeld_iff, tripSource_bars new]
  intro u w
  rw [tripSource_of_orders new] at w
  rcases raise_waits _ _ u w with w | harmless
  · unfold Part.Waits at w
    rw [(tripDeliveries_ports ..).1, (tripDeliveries_ports ..).2] at w
    exact (ordersHeld_iff _).1 (dropBarred_held _) u w
  · exact harmless _

/-- A trip ends every fill and run of its zone. -/
theorem tripSource_still {h : HoseNo} (own : p.hoseZone h = some z) :
    ((tripSource c z p).hose h).mode.dispensing = false ∧ ((tripSource c z p).hose h).mode.run = none := by
  rw [tripSource_hose_eq new]
  exact going_eq_false.1 (endRequests_trip_still (mem_zoneHoses.2 own) (zoneHoses_nodup p z) _)

theorem tripSource_hose_outside {h : HoseNo} (other : p.hoseZone h ≠ some z) : (tripSource c z p).hose h = p.hose h := by
  rw [tripSource_hose_eq new]
  refine (each_keep_mem (·.hose h) _ _ (fun j hj q => endRequest_hose_other (fun e => other ?_) ..) _).trans rfl
  rw [e]; exact mem_zoneHoses.1 hj

theorem tripSource_hose_none {h : HoseNo} (none : (p.hose h).mode.tally = none) : (tripSource c z p).hose h = p.hose h := by
  by_cases own : p.hoseZone h = some z
  · obtain ⟨before, same, -, e⟩ := tripSource_hose_member new c own
    rw [e, endRequest_of_none (by rw [same]; exact none), same]
  · exact tripSource_hose_outside new c own

/-- The inlet of each delivery of the zone is CLOSED, with TRIP where it was OPEN. -/
theorem tripSource_delivery (k : TankNo) : ((tripSource c z p).tank k).delivery =
    if (p.tank k).cfg.zone = z then (p.tank k).delivery.map (Delivery.close .trip) else (p.tank k).delivery := by
  have ended : ((p.tripOrders z c).tank k).delivery = (p.tank k).delivery := by
    have shut : (p.tripOrders z c).tank k = (p.tripEnds z c).tank k := by
      unfold Part.tripOrders; rw [shutOrders_eq]; rfl
    rw [shut]
    refine (each_keep_mem (fun q => (q.tank k).delivery) _ _ (fun h _ q => ?_) _).trans rfl
    rw [endRequest_tank]
  rw [tripSource_of_orders new, raise_tank, tripDeliveries_delivery (zoneTanks_nodup p z), ended]
  simp only [mem_zoneTanks]

end tripSource

theorem close_eq (cause : CloseCause) (d : Delivery) : d.close cause = { d with closed := some (d.closed.getD cause) } := by
  unfold Delivery.close
  split
  · rename_i e; rw [e]; rfl
  · rename_i e; rw [e, Option.getD_some, ← e]

/-- Settles O39: the trip's effects one by one, its hoses through the one end request each of them meets. -/
theorem aTripSourceTripsTheZone : Obligations.ATripSourceTripsTheZone := by
  intro c z p new q orders hoses tanks closing
  obtain ⟨-, shutdown, alarm⟩ := tripSource_alarmed new c
  have zone : q.zone z = (p.zone z).trip c (now p) := by
    unfold Part.zone
    rw [tripSource_zones_eq new c]
    exact modZone_zone_same ..
  have queued : q.fp = (closing.foldl (fun x u => x.queueOrder u) (p.tripEnds z c).fp).dropWaiting q.bars :=
    tripSource_closing new c
  have only : q.fp.Only closing := queued ▸ dropWaiting_only (shutting_only p _ _ _) _
  refine ⟨zone, (tripSource_zone c z p).2, shutdown, alarm, fun h own => tripSource_still new c own,
    fun h ph txn own m => ?_, fun h ses r own m run => ?_, fun h none => tripSource_hose_none new c none,
    fun h other => tripSource_hose_outside new c other, ⟨_, queued⟩, only.1, only.2, tripSource_held new c,
    fun k d own delivery => ?_, fun k other => ?_, ?_, tripSource_machines new c, tripSource_devices new c⟩
  · split
    · exact tripSource_hose_closing c own ‹_›
    · exact tripSource_hose_fill new c own m (Bool.not_eq_true _ ▸ ‹¬_›)
  · obtain ⟨prod, e⟩ := tripSource_hose_run new c own m run
    exact ⟨_, rfl, rfl, rfl, e⟩
  · rw [tripSource_delivery new, if_pos own, delivery, Option.map_some, close_eq]
  · rw [tripSource_delivery new, if_neg other]
  · show (Notice.trip z).isIn (tripSource c z p).pendingNotices = true
    rw [tripSource_of_orders new]
    exact raise_isIn ..

end Sys2Proof.Machine
end

section
/-! Words that are refused while their object is in service (R170, R171). -/

namespace Sys2Proof.Machine

open Sys2Proof

/-! ## Configuration in service -/

/-- Words 0 to 39 of a hose in service: its configuration is shut. -/
theorem hoseSlots_busy {h : HoseNo} {p : Part} (busy : (p.hose h).mode ≠ .out) : (slots (cells (.hose h) p)).take 40 =
    .shut .badValue :: .shut .refusedMode ::
      (List.replicate 3 (.shut .badValue) ++ List.replicate 35 (.shut .refusedMode)) := by
  have shut : ((p.hose h).mode == .out) = false := by simpa using busy
  unfold cells hoseEntry hoseConfigWords
  dsimp only
  rw [shut]
  simp [handlingField, pointNos, stepNos]

theorem hoseWord_busy {h : HoseNo} {p : Part} (busy : (p.hose h).mode ≠ .out) (k : Nat) (w : Word) :
    (k = 1 ∨ 5 ≤ k ∧ k < 40 → writeWord (.hose h) k w p = .error .refusedMode) ∧
    (k = 0 ∨ 2 ≤ k ∧ k < 5 → writeWord (.hose h) k w p = .error .badValue) := by
  have word (lt : k < 40) := (List.getElem?_take_of_lt lt).symm.trans (congrArg (·[k]?) (hoseSlots_busy busy))
  refine ⟨fun at_ => writeWord_shut ((word (by omega)).trans ?_) w, fun at_ => writeWord_shut ((word (by omega)).trans ?_) w⟩
  · rcases at_ with rfl | ⟨lo, hi⟩
    · rfl
    · interval_cases k <;> rfl
  · rcases at_ with rfl | ⟨lo, hi⟩
    · rfl
    · interval_cases k <;> rfl

/-- Words 0 to 42 of a tank in service: its configuration is shut, and the rest is read-only. -/
theorem tankSlots_busy {t : TankNo} {p : Part} (busy : (p.tank t).state ≠ .outOfService) : slots (cells (.tank t) p) =
    .shut .badValue :: (List.replicate 11 (.shut .refusedMode) ++ List.replicate 31 (.shut .badValue)) := by
  have shut : ((p.tank t).state == .outOfService) = false := by simpa using busy
  unfold cells tankEntry
  dsimp only
  rw [shut]
  simp [tankConfigWords]

theorem tankWord_busy {t : TankNo} {p : Part} (busy : (p.tank t).state ≠ .outOfService) (k : Nat) (w : Word) :
    (1 ≤ k → k < 12 → writeWord (.tank t) k w p = .error .refusedMode) ∧
    (k = 0 ∨ 12 ≤ k ∧ k < 43 → writeWord (.tank t) k w p = .error .badValue) := by
  have words := tankSlots_busy busy
  refine ⟨fun lo hi => writeWord_shut ?_ w, fun at_ => writeWord_shut ?_ w⟩ <;> rw [words]
  · interval_cases k <;> rfl
  · rcases at_ with rfl | ⟨lo, hi⟩
    · rfl
    · interval_cases k <;> rfl

theorem strapSlots_busy {t : TankNo} {p : Part} (busy : (p.tank t).state ≠ .outOfService) :
    slots (cells (.strap t) p) = List.replicate 97 (.shut .refusedMode) := by
  have shut : ((p.tank t).state == .outOfService) = false := by simpa using busy
  unfold cells strapEntry
  dsimp only
  rw [shut]
  simp [strapNos]

theorem strapWord_busy {t : TankNo} {p : Part} (busy : (p.tank t).state ≠ .outOfService) {k : Nat} (lt : k < 97) (w : Word) :
    writeWord (.strap t) k w p = .error .refusedMode :=
  writeWord_shut (by rw [strapSlots_busy busy, List.getElem?_replicate, if_pos lt]) w

end Sys2Proof.Machine
end

section
/-! A tank OUT_OF_SERVICE moves between zones (R68, R101, R105). -/

namespace Sys2Proof.Machine

open Sys2Proof

/-! ## The recovery test of a zone -/

/-- The recovery test of a zone passes (R105). -/
def Part.Recovers (p : Part) (y : ZoneNo) : Prop :=
  (p.zone y).state = .recovery ∧ (p.zone y).timer = .expired ∧ p.marksComplete y = true

/-- A zone back in NORMAL. -/
def Zone.recovered (x : Zone) : Zone := { x with state := .normal, causes := 0, marks := 0 }

theorem recoveryTest_cases (y : ZoneNo) (p : Part) :
    (p.Recovers y ∧ recoveryTest y p = syncLines (modZone y Zone.recovered p)) ∨
    (¬p.Recovers y ∧ recoveryTest y p = p) := by
  by_cases ready : p.Recovers y
  · exact .inl ⟨ready, recoveryTest_passed ready.1 ready.2.1 ready.2.2⟩
  · exact .inr ⟨ready, recoveryTest_failed ready⟩

theorem recoveryTest_zone_of {y : ZoneNo} {p : Part} (ready : p.Recovers y) :
    (recoveryTest y p).zone y = (p.zone y).recovered := by
  obtain ⟨-, e⟩ | ⟨not, -⟩ := recoveryTest_cases y p
  · rw [e, syncLines_zone, modZone_zone_same]
  · exact absurd ready not

theorem recoveryTest_zone_still {x y : ZoneNo} {p : Part} (not : ¬(x = y ∧ p.Recovers y)) :
    (recoveryTest x p).zone y = p.zone y := by
  obtain ⟨ready, e⟩ | ⟨-, e⟩ := recoveryTest_cases x p <;> rw [e]
  rw [syncLines_zone, modZone_zone, if_neg fun same => not ⟨same, same ▸ ready⟩]

theorem marksComplete_congr {p q : Part} {y : ZoneNo} (zone : q.zone y = p.zone y) (tanks : ∀ k, q.tank k = p.tank k) :
    q.marksComplete y = p.marksComplete y := by
  rw [Bool.eq_iff_iff, marksComplete_iff, marksComplete_iff]
  simp only [zone, tanks]

theorem recovers_after {x y : ZoneNo} (ne : x ≠ y) (p : Part) : (recoveryTest x p).Recovers y ↔ p.Recovers y := by
  have zone : (recoveryTest x p).zone y = p.zone y := recoveryTest_zone_still fun both => ne both.1
  unfold Part.Recovers
  rw [zone, marksComplete_congr zone (recoveryTest_tank x p)]

/-- The tests of two zones, one after the other. -/
theorem recoveryTests_zone {x z : ZoneNo} (ne : x ≠ z) (p : Part) (y : ZoneNo) :
    ((y = x ∨ y = z) ∧ p.Recovers y → (recoveryTest z (recoveryTest x p)).zone y = (p.zone y).recovered) ∧
    (¬((y = x ∨ y = z) ∧ p.Recovers y) → (recoveryTest z (recoveryTest x p)).zone y = p.zone y) := by
  refine ⟨fun ⟨at_, ready⟩ => ?_, fun not => ?_⟩
  · rcases at_ with rfl | rfl
    · rw [recoveryTest_zone_still fun both => ne both.1.symm, recoveryTest_zone_of ready]
    · rw [recoveryTest_zone_of ((recovers_after ne p).2 ready), recoveryTest_zone_still fun both => ne both.1]
  · rw [recoveryTest_zone_still, recoveryTest_zone_still]
    · exact fun ⟨same, ready⟩ => not ⟨.inl same.symm, ready⟩
    · rintro ⟨rfl, ready⟩
      exact not ⟨.inr rfl, (recovers_after ne p).1 ready⟩

/-- A recovery test changes the zones and the two lines alone. -/
theorem recoveryTest_frame (y : ZoneNo) (p : Part) : recoveryTest y p = { p with
    zones := (recoveryTest y p).zones, shutdown := (recoveryTest y p).shutdown, bayAlarm := (recoveryTest y p).bayAlarm } := by
  obtain ⟨-, e⟩ | ⟨-, e⟩ := recoveryTest_cases y p
  · rw [e]; rfl
  · rw [e]

theorem recoveryTests_frame (x y : ZoneNo) (p : Part) : let q := recoveryTest y (recoveryTest x p)
    q = { p with zones := q.zones, shutdown := q.shutdown, bayAlarm := q.bayAlarm } := by
  intro q
  have tests : q = recoveryTest y (recoveryTest x p) := rfl
  rw [tests]
  obtain ⟨-, e⟩ | ⟨-, e⟩ := recoveryTest_cases y (recoveryTest x p) <;> rw [e]
  · obtain ⟨-, e⟩ | ⟨-, e⟩ := recoveryTest_cases x p <;> rw [e] <;> rfl
  · exact recoveryTest_frame x p

theorem recoveryTest_lines (y : ZoneNo) (p : Part) : recoveryTest y p = p ∨
    (recoveryTest y p).LinesFollow ∧ (recoveryTest y p).zone y ≠ p.zone y := by
  obtain ⟨ready, e⟩ | ⟨-, e⟩ := recoveryTest_cases y p
  · refine .inr ⟨e ▸ syncLines_linesFollow _, fun same => ?_⟩
    rw [recoveryTest_zone_of ready] at same
    have state : ZoneState.normal = (p.zone y).state := congrArg Zone.state same
    rw [ready.1] at state
    cases state
  · exact .inl e

/-- Two tests bring the lines up to date where one of them passes, and do nothing where none does. -/
theorem recoveryTests_lines {x z : ZoneNo} (ne : x ≠ z) (p : Part) : recoveryTest z (recoveryTest x p) = p ∨
    (recoveryTest z (recoveryTest x p)).LinesFollow ∧ (recoveryTest z (recoveryTest x p)).zones ≠ p.zones := by
  rcases recoveryTest_lines z (recoveryTest x p) with same | ⟨follow, changed⟩
  · rw [same]
    rcases recoveryTest_lines x p with same | ⟨follow, changed⟩
    · exact .inl same
    · exact .inr ⟨follow, fun same => changed (by unfold Part.zone; rw [same])⟩
  · refine .inr ⟨follow, fun same => changed ?_⟩
    rw [recoveryTest_zone_still (y := z) (p := p) fun both => ne both.1]
    unfold Part.zone
    rw [same]

/-! ## The tank in its new zone -/

section moves
variable (p : Part) (t : TankNo) (z : ZoneNo)

/-- The part once the tank has its new zone, before the recovery tests. -/
def Part.moved : Part := if (p.zone z).state = .tripped then p.movedShut t z else p.rezoned t z

theorem moveTank_moved (other : z ≠ (p.tank t).cfg.zone) :
    moveTank t z p = recoveryTest z (recoveryTest (p.tank t).cfg.zone (p.moved t z)) := moveTank_eq p t z other

/-- What the closing steps keep of the part in which the tank has its new zone. -/
theorem moved_keep {α : Type} (view : Part → α) (ports : ∀ p up fp, view { p with up := up, fp := fp } = view p)
    (ends : ∀ h, (p.hose h).cfg.tank = some t → ∀ q, view (endRequest h .trip q) = view q) :
    view (p.moved t z) = view (p.rezoned t z) := by
  unfold Part.moved
  split
  · unfold Part.movedShut
    rw [shutOrders_eq]
    have sent (us : List Telegram) (q : Part) : view (sendAll us q) = view q := ports q q.up _
    exact ((ports _ _ _).trans (sent ..)).trans (each_keep_mem view _ _ (fun h mem q => ends h (mem_tankHoses.1 mem) q) _)
  · rfl

theorem moved_tank (k : TankNo) : ((p.moved t z).tank k).cfg =
      (if t = k then { (p.tank k).cfg with zone := z } else (p.tank k).cfg) ∧
    ((p.moved t z).tank k).state = (p.tank k).state ∧ ((p.moved t z).tank k).book = (p.tank k).book := by
  have kept := moved_keep p t z (fun q => ((q.tank k).cfg, (q.tank k).state, (q.tank k).book)) (fun _ _ _ => rfl)
    fun h _ q => by rw [endRequest_tank]
  simp only [Prod.mk.injEq, rezoned_tank] at kept
  obtain ⟨cfg, state, book⟩ := kept
  rw [cfg, state, book]
  split <;> exact ⟨rfl, rfl, rfl⟩

theorem moved_zone (y : ZoneNo) : (p.moved t z).zone y = p.zone y :=
  moved_keep p t z (·.zone y) (fun _ _ _ => rfl) fun h _ q => by unfold Part.zone; rw [endRequest_zones]

theorem moved_devices : (p.moved t z).devices = p.devices :=
  moved_keep p t z (·.devices) (fun _ _ _ => rfl) fun _ _ _ => endRequest_devices ..
theorem moved_machines : (p.moved t z).machines = p.machines :=
  moved_keep p t z (·.machines) (fun _ _ _ => rfl) fun _ _ _ => endRequest_machines ..

theorem moved_hose_other {h : HoseNo} (other : (p.hose h).cfg.tank ≠ some t) : (p.moved t z).hose h = p.hose h :=
  moved_keep p t z (·.hose h) (fun _ _ _ => rfl) fun j own q => endRequest_hose_other (fun e : h = j => other (by rw [e]; exact own)) ..

/-- The recovery tests read the tank in its new zone. -/
theorem moved_recovers (y : ZoneNo) : (p.moved t z).Recovers y ↔
    (p.zone y).state = .recovery ∧ (p.zone y).timer = .expired ∧
      ∀ k, (if k = t then z else (p.tank k).cfg.zone) = y →
        (p.tank k).state = .outOfService ∨ (p.zone y).marks.getLsbD k.val = true := by
  unfold Part.Recovers
  rw [moved_zone, marksComplete_iff]
  refine and_congr_right fun _ => and_congr_right fun _ => forall_congr' fun k => ?_
  obtain ⟨cfg, state, -⟩ := moved_tank p t z k
  rw [cfg, state, moved_zone]
  by_cases own : k = t
  · rw [if_pos own, if_pos own.symm, or_iff_not_imp_left]
  · rw [if_neg own, if_neg (Ne.symm own), or_iff_not_imp_left]

/-! ## Into a TRIPPED zone -/

section shut
variable (tripped : (p.zone z).state = .tripped)
include tripped

theorem moved_shut : p.moved t z = p.movedShut t z := if_pos tripped

theorem moved_still {h : HoseNo} (own : (p.hose h).cfg.tank = some t) :
    ((p.moved t z).hose h).mode.dispensing = false ∧ ((p.moved t z).hose h).mode.run = none := by
  rw [moved_shut p t z tripped]
  apply going_eq_false.1
  unfold Part.movedShut
  rw [shutOrders_eq]
  exact endRequests_trip_still (mem_tankHoses.2 own) (tankHoses_nodup ..) _

theorem moved_closing : ∃ before : Port, (p.moved t z).fp =
    ((p.shutting (p.tankHoses t) [t]).foldl (fun x u => x.queueOrder u) before).dropWaiting (p.moved t z).bars := by
  rw [moved_shut p t z tripped]
  unfold Part.movedShut
  have devices : (each ((p.rezoned t z).tankHoses t) (fun h => endRequest h .trip) (p.rezoned t z)).devices = p.devices :=
    each_keep_mem (·.devices) _ _ (fun h _ q => endRequest_devices ..) _
  rw [dropBarred_bars, shutOrders_eq, shutting_congr devices]
  exact ⟨_, rfl⟩

theorem moved_held : (p.moved t z).OrdersHeld := by
  rw [moved_shut p t z tripped]
  exact dropBarred_held _

end shut
end moves

/-! ## The write of a tank's zone -/

theorem tankZoneSlot {t : TankNo} {p : Part} (out : (p.tank t).state = .outOfService) :
    (slots (cells (.tank t) p))[2]? = some (.one (writeZone t)) := by
  have open_ : ((p.tank t).state == .outOfService) = true := by simpa using out
  unfold cells tankEntry
  dsimp only
  rw [open_]
  simp [tankConfigWords]

theorem writeZone_bad {t : TankNo} {w : Word} {p : Part} (out : (p.tank t).state = .outOfService)
    (bad : w = 0 ∨ 4 < w.toNat) : writeWord (.tank t) 2 w p = .error .badValue := by
  rw [writeWord_one (tankZoneSlot out)]
  unfold writeZone
  rw [fromOne_eq_none (bad.imp_left fun zero => by rw [zero]; rfl)]

theorem writeZone_moves {t : TankNo} {w : Word} {z : ZoneNo} {p : Part} (out : (p.tank t).state = .outOfService)
    (number : w.toNat = z.val + 1) : writeWord (.tank t) 2 w p = .ok (moveTank t z p) := by
  rw [writeWord_one (tankZoneSlot out)]
  unfold writeZone
  rw [fromOne_eq_some z number]

end Sys2Proof.Machine
end

section
/-! Binding writes (R114, R115), and the whole of O56. -/

namespace Sys2Proof.Machine

open Sys2Proof

/-! ## The pair a word names -/

theorem fromOne_iff {n x : Nat} {i : Fin n} : fromOne n x = some i ↔ x = i.val + 1 := by
  refine ⟨fun e => ?_, fromOne_eq_some i⟩
  obtain ⟨j, at_, same⟩ | ⟨-, none⟩ := fromOne_cases n x
  · rw [same] at e; cases e; exact at_
  · rw [none] at e; cases e

/-- The role and the object that name a pair (R113). -/
def Binding.Named (role object : Nat) : Binding → Prop
  | .unbound => role = 0 ∧ object = 0
  | .meter h => role = 1 ∧ object = h.val + 1
  | .reader h => role = 2 ∧ object = h.val + 1
  | .valve h => role = 3 ∧ object = h.val + 1
  | .starter t => role = 4 ∧ object = t.val + 1
  | .inlet t => role = 5 ∧ object = t.val + 1
  | .gauge t => role = 6 ∧ object = t.val + 1
  | .sump z => role = 7 ∧ object = z.val + 1
  | .estop none => role = 8 ∧ object = 0
  | .estop (some z) => role = 8 ∧ object = z.val + 1

theorem bindingOf_of_named {role object : Nat} {b : Binding} (named : b.Named role object) :
    bindingOf role object = some b := by
  cases b with
  | unbound => obtain ⟨rfl, rfl⟩ := named; rfl
  | estop z =>
    cases z with
    | none => obtain ⟨rfl, rfl⟩ := named; rfl
    | some z =>
      obtain ⟨rfl, at_⟩ := named
      have some_ : object ≠ 0 := by omega
      simp only [bindingOf, if_neg some_, fromOne_eq_some z at_, Option.map_some]
  | _ i =>
    obtain ⟨rfl, at_⟩ := named
    simp only [bindingOf, fromOne_eq_some i at_, Option.map_some]

theorem bindingOf_named {role object : Nat} {b : Binding} (e : bindingOf role object = some b) : b.Named role object := by
  unfold bindingOf at e
  split at e
  case h_1 =>
    split at e <;> cases e
    exact ⟨rfl, ‹_›⟩
  case h_9 =>
    split at e
    · cases e; exact ⟨rfl, ‹_›⟩
    · obtain ⟨z, at_, rfl⟩ := Option.map_eq_some_iff.1 e
      exact ⟨rfl, fromOne_iff.1 at_⟩
  case h_10 => cases e
  all_goals
    obtain ⟨i, at_, rfl⟩ := Option.map_eq_some_iff.1 e
    exact ⟨rfl, fromOne_iff.1 at_⟩

theorem bindingOf_none {role object : Nat} (no : ∀ b : Binding, ¬b.Named role object) : bindingOf role object = none := by
  cases e : bindingOf role object with
  | none => rfl
  | some b => exact absurd (bindingOf_named e) (no b)

/-! ## The checks of a binding write -/

/-- The object reached through a role is at work (R114 checks 5 and 6). -/
def Part.Works (p : Part) : Binding → Prop
  | .meter h | .reader h | .valve h => (p.hose h).mode ≠ .out
  | .starter t | .inlet t | .gauge t => (p.tank t).state = .receiving ∨ 0 < (p.tank t).openHoses
  | .sump _ | .estop _ | .unbound => False

theorem works_iff (p : Part) (b : Binding) : p.Works b ↔ (p.hoseWorking b || p.tankWorking b) = true := by
  cases b <;> simp [Part.Works, Part.hoseWorking, Part.tankWorking]

theorem boundNode_isSome (p : Part) (b : Binding) : (p.boundNode b).isSome = true ↔ ∃ m, (p.device m).binding = b := by
  refine ⟨fun some_ => ?_, fun ⟨m, bound⟩ => firstIdx_isSome (i := m) (beq_iff_eq.2 bound)⟩
  obtain ⟨m, bound⟩ := Option.isSome_iff_exists.1 some_
  exact ⟨m, boundNode_binding bound⟩

/-- What an accepted binding write does. -/
def Part.bound (p : Part) (n : DevNo) (b : Binding) : Part :=
  holdTaken b (rebindOwner b (rebindOwner (p.device n).binding
    (modDevice n (fun d => d.rebound b) (modPort .fp (Port.dropOrders (nodeOf n)) p))))

section bindDevice
variable {n : DevNo} {role object : Nat} {p : Part}

theorem bindDevice_run (run : p.bayMode = .run) : bindDevice n role object p = .error .refusedMode :=
  if_pos (by rw [run]; decide)

variable (layUp : p.bayMode = .layUp)
include layUp

theorem bindDevice_unnamed (no : ∀ b : Binding, ¬b.Named role object) : bindDevice n role object p = .error .badValue := by
  unfold bindDevice
  rw [if_neg (not_not.2 layUp), bindingOf_none no]

section named
variable {b : Binding} (named : b.Named role object)
include named

theorem bindDevice_named : bindDevice n role object p =
    if b = (p.device n).binding then .ok p
    else if b ≠ .unbound && (p.boundNode b).isSome then .error .inUse
    else if p.hoseWorking (p.device n).binding || p.hoseWorking b then .error .inUse
    else if p.tankWorking (p.device n).binding || p.tankWorking b then .error .inUse
    else .ok (p.bound n b) := by
  unfold bindDevice
  rw [if_neg (not_not.2 layUp), bindingOf_of_named named]
  rfl

theorem bindDevice_same (same : b = (p.device n).binding) : bindDevice n role object p = .ok p := by
  rw [bindDevice_named layUp named, if_pos same]

section other
variable (other : b ≠ (p.device n).binding)
include other

theorem bindDevice_inUse (busy : (b ≠ .unbound ∧ ∃ m, (p.device m).binding = b) ∨ p.Works (p.device n).binding ∨ p.Works b) :
    bindDevice n role object p = .error .inUse := by
  rw [bindDevice_named layUp named, if_neg other]
  simp only [works_iff, ← boundNode_isSome, Bool.or_eq_true] at busy
  by_cases taken : (b ≠ .unbound && (p.boundNode b).isSome) = true
  · rw [if_pos taken]
  rw [if_neg taken]
  by_cases hoses : (p.hoseWorking (p.device n).binding || p.hoseWorking b) = true
  · rw [if_pos hoses]
  rw [if_neg hoses, if_pos]
  simp only [Bool.and_eq_true, decide_eq_true_eq, Bool.or_eq_true] at taken hoses ⊢
  tauto

theorem bindDevice_free (free : b = .unbound ∨ ∀ m, (p.device m).binding ≠ b) (old : ¬p.Works (p.device n).binding)
    (new : ¬p.Works b) : bindDevice n role object p = .ok (p.bound n b) := by
  rw [works_iff, Bool.or_eq_true, not_or] at old new
  rw [bindDevice_named layUp named, if_neg other, if_neg, if_neg, if_neg]
  · simp only [Bool.or_eq_true, not_or]; exact ⟨old.2, new.2⟩
  · simp only [Bool.or_eq_true, not_or]; exact ⟨old.1, new.1⟩
  · simp only [Bool.and_eq_true, decide_eq_true_eq, boundNode_isSome, not_and, not_exists]
    exact fun some_ m => free.resolve_left some_ m

end other
end named
end bindDevice

/-- The zone of what is taken is TRIPPED, for a valve, a starter or an inlet. -/
def Part.takenTripped (p : Part) : Binding → Bool
  | .valve h => p.hoseTripped h
  | .starter t | .inlet t => (p.zone (p.tank t).cfg.zone).state == .tripped
  | _ => false

theorem holdTaken_eq (b : Binding) (p : Part) : holdTaken b p = if p.takenTripped b then dropBarred p else p := by
  cases b with
  | starter t | inlet t =>
    by_cases trip : (p.zone (p.tank t).cfg.zone).state = .tripped
    · exact (if_pos trip).trans (if_pos (beq_iff_eq.2 trip)).symm
    · exact (if_neg trip).trans (if_neg (mt beq_iff_eq.1 trip)).symm
  | _ => rfl

/-- The owners that are told leave the zones as they are. -/
theorem Eases.takenTripped {e : Option HoseNo} {p q : Part} (E : Eases e p q) (b : Binding) :
    q.takenTripped b = p.takenTripped b := by
  cases b with
  | valve h => exact E.hoseTripped h
  | starter t | inlet t => exact E.tankTripped t
  | _ => rfl

theorem bound_eq (p : Part) (n : DevNo) (b : Binding) : p.bound n b =
    let q := rebindOwner b (rebindOwner (p.device n).binding
      (modDevice n (fun d => d.rebound b) (modPort .fp (Port.dropOrders (nodeOf n)) p)))
    if p.takenTripped b then dropBarred q else q := by
  have told (q : Part) := ((rebindOwner_calm (e := none) (p.device n).binding q).trans
    (rebindOwner_calm b _)).eases.takenTripped b
  unfold Part.bound
  rw [holdTaken_eq, told]
  rfl

theorem deviceWord_bind (n : DevNo) (w : Word) (p : Part) :
    writeWord (.device n) 0 w p = bindDevice n (w.toNat % 256) (w.toNat / 256) p := by
  have low : lowPart w = w.toNat % 256 := by unfold lowPart; rw [bitsOf_eq]; omega
  have high : highPart w = w.toNat / 256 := by
    have small := w.isLt
    unfold highPart
    rw [bitsOf_eq]
    omega
  rw [writeWord_one (f := fun w => bindDevice n (lowPart w) (highPart w)) rfl, low, high]

/-! ## The whole of it -/

/-- Settles O56: the words that are shut, the tank's move, and the binding write, each from its lemmas. -/
theorem configurationAndBindingsAreWrittenUnderTheirConditions :
    Obligations.ConfigurationAndBindingsAreWrittenUnderTheirConditions := by
  refine ⟨⟨fun h k w p busy => hoseWord_busy busy k w, fun t k w p busy => ⟨(tankWord_busy busy k w).1,
    (tankWord_busy busy k w).2, fun lt => strapWord_busy busy lt w⟩⟩, fun t w p out => ⟨writeZone_bad out, fun z number => ?_⟩, ?_⟩
  · intro old
    refine ⟨fun same => (writeZone_moves out number).trans ?_, fun other => ⟨moveTank t z p, writeZone_moves out number, ?_⟩⟩
    · unfold moveTank; rw [if_pos same]
    · rw [moveTank_moved p t z other]
      have tank (k : TankNo) : (recoveryTest z (recoveryTest old (p.moved t z))).tank k = (p.moved t z).tank k := by
        rw [recoveryTest_tank, recoveryTest_tank]
      have hose (h : HoseNo) : (recoveryTest z (recoveryTest old (p.moved t z))).hose h = (p.moved t z).hose h := by
        rw [recoveryTest_hose, recoveryTest_hose]
      have zones := recoveryTests_zone (Ne.symm other) (p.moved t z)
      have frame := recoveryTests_frame old z (p.moved t z)
      have calm : Calm none (p.moved t z) (recoveryTest z (recoveryTest old (p.moved t z))) :=
        (recoveryTest_calm ..).trans (recoveryTest_calm ..)
      refine ⟨?_, ?_, fun k ne => ?_, ⟨fun y ready => ?_, fun y not => ?_⟩, fun h outside => ?_, ?_, ?_, fun k => ?_,
        fun free => ?_, fun tripped => ?_⟩
      · rw [tank, (moved_tank p t z t).1, if_pos rfl]
      · rw [tank, (moved_tank p t z t).2.1, out]
      · rw [tank, (moved_tank p t z k).1, if_neg ne.symm, (moved_tank p t z k).2.1]
        exact ⟨rfl, rfl⟩
      · rw [(zones y).1 ⟨ready.1, (moved_recovers p t z y).2 ready.2⟩, moved_zone]
        rfl
      · rw [(zones y).2 fun ready => not ⟨ready.1, (moved_recovers p t z y).1 ready.2⟩, moved_zone]
      · rw [hose, moved_hose_other p t z outside]
      · rw [frame]; exact moved_machines p t z
      · rw [frame]; exact moved_devices p t z
      · rw [tank, (moved_tank p t z k).2.2]
      · have plain : p.moved t z = p.rezoned t z := if_neg free
        rw [plain] at frame ⊢
        refine ⟨frame, ?_⟩
        rcases recoveryTests_lines (Ne.symm other) (p.rezoned t z) with same | ⟨follow, changed⟩
        · rw [same]; exact ⟨fun _ => ⟨rfl, rfl⟩, fun changed => absurd rfl changed⟩
        · exact ⟨fun same => absurd same changed, fun _ => follow⟩
      · intro orders hoses closing
        obtain ⟨before, closed⟩ := moved_closing p t z tripped
        refine ⟨fun h own => ?_, ⟨before, ?_⟩, fun u waits => ?_⟩
        · rw [hose]; exact moved_still p t z tripped own
        · rw [calm.eases.bars_eq, frame]; exact closed
        · rw [calm.eases.bars_eq]
          rw [frame] at waits
          exact moved_held p t z tripped u waits
  · intro n w p old role object named works tripped told answers
    have bind : writeWord (.device n) 0 w p = bindDevice n role object p := deviceWord_bind n w p
    have names (b : Binding) : named b ↔ b.Named role object := by
      cases b with
      | estop z => cases z <;> exact Iff.rfl
      | _ => exact Iff.rfl
    have working (b : Binding) : works b ↔ p.Works b := by cases b <;> exact Iff.rfl
    have trips (b : Binding) : tripped b = p.takenTripped b := by cases b <;> rfl
    have tells (b : Binding) : told b = rebindOwner b := by cases b <;> rfl
    refine ⟨fun run => bind.trans (bindDevice_run run), fun layUp no => bind.trans (bindDevice_unnamed layUp fun b is =>
      no b ((names b).2 is)), fun b layUp is => ?_⟩
    rw [names] at is
    refine ⟨fun same => bind.trans (bindDevice_same layUp is same), fun other => ⟨fun busy => ?_, fun free idle new => ?_⟩⟩
    · rw [working, working] at busy
      exact bind.trans (bindDevice_inUse layUp is other busy)
    · rw [working] at idle new
      refine (bind.trans (bindDevice_free layUp is other free idle new)).trans (congrArg Except.ok ?_)
      rw [bound_eq, trips, tells, tells]
      rfl

end Sys2Proof.Machine
end

section
/-! The two lines and the trip notices (R99, R108, R109, R165): what an operation must keep for them, and the operations
that keep it, from the ports to the trips. -/

namespace Sys2Proof.Machine

open Sys2Proof

/-! ## What an operation heeds -/

/-- The trip notice of the zone is pending if the zone is TRIPPED (R99, R165). -/
def Part.TripPends (p : Part) (z : ZoneNo) : Prop :=
  (p.zone z).state = .tripped → (Notice.trip z).isIn p.pendingNotices = true

/-- From `p` to `q` the lines go on following the zones, and the trip notice of each zone pending while it is TRIPPED. -/
structure Heeds (p q : Part) : Prop where
  lines : p.LinesFollow → q.LinesFollow
  trips : ∀ z, p.TripPends z → q.TripPends z

theorem Heeds.refl (p : Part) : Heeds p p := ⟨id, fun _ => id⟩

theorem Heeds.trans {p q r : Part} (H : Heeds p q) (K : Heeds q r) : Heeds p r :=
  ⟨fun l => K.lines (H.lines l), fun z t => K.trips z (H.trips z t)⟩

/-- All that the promises read of a part. -/
def Part.alarms (p : Part) : Vector Zone 4 × Bool × Bool × Word := (p.zones, p.shutdown, p.bayAlarm, p.pendingNotices)

section
variable {p q : Part}

theorem Heeds.same {r : Part} (H : Heeds p q) (same : r.alarms = q.alarms) : Heeds p r := by
  obtain ⟨zones, shutdown, alarm, pending⟩ : r.zones = q.zones ∧ r.shutdown = q.shutdown ∧
    r.bayAlarm = q.bayAlarm ∧ r.pendingNotices = q.pendingNotices := by simpa [Part.alarms] using same
  have zone (z : ZoneNo) : r.zone z = q.zone z := by unfold Part.zone; rw [zones]
  refine ⟨fun l => ?_, fun z t => ?_⟩
  · unfold Part.LinesFollow; simp only [zone, shutdown, alarm, pending]; exact H.lines l
  · unfold Part.TripPends; rw [zone, pending]; exact H.trips z t

/-- An operation on the ports alone. -/
theorem Heeds.ports {r : Part} (H : Heeds p q) (ports : r.sansPorts = q.sansPorts) : Heeds p r := by
  have alarms : r.sansPorts.alarms = q.sansPorts.alarms := by rw [ports]
  exact H.same alarms

theorem Heeds.ite {a b : Part} {c : Prop} [Decidable c] (yes : Heeds p a) (no : Heeds p b) :
    Heeds p (if c then a else b) := by
  split; exacts [yes, no]

theorem each_heeds {ι : Type} {f : ι → Part → Part} {is : List ι} (step : ∀ i r, Heeds p r → Heeds p (f i r))
    (H : Heeds p q) : Heeds p (each is f q) := each_invariant (Heeds p) f is (fun i _ r => step i r) H

/-! ## Ports, lines and notices -/

theorem modPort_heeds {x : PortId} {f : Port → Port} (H : Heeds p q) : Heeds p (modPort x f q) :=
  H.ports (modPort_sansPorts ..)
theorem countEvent_heeds {x : PortId} {e : PortEvent} (H : Heeds p q) : Heeds p (countEvent x e q) := modPort_heeds H
theorem consumeUp_heeds (H : Heeds p q) : Heeds p (consumeUp q) := modPort_heeds H
theorem reply_heeds {src : Node} {st : Status} {d : List Byte} (H : Heeds p q) : Heeds p (reply src st d q) :=
  modPort_heeds H
theorem sendValve_heeds {h : HoseNo} {c : Nat} (H : Heeds p q) : Heeds p (sendValve h c q) :=
  H.ports (sendValve_sansPorts ..)
theorem sendInlet_heeds {t : TankNo} {c : Nat} (H : Heeds p q) : Heeds p (sendInlet t c q) :=
  H.ports (sendInlet_sansPorts ..)
theorem sendRun_heeds {t : TankNo} {c : Nat} (H : Heeds p q) : Heeds p (sendRun t c q) :=
  H.ports (sendRun_sansPorts ..)
theorem forceLamp_heeds {h : HoseNo} {v : Byte} (H : Heeds p q) : Heeds p (forceLamp h v q) :=
  H.ports (forceLamp_sansPorts ..)
theorem sendLamp_heeds {h : HoseNo} {v : Byte} (H : Heeds p q) : Heeds p (sendLamp h v q) :=
  H.ports (sendLamp_sansPorts ..)
theorem shutOrders_heeds {hs : List HoseNo} {ts : List TankNo} (H : Heeds p q) : Heeds p (shutOrders hs ts q) :=
  H.ports (shutOrders_sansPorts ..)
theorem dropBarred_heeds (H : Heeds p q) : Heeds p (dropBarred q) := H.ports (dropBarred_sansPorts _)

/-- Whatever the lines were, they follow once they are brought up to date. -/
theorem syncLines_heeds (trips : ∀ z, p.TripPends z → q.TripPends z) : Heeds p (syncLines q) :=
  ⟨fun _ => syncLines_linesFollow q, trips⟩

theorem raise_heeds {n : Notice} (H : Heeds p q) : Heeds p (raise n q) := by
  cases was : n.isIn q.pendingNotices with
  | true => rw [raise_pending was]; exact H
  | false =>
    refine ⟨fun _ => ?_, fun z t tripped => raise_isIn_mono n (H.trips z t ?_)⟩
    · rw [raise_new was]; exact syncLines_linesFollow { q with pendingNotices := q.pendingNotices ||| n.bit }
    · rw [raise_zone] at tripped; exact tripped

/-! ## Records -/

theorem release_heeds {k : Nat} (H : Heeds p q) : Heeds p (release k q) := H.same rfl
theorem reserve_heeds {k : Nat} (H : Heeds p q) : Heeds p (reserve k q) := H.same rfl
theorem headChanged_heeds (H : Heeds p q) : Heeds p (headChanged q) := by
  unfold headChanged; exact .ite (H.same rfl) H

theorem placeRecord_heeds {r : Record} (H : Heeds p q) : Heeds p (placeRecord r q) := by
  have placed : Heeds p { q with records := q.records ++ [{ r with serial := q.nextSerial }],
                                 nextSerial := (q.nextSerial + 1) % 65536 } := H.same rfl
  have head := Heeds.ite (c := q.records.isEmpty = true) (headChanged_heeds placed) placed
  exact .ite (raise_heeds head) head

theorem placeReserved_heeds {r : Record} (H : Heeds p q) : Heeds p (placeReserved r q) := placeRecord_heeds (release_heeds H)

/-! ## One object changed -/

theorem modHose_heeds {h : HoseNo} {f : Hose → Hose} (H : Heeds p q) : Heeds p (modHose h f q) := H.same rfl
theorem setMode_heeds {h : HoseNo} {m : HoseMode} (H : Heeds p q) : Heeds p (setMode h m q) := H.same rfl
theorem modTally_heeds {h : HoseNo} {f : Tally → Tally} (H : Heeds p q) : Heeds p (modTally h f q) := H.same rfl
theorem modTank_heeds {t : TankNo} {f : Tank → Tank} (H : Heeds p q) : Heeds p (modTank t f q) := H.same rfl
theorem modPump_heeds {t : TankNo} {f : Pump → Pump} (H : Heeds p q) : Heeds p (modPump t f q) := H.same rfl
theorem modMachine_heeds {m : SlotNo} {f : MachineRec → MachineRec} (H : Heeds p q) : Heeds p (modMachine m f q) :=
  H.same rfl
theorem modDevice_heeds {n : DevNo} {f : Device → Device} (H : Heeds p q) : Heeds p (modDevice n f q) := H.same rfl

/-- A zone's record may change, but not its state. -/
theorem modZone_heeds {z : ZoneNo} {f : Zone → Zone} (state : (f (q.zone z)).state = (q.zone z).state) (H : Heeds p q) :
    Heeds p (modZone z f q) := by
  have states (y : ZoneNo) : ((modZone z f q).zone y).state = (q.zone y).state := by
    rw [modZone_zone]
    split
    · subst_vars; exact state
    · rfl
  refine ⟨fun l => ?_, fun y t => ?_⟩
  · unfold Part.LinesFollow; simp only [states]; exact H.lines l
  · unfold Part.TripPends; rw [states]; exact H.trips y t

/-! ## Fills and runs -/

theorem openOnTank_heeds {t : TankNo} (H : Heeds p q) : Heeds p (openOnTank t q) := H.same rfl
theorem closeOnTank_heeds {t : TankNo} (H : Heeds p q) : Heeds p (closeOnTank t q) := H.same rfl

theorem claimPump_heeds {h : HoseNo} {t : TankNo} (H : Heeds p q) : Heeds p (claimPump h t q) :=
  have counted := modPump_heeds H
  .ite (.ite (sendRun_heeds (modTally_heeds (modPump_heeds counted))) (modPump_heeds counted)) counted

theorem releasePump_heeds {t : TankNo} (H : Heeds p q) : Heeds p (releasePump t q) :=
  .ite (sendRun_heeds (modPump_heeds (modPump_heeds H))) (modPump_heeds H)

theorem enterClosing_heeds {h : HoseNo} {c : EndCause} {t : Transaction} (H : Heeds p q) : Heeds p (enterClosing h c t q) :=
  releasePump_heeds (sendLamp_heeds (sendValve_heeds (setMode_heeds H)))

theorem enterOut_heeds {h : HoseNo} (H : Heeds p q) : Heeds p (enterOut h q) :=
  sendLamp_heeds (sendValve_heeds (setMode_heeds H))

theorem endRun_heeds {h : HoseNo} {c : EndCause} {s : Session} {r : ProvingRun} (H : Heeds p q) :
    Heeds p (endRun h c s r q) := by
  unfold endRun
  refine placeReserved_heeds ?_
  have shut {m : HoseMode} {v : Byte} := sendLamp_heeds (h := h) (v := v) (sendValve_heeds (h := h) (c := 0)
    (setMode_heeds (h := h) (m := m) H))
  split
  · exact closeOnTank_heeds (releasePump_heeds shut)
  · exact shut

theorem endRequest_heeds {h : HoseNo} {c : EndCause} (H : Heeds p q) : Heeds p (endRequest h c q) := by
  unfold endRequest
  split
  · exact H
  · exact H
  · exact .ite (sendLamp_heeds H) H
  · exact enterClosing_heeds H
  · split
    · exact .ite (endRun_heeds H) H
    · exact H

theorem endFills_heeds {t : TankNo} {c : EndCause} (H : Heeds p q) : Heeds p (endFills t c q) :=
  each_heeds (fun _ _ K => .ite (endRequest_heeds K) K) H

theorem stopPumping_heeds {t : TankNo} (H : Heeds p q) : Heeds p (stopPumping t q) := by
  unfold stopPumping; exact modPump_heeds (.ite (each_heeds (fun _ _ => endRequest_heeds) H) H)

theorem confirmPump_heeds {t : TankNo} (H : Heeds p q) : Heeds p (confirmPump t q) :=
  each_heeds (fun _ _ => modTally_heeds) (modPump_heeds H)

theorem markDoubt_heeds {h : HoseNo} (H : Heeds p q) : Heeds p (markDoubt h q) := modTally_heeds H

theorem closeMachine_heeds {t : Transaction} {c : EndCause} (H : Heeds p q) : Heeds p (closeMachine t c q) := by
  unfold closeMachine; exact modMachine_heeds (.ite (raise_heeds (modMachine_heeds H)) (modMachine_heeds H))

theorem leaveClosing_heeds {h : HoseNo} (H : Heeds p q) : Heeds p (leaveClosing h q) := by
  unfold leaveClosing
  split
  · rename_i cause ended t _
    have closed := closeOnTank_heeds (t := t.tank) (closeMachine_heeds (t := t) (c := cause)
      (placeReserved_heeds (r := fillRecord h t cause ended) H))
    exact .ite (enterOut_heeds (modHose_heeds closed)) (setMode_heeds closed)
  · exact H

/-! ## Trips (R99, R100) -/

theorem tripDelivery_heeds {t : TankNo} (H : Heeds p q) : Heeds p (tripDelivery t q) := modTank_heeds H

/-- What follows the zone's own record in a trip: the ends, the orders, the inlets and the notice. -/
theorem tripSource_after {z : ZoneNo} (new : (q.zone z).state ≠ .tripped) (c : Cause) :
    Heeds (q.tripping z c) (tripSource c z q) := by
  rw [tripSource_new new]
  have ends : Heeds (q.tripping z c) (q.tripEnds z c) := each_heeds (fun _ _ => endRequest_heeds) (.refl _)
  exact raise_heeds (each_heeds (fun _ _ => tripDelivery_heeds) (dropBarred_heeds (shutOrders_heeds ends)))

/-- A trip that takes its zone's notice with it: the lines have followed the zone at once, and no other zone's notice has
gone when the ends, the orders and the inlets are done. -/
theorem tripSource_heeds {c : Cause} {z : ZoneNo} (H : Heeds p q) : Heeds p (tripSource c z q) := by
  refine H.trans ?_
  by_cases was : (q.zone z).state = .tripped
  · rw [tripSource_again was]; exact modZone_heeds (by rfl) (.refl q)
  · have after := tripSource_after was c
    refine ⟨fun _ => after.lines (syncLines_linesFollow _), fun y t => ?_⟩
    by_cases own : y = z
    · subst own; intro _; rw [tripSource_new was]; exact raise_isIn ..
    · refine after.trips y ?_
      unfold Part.TripPends Part.tripping
      rw [syncLines_zone, modZone_zone, if_neg (Ne.symm own)]
      exact t

theorem tripAll_heeds {c : Cause} (H : Heeds p q) : Heeds p (tripAll c q) := each_heeds (fun _ _ => tripSource_heeds) H

theorem tripFor_heeds {c : Cause} {z : Option ZoneNo} (H : Heeds p q) : Heeds p (tripFor c z q) := by
  cases z; exacts [tripAll_heeds H, tripSource_heeds H]

theorem tripHose_heeds {c : Cause} {h : HoseNo} (H : Heeds p q) : Heeds p (tripHose c h q) := by
  unfold tripHose; split; exacts [tripSource_heeds H, H]

/-! ## Recovery (R104, R105) -/

/-- A zone that leaves TRIPPED needs no notice, and the lines follow it. -/
theorem syncLines_modZone_heeds {z : ZoneNo} {f : Zone → Zone} (state : (f (q.zone z)).state ≠ .tripped)
    (H : Heeds p q) : Heeds p (syncLines (modZone z f q)) := by
  refine syncLines_heeds fun y t tripped => ?_
  rw [modZone_zone] at tripped
  split at tripped
  · subst_vars; exact absurd tripped state
  · exact H.trips y t tripped

theorem recoveryTest_heeds {z : ZoneNo} (H : Heeds p q) : Heeds p (recoveryTest z q) :=
  .ite (syncLines_modZone_heeds nofun H) H

theorem enterRecovery_heeds {z : ZoneNo} (H : Heeds p q) : Heeds p (enterRecovery z q) :=
  each_heeds (fun _ _ => forceLamp_heeds) (syncLines_modZone_heeds nofun H)

theorem gaugeMark_heeds {t : TankNo} (H : Heeds p q) : Heeds p (gaugeMark t q) :=
  .ite (recoveryTest_heeds (modZone_heeds (by rfl) H)) H

theorem setTankState_heeds {t : TankNo} {s : TankState} (H : Heeds p q) : Heeds p (setTankState t s q) :=
  recoveryTest_heeds (modTank_heeds H)

end

end Sys2Proof.Machine
end

section
/-! The stock, the samples, the TAG reports, the Pass filter and the monitor keep the lines and the trip notices (R99, R108,
R109, R165). -/

namespace Sys2Proof.Machine

open Sys2Proof

variable {p q : Part}

/-! ## Stock -/

theorem lowStockTest_heeds {t : TankNo} (H : Heeds p q) : Heeds p (lowStockTest t q) :=
  .ite (.ite (endFills_heeds H) (raise_heeds (modTank_heeds (endFills_heeds H)))) (modTank_heeds H)

theorem disturbWindows_heeds {t : TankNo} (H : Heeds p q) : Heeds p (disturbWindows t q) := modTank_heeds H

theorem handOff_heeds {t : TankNo} {a : Account} {ml : Nat} (H : Heeds p q) : Heeds p (handOff t a ml q) :=
  .ite H (modTank_heeds (lowStockTest_heeds (modTank_heeds (modTank_heeds H))))

theorem closeInlet_heeds {t : TankNo} {c : CloseCause} (H : Heeds p q) : Heeds p (closeInlet t c q) :=
  .ite (modTank_heeds (sendInlet_heeds H)) H

theorem gaugeLeftGood_heeds {t : TankNo} (H : Heeds p q) : Heeds p (gaugeLeftGood t q) := disturbWindows_heeds H

theorem faultedLevel_heeds {t : TankNo} (H : Heeds p q) : Heeds p (faultedLevel t q) :=
  closeInlet_heeds (disturbWindows_heeds (modTank_heeds H))

theorem takeReading_heeds {t : TankNo} {r : LevelReading} (H : Heeds p q) : Heeds p (takeReading t r q) := modTank_heeds H

theorem lossStep_heeds {t : TankNo} {b : Bool} (H : Heeds p q) : Heeds p (lossStep t b q) := by
  refine .ite ?_ H
  split
  · exact modTank_heeds H
  · exact .ite (tripSource_heeds (modTank_heeds H)) H
  · exact H

theorem restStep_heeds {t : TankNo} (H : Heeds p q) : Heeds p (restStep t q) := by
  unfold restStep
  split
  · exact .ite (modTank_heeds H) H
  · exact modTank_heeds H
  · exact H

theorem highHighTest_heeds {t : TankNo} {l : Nat} (H : Heeds p q) : Heeds p (highHighTest t l q) :=
  .ite (raise_heeds (closeInlet_heeds H)) H

theorem takeLevel_heeds {t : TankNo} {d : List Byte} (H : Heeds p q) : Heeds p (takeLevel t d q) := by
  unfold takeLevel
  split
  · exact H
  · have read {r : LevelReading} := takeReading_heeds (t := t) (r := r) H
    exact .ite (faultedLevel_heeds H)
      (highHighTest_heeds (restStep_heeds (lossStep_heeds (.ite read (gaugeMark_heeds read)))))

theorem restExpiry_heeds {t : TankNo} (H : Heeds p q) : Heeds p (restExpiry t q) := by
  unfold restExpiry
  dsimp only
  split
  · exact H
  · have next {f : Tank → Tank} := modTank_heeds (t := t) (f := f) H
    exact .ite next (.ite (tripSource_heeds next) (.ite (raise_heeds next) next))

theorem endDelivery_heeds {t : TankNo} {c : CloseCause} {d : Delivery} (H : Heeds p q) : Heeds p (endDelivery t c d q) := by
  have shut := Heeds.ite (c := d.closed.isNone = true) (sendInlet_heeds (t := t) (c := 0) H) H
  have placed {f : Tank → Tank} {r : Record} := placeReserved_heeds (r := r)
    (lowStockTest_heeds (t := t) (modTank_heeds (t := t) (f := f) shut))
  exact setTankState_heeds (modTank_heeds (.ite (raise_heeds placed) placed))

theorem restartDelivery_heeds {t : TankNo} (H : Heeds p q) : Heeds p (restartDelivery t q) := by
  unfold restartDelivery; split; exacts [endDelivery_heeds H, H]

/-! ## Refusals and openings (R7 to R9, R180) -/

theorem refuseFill_heeds {h : HoseNo} {c : RefusalCause} {tag : Long} {m : Option SlotNo} {hours : Option Nat} {fl : Flags}
    (H : Heeds p q) : Heeds p (refuseFill h c tag m hours fl q) :=
  .ite (placeRecord_heeds (sendLamp_heeds H)) (modHose_heeds (sendLamp_heeds H))

theorem openFill_heeds {h : HoseNo} {t : Transaction} (H : Heeds p q) : Heeds p (openFill h t q) :=
  claimPump_heeds (sendLamp_heeds (sendValve_heeds (openOnTank_heeds (modHose_heeds (modMachine_heeds
    (setMode_heeds (reserve_heeds H)))))))

theorem capCheck_heeds {h : HoseNo} {r : TagReading} {m : SlotNo} {t : TankNo} {i : ProductNo} (H : Heeds p q) :
    Heeds p (capCheck h r m t i q) := by
  have assessed {f : MachineRec → MachineRec} {c : Prop} [Decidable c] : Heeds p
      (if c then raise .hoursFault (modMachine m f q) else modMachine m f q) :=
    .ite (raise_heeds (modMachine_heeds H)) (modMachine_heeds H)
  exact .ite (refuseFill_heeds assessed) (openFill_heeds assessed)

theorem holdEvaluation_heeds {m : SlotNo} {c : ProductClass} {hours : Option Nat} (H : Heeds p q) :
    Heeds p (holdEvaluation m c hours q) :=
  .ite (.ite (raise_heeds (modMachine_heeds H)) (modMachine_heeds H)) H

theorem authorize_heeds {h : HoseNo} {r : TagReading} (H : Heeds p q) : Heeds p (authorize h r q) := by
  unfold authorize
  split
  · exact refuseFill_heeds H
  · split
    · exact refuseFill_heeds H
    · split
      · exact refuseFill_heeds H
      · exact H
      · split
        · exact H
        · have held {m : SlotNo} {c : ProductClass} := holdEvaluation_heeds (m := m) (c := c) (hours := r.hours) H
          exact .ite (refuseFill_heeds held) (.ite (refuseFill_heeds held) (capCheck_heeds held))

theorem beginRun_heeds {h : HoseNo} {s : Session} (H : Heeds p q) : Heeds p (beginRun h s q) := by
  unfold beginRun
  split
  · exact claimPump_heeds (sendLamp_heeds (sendValve_heeds (openOnTank_heeds (setMode_heeds H))))
  · exact sendLamp_heeds H

/-! ## TAG reports (R6) -/

theorem tagRequest_heeds {h : HoseNo} {n : Nozzle} (H : Heeds p q) : Heeds p (tagRequest h n q) := by
  unfold tagRequest; split; exacts [endRequest_heeds H, H]

theorem holsteredReport_heeds {h : HoseNo} (H : Heeds p q) : Heeds p (holsteredReport h q) := by
  unfold holsteredReport
  dsimp only
  split
  · exact sendLamp_heeds (modHose_heeds H)
  · exact sendLamp_heeds (modHose_heeds H)
  · exact modHose_heeds H

theorem coupledEdge_heeds {h : HoseNo} {r : TagReading} (H : Heeds p q) : Heeds p (coupledEdge h r q) := by
  unfold coupledEdge
  split
  · exact authorize_heeds H
  · exact authorize_heeds H
  · exact beginRun_heeds H
  · exact H

theorem takeTag_heeds {h : HoseNo} {d : List Byte} (H : Heeds p q) : Heeds p (takeTag h d q) := by
  unfold takeTag
  split
  · exact H
  · rename_i r _
    have asked := tagRequest_heeds (h := h) (n := r.nozzle)
      (modHose_heeds (h := h) (f := fun x => { x with nozzle := r.nozzle }) H)
    have rested := Heeds.ite (c := r.nozzle = .holstered) (holsteredReport_heeds (h := h) asked) asked
    exact .ite (coupledEdge_heeds rested) rested

/-! ## Samples -/

theorem addUncoupled_heeds {h : HoseNo} {ml : Nat} (H : Heeds p q) : Heeds p (addUncoupled h ml q) :=
  .ite (.ite (tripHose_heeds (modHose_heeds (modHose_heeds H))) (modHose_heeds H)) H

theorem sampleFactor_heeds {curve : List CurvePoint} {rate : Nat} (H : Heeds p q) :
    Heeds p (sampleFactor curve rate q).2 := by
  unfold sampleFactor; split; exacts [H, H.same rfl]

theorem countSample_heeds {h : HoseNo} {x : Sample} {c : MeterContext} {d : Nat} (H : Heeds p q) :
    Heeds p (countSample h x c d q) := by
  have factored {rate : Nat} := sampleFactor_heeds (curve := c.curve) (rate := rate) H
  unfold countSample
  dsimp only
  split
  · exact addUncoupled_heeds (handOff_heeds (modHose_heeds (modTally_heeds factored)))
  · exact addUncoupled_heeds (handOff_heeds (modHose_heeds factored))

theorem countJump_heeds {h : HoseNo} (H : Heeds p q) : Heeds p (countJump h q) := by
  unfold countJump
  have counted {f : Hose → Hose} {g : Tally → Tally} :=
    raise_heeds (n := .meterJump) (modTally_heeds (h := h) (f := g) (modHose_heeds (h := h) (f := f) H))
  dsimp only
  split
  · exact .ite (endRequest_heeds counted) counted
  · exact counted

theorem flowStep_heeds {h : HoseNo} (H : Heeds p q) : Heeds p (flowStep h q) := by
  unfold flowStep; split; exacts [sendLamp_heeds (setMode_heeds H), setMode_heeds H, H]

theorem capStep_heeds {h : HoseNo} (H : Heeds p q) : Heeds p (capStep h q) := by
  unfold capStep; split; exacts [.ite (endRequest_heeds H) H, .ite (endRequest_heeds H) H, H]

theorem overrunStep_heeds {h : HoseNo} (H : Heeds p q) : Heeds p (overrunStep h q) := by
  unfold overrunStep; split; exacts [.ite (tripHose_heeds H) H, H]

theorem lowerThrottle_heeds {h : HoseNo} {v : Int} {t : Tally} (H : Heeds p q) : Heeds p (lowerThrottle h v t q) :=
  .ite (modTally_heeds (sendValve_heeds H)) H

theorem taperStep_heeds {h : HoseNo} (H : Heeds p q) : Heeds p (taperStep h q) := by
  unfold taperStep; split; exacts [lowerThrottle_heeds H, lowerThrottle_heeds H, H]

theorem runFlowStep_heeds {h : HoseNo} (H : Heeds p q) : Heeds p (runFlowStep h q) := by
  unfold runFlowStep
  split
  · split; exacts [.ite H (sendLamp_heeds (setMode_heeds H)), H]
  · exact H

theorem runCapStep_heeds {h : HoseNo} (H : Heeds p q) : Heeds p (runCapStep h q) := by
  unfold runCapStep
  split
  · split; exacts [.ite (endRequest_heeds H) H, H]
  · exact H

theorem runTaperStep_heeds {h : HoseNo} (H : Heeds p q) : Heeds p (runTaperStep h q) := by
  unfold runTaperStep
  split
  · split; exacts [lowerThrottle_heeds H, H]
  · exact H

theorem afterSample_heeds {h : HoseNo} {moved : Bool} (H : Heeds p q) : Heeds p (afterSample h moved q) := by
  have capped := runCapStep_heeds (h := h) (overrunStep_heeds (h := h) (capStep_heeds (h := h)
    (Heeds.ite (c := moved = true) (runFlowStep_heeds (h := h) (flowStep_heeds (h := h) H)) H)))
  exact .ite (runTaperStep_heeds (taperStep_heeds capped)) capped

theorem takeSample_heeds {h : HoseNo} {x : Sample} {doubtful : Bool} (H : Heeds p q) :
    Heeds p (takeSample h x doubtful q) := by
  have based := modHose_heeds (h := h) (f := fun y => { y with baseline := some x.count })
    (Heeds.ite (c := (x.fault || doubtful) = true) (markDoubt_heeds (h := h) H) H)
  unfold takeSample
  dsimp only
  split
  · exact .ite (afterSample_heeds (countJump_heeds based)) (afterSample_heeds (countSample_heeds based))
  · exact afterSample_heeds based

theorem takeMeter_heeds {h : HoseNo} {d : List Byte} {doubtful : Bool} (H : Heeds p q) :
    Heeds p (takeMeter h d doubtful q) := by
  unfold takeMeter; split; exacts [takeSample_heeds H, H]

/-! ## The hose's timers -/

theorem idleExpiry_heeds {h : HoseNo} (H : Heeds p q) : Heeds p (idleExpiry h q) := .ite (endRequest_heeds H) H
theorem confirmExpiry_heeds {h : HoseNo} (H : Heeds p q) : Heeds p (confirmExpiry h q) := .ite (endRequest_heeds H) H
theorem pauseExpiry_heeds {h : HoseNo} (H : Heeds p q) : Heeds p (pauseExpiry h q) := by
  unfold pauseExpiry; split; exacts [setMode_heeds H, H]

/-! ## The line test (R185, R186) -/

theorem queueEcho_heeds {t : LineTest} (H : Heeds p q) : Heeds p (queueEcho t q) := by
  unfold queueEcho; exact modPort_heeds (H.same rfl)
theorem finishTest_heeds (H : Heeds p q) : Heeds p (finishTest q) := raise_heeds (H.same rfl)

theorem takeEchoBack_heeds {n : DevNo} {d : List Byte} (H : Heeds p q) : Heeds p (takeEchoBack n d q) := by
  unfold takeEchoBack
  split
  · exact H
  · split
    · exact H
    · exact .ite (.ite (finishTest_heeds (H.same rfl)) (H.same rfl)) H

theorem gapExpiry_heeds (H : Heeds p q) : Heeds p (gapExpiry q) := by
  unfold gapExpiry
  split
  · exact H
  · exact .ite (.ite (queueEcho_heeds (H.same rfl)) (H.same rfl)) H

theorem waitExpiry_heeds (H : Heeds p q) : Heeds p (waitExpiry q) := by
  unfold waitExpiry
  split
  · exact H
  · exact .ite (finishTest_heeds (H.same rfl)) H

theorem stopTest_heeds (H : Heeds p q) : Heeds p (stopTest q) := by
  unfold stopTest; split; exacts [H, modPort_heeds (H.same rfl)]

theorem stopTestNoticed_heeds (H : Heeds p q) : Heeds p (stopTestNoticed q) := .ite (raise_heeds (stopTest_heeds H)) H

/-! ## The Pass filter (R145) -/

theorem offer_heeds {dir : Direction} {t : Telegram} (H : Heeds p q) : Heeds p (offer dir t q) := by
  have alarms : (offer dir t q).sansFilter.alarms = q.sansFilter.alarms := by rw [offer_sansFilter]
  exact H.same alarms

/-! ## The Line monitor (R117 to R125) -/

theorem doubtFill_heeds {h : HoseNo} (H : Heeds p q) : Heeds p (doubtFill h q) := by
  unfold doubtFill; split; exacts [markDoubt_heeds H, H]

theorem reportDoubtful_heeds {b : Binding} (H : Heeds p q) : Heeds p (reportDoubtful b q) := by
  unfold reportDoubtful; split; exacts [doubtFill_heeds H, gaugeLeftGood_heeds H, H]

theorem reportLost_heeds {b : Binding} (H : Heeds p q) : Heeds p (reportLost b q) := by
  unfold reportLost
  split
  · exact endRequest_heeds (modHose_heeds (doubtFill_heeds H))
  · exact endRequest_heeds H
  · exact stopPumping_heeds H
  · exact closeInlet_heeds (gaugeLeftGood_heeds H)
  · exact .ite (tripSource_heeds H) H
  · exact tripFor_heeds H
  · exact H

theorem reportHealth_heeds {b : Binding} {new : Health} (H : Heeds p q) : Heeds p (reportHealth b new q) := by
  cases new; exacts [H, reportDoubtful_heeds H, reportLost_heeds (raise_heeds H)]

theorem setScore_heeds {n : DevNo} {k : Nat} (H : Heeds p q) : Heeds p (setScore n k q) :=
  .ite (modDevice_heeds H) (reportHealth_heeds (modDevice_heeds H))

theorem scoreTelegram_heeds {n : DevNo} (H : Heeds p q) : Heeds p (scoreTelegram n q) := setScore_heeds H
theorem periodExpiry_heeds {n : DevNo} (H : Heeds p q) : Heeds p (periodExpiry n q) := .ite H (setScore_heeds H)

theorem takeSump_heeds {n : DevNo} {z : ZoneNo} {d : List Byte} (H : Heeds p q) : Heeds p (takeSump n z d q) := by
  unfold takeSump
  split
  · exact H
  · exact .ite (tripSource_heeds (modDevice_heeds H)) (modDevice_heeds H)

theorem takeEstop_heeds {n : DevNo} {z : Option ZoneNo} {d : List Byte} (H : Heeds p q) : Heeds p (takeEstop n z d q) := by
  unfold takeEstop
  split
  · exact H
  · exact .ite (tripFor_heeds (modDevice_heeds H)) (modDevice_heeds H)

theorem takeStarter_heeds {t : TankNo} {d : List Byte} (H : Heeds p q) : Heeds p (takeStarter t d q) := by
  unfold takeStarter
  split
  · exact H
  · exact .ite (.ite (confirmPump_heeds H) (sendRun_heeds H)) (.ite (.ite (stopPumping_heeds H) H) H)

theorem takeValve_heeds {h : HoseNo} {d : List Byte} (H : Heeds p q) : Heeds p (takeValve h d q) := by
  unfold takeValve; split; exacts [modHose_heeds H, H]

theorem takeInlet_heeds {t : TankNo} {d : List Byte} (H : Heeds p q) : Heeds p (takeInlet t d q) := by
  unfold takeInlet; split; exacts [modTank_heeds H, H]

theorem handTelegram_heeds {n : DevNo} {d : List Byte} (H : Heeds p q) : Heeds p (handTelegram n d q) := by
  unfold handTelegram
  dsimp only
  split
  · exact H
  · exact .ite H (takeMeter_heeds H)
  · exact takeTag_heeds H
  · exact takeValve_heeds H
  · exact takeStarter_heeds H
  · exact takeInlet_heeds H
  · exact .ite H (takeLevel_heeds H)
  · exact takeSump_heeds H
  · exact takeEstop_heeds H

theorem checkKind_heeds {n : DevNo} {k : Byte} {d : List Byte} (H : Heeds p q) : Heeds p (checkKind n k d q) :=
  .ite (takeEchoBack_heeds H) (.ite H (.ite (handTelegram_heeds H) (modDevice_heeds H)))

theorem monitorTelegram_heeds {t : Telegram} (H : Heeds p q) : Heeds p (monitorTelegram t q) := by
  unfold monitorTelegram
  split
  · exact H
  · exact checkKind_heeds (.ite (modDevice_heeds H) (scoreTelegram_heeds (modDevice_heeds H)))

theorem fieldTelegram_heeds {t : Telegram} (H : Heeds p q) : Heeds p (fieldTelegram t q) :=
  offer_heeds (monitorTelegram_heeds (modPort_heeds H))

end Sys2Proof.Machine
end

section
/-! The resets as a whole (R110, R163), what NOTICE_READ keeps (R165), and the commands, RESTART, the ports and the timers:
each keeps the lines and the trip notices, and so does every step. -/

namespace Sys2Proof.Machine

open Sys2Proof

/-! ## The notices that NOTICE_READ keeps (R165) -/

theorem tripBit_getLsbD (z : ZoneNo) (i : Nat) : (Notice.trip z).bit.getLsbD i = decide (i = z.val) := by
  have shifted : (Notice.trip z).bit = BitVec.twoPow 16 z.val := rfl
  have place : z.val < 16 := by omega
  rw [shifted, BitVec.getLsbD_twoPow]
  simp [place, eq_comm]

/-- A set to which the bits of some zones are added one by one. -/
theorem foldl_tripBits_getLsbD (c : ZoneNo → Prop) [DecidablePred c] (zs : List ZoneNo) (w : Word) (i : Nat) :
    (zs.foldl (fun w z => if c z then w ||| (Notice.trip z).bit else w) w).getLsbD i =
      (w.getLsbD i || zs.any fun z => decide (c z) && decide (i = z.val)) := by
  induction zs generalizing w with
  | nil => simp
  | cons z zs ih =>
    rw [List.foldl_cons, ih, List.any_cons, ← Bool.or_assoc]
    congr 1
    split <;> simp [*, tripBit_getLsbD]

theorem keptNotices_getLsbD (p : Part) (i : Nat) :
    p.keptNotices.getLsbD i = true ↔ ∃ z : ZoneNo, (p.zone z).state = .tripped ∧ i = z.val := by
  unfold Part.keptNotices
  rw [foldl_tripBits_getLsbD]
  simp [mem_zoneNos]

theorem trip_isIn_keptNotices (p : Part) (z : ZoneNo) :
    (Notice.trip z).isIn p.keptNotices = decide ((p.zone z).state = .tripped) := by
  have at_ : (Notice.trip z).isIn p.keptNotices = true ↔ (p.zone z).state = .tripped :=
    (keptNotices_getLsbD p z.val).trans
      ⟨fun ⟨y, tripped, e⟩ => Fin.ext e ▸ tripped, fun tripped => ⟨z, tripped, rfl⟩⟩
  rw [Bool.eq_iff_iff, at_, decide_eq_true_iff]

theorem keptNotices_above (p : Part) {i : Nat} (above : 4 ≤ i) : p.keptNotices.getLsbD i = false := by
  rw [Bool.eq_false_iff, Ne, keptNotices_getLsbD]
  rintro ⟨z, -, rfl⟩
  omega

/-! ## The resets (R110, R163) -/

/-- The reset part once notices have been raised: some are pending, and telegrams of the part's own wait upstream. -/
def Part.started (node : Node) (rate : BitVec 2) (high : Bool) (uses : Nat) (pending : Word) (own : List Telegram) : Part :=
  { Part.atReset node rate high with
    pendingNotices := pending, up := { Port.atReset rate node with own := own }, freeUses := uses }

/-- The ATTENTION of a part that has just started, with its pending set. -/
def startAttention (node : Node) (pending : Word) : Telegram :=
  { head := { dst := 63, cls := 3, src := node, rsv := 0 }, kind := kindAttention,
    payload := bytes16 pending ++ [BitVec.ofNat 8 (topRank pending 0)] }

/-- A trip notice raised in the reset state replaces the ATTENTION that waits. -/
theorem raise_started {z : ZoneNo} {w : Word} {own : List Telegram} (new : (Notice.trip z).isIn w = false)
    (only : ∀ u ∈ own, u.kind = kindAttention) (node : Node) (rate : BitVec 2) (high : Bool) (uses : Nat) :
    raise (.trip z) (Part.started node rate high uses w own) =
      Part.started node rate high uses (w ||| (Notice.trip z).bit) [startAttention node (w ||| (Notice.trip z).bit)] := by
  have replaced : own.filter (fun u => u.kind != kindAttention) = [] :=
    List.filter_eq_nil_iff.2 fun u mem => by simp [only u mem]
  have unmasked : (Notice.trip z).isIn (Part.started node rate high uses w own).noticeMask = false := BitVec.getLsbD_zero
  rw [raise_new new]
  rw [unmasked]
  have queued (t : Telegram) : (Part.started node rate high uses w own).up.queueAttention t =
      { Port.atReset rate node with own := [t] } := by
    show Port.placeOwn t { Port.atReset rate node with
      own := own.filter fun u => u.kind != kindAttention, forwarded := [] } = _
    rw [replaced]; rfl
  simp only [Bool.false_eq_true, if_false, queued]
  rfl

theorem powerUp_eq (straps : Node) (rate : BitVec 2) (high : Bool) (p : Part) : powerUp straps rate high p =
    Part.started (strapNode straps) rate high p.freeUses 0x000F [firstAttention (strapNode straps)] := by
  have alone (node : Node) (w : Word) : ∀ u ∈ [startAttention node w], u.kind = kindAttention := by simp [startAttention]
  have start : powerUp straps rate high p = each zoneNos (fun z => raise (.trip z))
    (Part.started (strapNode straps) rate high p.freeUses 0 []) := rfl
  rw [start]
  simp only [zoneNos, each, List.foldl]
  rw [raise_started (by decide) (by simp), raise_started (by decide) (alone _ _), raise_started (by decide) (alone _ _),
    raise_started (by decide) (alone _ _)]
  rfl

theorem started_zone (node : Node) (rate : BitVec 2) (high : Bool) (uses : Nat) (w : Word) (own : List Telegram)
    (z : ZoneNo) : (Part.started node rate high uses w own).zone z = Zone.atReset := nth_fill ..
theorem started_device (node : Node) (rate : BitVec 2) (high : Bool) (uses : Nat) (w : Word) (own : List Telegram)
    (n : DevNo) : (Part.started node rate high uses w own).device n = Device.atReset := nth_fill ..

/-- After a reset the lines are active and every zone is TRIPPED, its notice pending. -/
theorem started_heeded (node : Node) (rate : BitVec 2) (high : Bool) (uses : Nat) (own : List Telegram) :
    (Part.started node rate high uses 0x000F own).LinesFollow ∧
    (Part.started node rate high uses 0x000F own).TripNoticesPend := by
  have all : ∀ z, (Notice.trip z).isIn 0x000F = true := by decide
  refine ⟨⟨iff_of_true rfl ⟨0, ?_⟩, iff_of_true rfl (.inl ⟨0, ?_⟩)⟩, fun z _ => all z⟩
  · rw [started_zone]; rfl
  · rw [started_zone]; decide

theorem powerUp_heeds (straps : Node) (rate : BitVec 2) (high : Bool) (p : Part) : Heeds p (powerUp straps rate high p) := by
  obtain ⟨lines, trips⟩ := started_heeded (strapNode straps) rate high p.freeUses [firstAttention (strapNode straps)]
  rw [powerUp_eq]
  exact ⟨fun _ => lines, fun z _ => trips z⟩

/-! ## Answers -/

section
variable {p q : Part}

theorem withArgs_heeds {α : Type} {args : Option α} {f : α → Part → Answer} (each : ∀ a, Heeds p (f a q).part)
    (H : Heeds p q) : Heeds p (withArgs args f q).part := by
  unfold withArgs; split; exacts [each _, H]

theorem withIndex_heeds {n : Nat} {x : Byte} {f : Fin n → Part → Answer} (each : ∀ i, Heeds p (f i q).part)
    (H : Heeds p q) : Heeds p (withIndex n x f q).part := by
  unfold withIndex; split; exacts [each _, H]

theorem withMachine_heeds {slot : Word} {f : SlotNo → Part → Answer} (each : ∀ m, Heeds p (f m q).part)
    (H : Heeds p q) : Heeds p (withMachine slot f q).part := by
  unfold withMachine
  split
  · split; exacts [H, each _]
  · exact H

theorem withPort_heeds {port : Byte} {f : PortId → Part → Answer} (each : ∀ x, Heeds p (f x q).part) (H : Heeds p q) :
    Heeds p (withPort port f q).part := by
  unfold withPort
  split
  · exact each _
  · split; exacts [each _, H]

theorem command_heeds {f : Part → Answer} (each : ∀ q, Heeds p q → Heeds p (f q).part) (src : Node) (H : Heeds p q) :
    Heeds p (command src f q) := reply_heeds (each _ (consumeUp_heeds H))

/-- An effect is heeded by the answer DONE. -/
theorem Heeds.done (H : Heeds p q) : Heeds p (done q).part := H

/-- An answer that is one of two. -/
theorem Heeds.answer {c : Prop} [Decidable c] {a b : Answer} (yes : Heeds p a.part) (no : Heeds p b.part) :
    Heeds p (if c then a else b).part := by
  split; exacts [yes, no]

/-! ## The commands of hoses -/

theorem setPendingOut_heeds {h : HoseNo} {b : Bool} (H : Heeds p q) : Heeds p (setPendingOut h b q) := modHose_heeds H

theorem hoseOut_heeds {h : HoseNo} (H : Heeds p q) : Heeds p (hoseOut h q).part := by
  unfold hoseOut
  split
  · exact enterOut_heeds H
  · exact setPendingOut_heeds H
  · exact setPendingOut_heeds (endRequest_heeds H)
  · exact H
  · exact H

theorem hoseIn_heeds {h : HoseNo} (H : Heeds p q) : Heeds p (hoseIn h q).part := by
  unfold hoseIn
  split
  · exact H
  · exact H
  · exact H
  · exact .answer (.done (sendLamp_heeds (modHose_heeds H))) H

theorem hoseService_heeds {hose form : Byte} (H : Heeds p q) : Heeds p (hoseService hose form q).part :=
  withIndex_heeds (fun _ => .answer (hoseOut_heeds H) (.answer (hoseIn_heeds H) H)) H

theorem proveStart_heeds {args : Option (Byte × Byte × Long)} (H : Heeds p q) : Heeds p (proveStartCommand args q).part :=
  withArgs_heeds (fun _ => withIndex_heeds (fun _ => .answer H (.answer H (.answer H (.answer H (.answer H
    (.done (sendLamp_heeds (setMode_heeds (reserve_heeds H))))))))) H) H

theorem creditTank_heeds {h : HoseNo} {ml : Nat} (H : Heeds p q) : Heeds p (creditTank h ml q) := by
  unfold creditTank; split; exacts [disturbWindows_heeds (lowStockTest_heeds (modTank_heeds H)), H]

theorem proveResult_heeds {args : Option (Byte × Byte × Long)} (H : Heeds p q) :
    Heeds p (proveResultCommand args q).part := by
  refine withArgs_heeds (fun _ => withIndex_heeds (fun _ => ?_) H) H
  split
  · split
    · exact H
    · refine .answer H ?_
      split; exacts [H, creditTank_heeds (setMode_heeds H)]
  · exact H

theorem dropSession_heeds {h : HoseNo} (H : Heeds p q) : Heeds p (dropSession h q) := by
  unfold dropSession; split; exacts [enterOut_heeds (release_heeds H), H]

theorem abandonSession_heeds {h : HoseNo} (H : Heeds p q) : Heeds p (abandonSession h q) := by
  unfold abandonSession
  split
  · split; exacts [dropSession_heeds (endRun_heeds H), dropSession_heeds H]
  · exact H

theorem acceptSession_heeds {h : HoseNo} {s : Session} (H : Heeds p q) : Heeds p (acceptSession h s q).part := by
  refine .answer H ?_
  split
  · exact H
  · exact raise_heeds (dropSession_heeds (modHose_heeds H))

theorem proveEnd_heeds {hose form : Byte} (H : Heeds p q) : Heeds p (proveEnd hose form q).part := by
  refine withIndex_heeds (fun _ => ?_) H
  split
  · exact .answer (acceptSession_heeds H) (.answer (.done (raise_heeds (abandonSession_heeds H))) H)
  · exact H

/-! ## The commands of tanks, deliveries and zones -/

theorem tankOut_heeds {t : TankNo} (H : Heeds p q) : Heeds p (tankOut t q).part := by
  unfold tankOut; split; exacts [H, H, .answer H (.done (setTankState_heeds (modTank_heeds H)))]

theorem tankIn_heeds {t : TankNo} (H : Heeds p q) : Heeds p (tankIn t q).part :=
  .answer H (.answer (.done (lowStockTest_heeds (setTankState_heeds H))) H)

theorem tankService_heeds {tank form : Byte} (H : Heeds p q) : Heeds p (tankService tank form q).part :=
  withIndex_heeds (fun _ => .answer (tankOut_heeds H) (.answer (tankIn_heeds H) H)) H

theorem setStock_heeds {t : TankNo} {ml : Nat} (H : Heeds p q) : Heeds p (setStock t ml q) :=
  disturbWindows_heeds (lowStockTest_heeds (placeRecord_heeds (modTank_heeds H)))

theorem stockSet_heeds {args : Option (Byte × Long)} (H : Heeds p q) : Heeds p (stockSetCommand args q).part :=
  withArgs_heeds (fun _ => withIndex_heeds (fun _ => .answer H (.answer H (.answer H (.answer H
    (.done (setStock_heeds H)))))) H) H

theorem startDelivery_heeds {t : TankNo} {litres : Nat} (H : Heeds p q) : Heeds p (startDelivery t litres q) :=
  sendInlet_heeds (disturbWindows_heeds (setTankState_heeds (modTank_heeds (reserve_heeds H))))

theorem deliveryStart_heeds {args : Option (Byte × Word)} (H : Heeds p q) : Heeds p (deliveryStartCommand args q).part :=
  withArgs_heeds (fun _ => withIndex_heeds (fun _ => .answer H (.answer H (.answer H (.answer H (.answer H
    (.answer H (.answer H (.answer H (.done (startDelivery_heeds H)))))))))) H) H

theorem deliveryEnd_heeds {tank : Option Byte} (H : Heeds p q) : Heeds p (deliveryEndCommand tank q).part := by
  refine withArgs_heeds (fun _ => withIndex_heeds (fun _ => ?_) H) H
  split; exacts [endDelivery_heeds H, H]

theorem tripZone_heeds {zone : Option Byte} (H : Heeds p q) : Heeds p (tripZoneCommand zone q).part :=
  withArgs_heeds (fun _ => .answer (.done (tripAll_heeds H)) (withIndex_heeds (fun _ => .done (tripSource_heeds H)) H)) H

theorem tripReset_heeds {zone : Option Byte} (H : Heeds p q) : Heeds p (tripResetCommand zone q).part :=
  withArgs_heeds (fun _ => withIndex_heeds (fun _ => .answer H (.answer H (.done (enterRecovery_heeds H)))) H) H

/-- NOTICE_READ clears no trip notice of a TRIPPED zone, and brings the lines up to date. -/
theorem noticeRead_heeds (H : Heeds p q) : Heeds p (noticeReadCommand q).part := by
  refine syncLines_heeds fun z t tripped => ?_
  show (q.pendingNotices &&& q.keptNotices).getLsbD (z.val + 1 - 1) = true
  have kept : (Notice.trip z).isIn q.keptNotices = true := by rw [trip_isIn_keptNotices]; exact decide_eq_true tripped
  rw [BitVec.getLsbD_and, Bool.and_eq_true]
  exact ⟨H.trips z t tripped, kept⟩

theorem noticeMask_heeds {set : Option Word} (H : Heeds p q) : Heeds p (noticeMaskCommand set q).part :=
  withArgs_heeds (fun _ => H.same rfl) H

/-! ## The commands of machines and of the responder -/

theorem machineState_heeds {slot : Word} {state : Byte} (H : Heeds p q) : Heeds p (machineState slot state q).part :=
  withMachine_heeds (fun _ => .answer (.done (modMachine_heeds H)) (.answer (.done (modMachine_heeds H)) H)) H

theorem serviceDone_heeds {args : Option (Word × Long)} (H : Heeds p q) : Heeds p (serviceDoneCommand args q).part :=
  withArgs_heeds (fun _ => withMachine_heeds (fun _ => .answer H (.done (modMachine_heeds H))) H) H

theorem take_heeds {serial : Option Word} (H : Heeds p q) : Heeds p (takeCommand serial q).part := by
  unfold takeCommand takeHead
  dsimp only
  split
  · split
    · exact H
    · split; exacts [headChanged_heeds (H.same rfl), H]
  · exact H

theorem lineTestStart_heeds {continuous : Bool} {args : Option (Byte × Byte × Byte × Byte × Byte)} (H : Heeds p q) :
    Heeds p (lineTestStart continuous args q).part := by
  unfold lineTestStart
  split
  · exact H
  · refine .answer H (.answer H ?_)
    split; exacts [queueEcho_heeds (H.same rfl), H]

theorem lineTestStop_heeds {mode : Option Byte} (H : Heeds p q) : Heeds p (lineTestStopCommand mode q).part :=
  .answer (stopTestNoticed_heeds H) H

theorem enterRun_heeds (H : Heeds p q) : Heeds p (enterRun q) :=
  (Heeds.ite (c := q.bayMode = .layUp) (stopTestNoticed_heeds H) H).same rfl

theorem bayMode_heeds {mode : Option Byte} (H : Heeds p q) : Heeds p (bayModeCommand mode q).part :=
  withArgs_heeds (fun _ => .answer (enterRun_heeds H) (.answer (H.same rfl) (.answer H H))) H

theorem switchProfile_heeds {l : Letter} (H : Heeds p q) : Heeds p (switchProfile l q) := H.same rfl

theorem profile_heeds {letter : Option Byte} (H : Heeds p q) : Heeds p (profileCommand letter q).part :=
  withArgs_heeds (fun _ => .answer H (.answer H (switchProfile_heeds H))) H

theorem profileSource_heeds {source : Option Byte} (H : Heeds p q) : Heeds p (profileSourceCommand source q).part :=
  withArgs_heeds (fun _ => .answer (switchProfile_heeds (H.same rfl)) (.answer (H.same rfl) H)) H

theorem clockSet_heeds {seconds : Option Long} (H : Heeds p q) : Heeds p (clockSetCommand seconds q).part :=
  withArgs_heeds (fun _ => H.same rfl) H

theorem lineRate_heeds {code : Option Byte} (H : Heeds p q) : Heeds p (lineRateCommand code q).part :=
  withArgs_heeds (fun _ => .answer H (.done (modPort_heeds H))) H

theorem counterSelect_heeds {args : Option (Byte × Byte)} (H : Heeds p q) : Heeds p (counterSelectCommand args q).part := by
  refine withArgs_heeds (fun _ => withPort_heeds (fun _ => ?_) H) H
  split; exacts [.done (modPort_heeds H), H]

theorem counterRead_heeds {port : Option Byte} (H : Heeds p q) : Heeds p (counterReadCommand port q).part := by
  refine withArgs_heeds (fun _ => withPort_heeds (fun _ => ?_) H) H
  dsimp only; exact modPort_heeds H

/-! ## The table window (R168 to R171) -/

theorem takeSelection_heeds {sel : Selection} (H : Heeds p q) : Heeds p (takeSelection sel q) := H.same rfl

theorem window_heeds {args : Option (Byte × Word)} (H : Heeds p q) : Heeds p (windowCommand args q).part := by
  refine withArgs_heeds (fun _ => ?_) H
  dsimp only
  split; exacts [takeSelection_heeds H, H]

theorem stepMode_heeds {mode : Option Byte} (H : Heeds p q) : Heeds p (stepModeCommand mode q).part :=
  withArgs_heeds (fun _ => .answer (H.same rfl) (.answer (H.same rfl) (.answer (H.same rfl) H))) H

theorem read_heeds {n : Option Byte} (H : Heeds p q) : Heeds p (readCommand n q).part :=
  withArgs_heeds (fun _ => .answer H (.answer H (.ite (H.same rfl) H))) H

end

/-- Whatever a cell applies to a part keeps the lines and the trip notices. -/
def Cell.Heeding (c : Cell) : Prop :=
  match c.slot with
  | .shut _ => True
  | .one f => ∀ w p q, f w p = .ok q → Heeds p q
  | .lower => True
  | .upper f => ∀ w p q, f w p = .ok q → Heeds p q

/-- So does whatever some cells apply. -/
def CellsHeed (cs : List Cell) : Prop := ∀ c ∈ cs, c.Heeding

@[simp] theorem cellsHeed_append (cs ds : List Cell) : CellsHeed (cs ++ ds) ↔ CellsHeed cs ∧ CellsHeed ds := by
  simp [CellsHeed, or_imp, forall_and]

@[simp] theorem cellsHeed_flatMap {α : Type} (is : List α) (f : α → List Cell) :
    CellsHeed (is.flatMap f) ↔ ∀ i ∈ is, CellsHeed (f i) := by
  simp only [CellsHeed, List.mem_flatMap]
  exact ⟨fun all i mem c at_ => all c ⟨i, mem, at_⟩, fun all c ⟨i, mem, at_⟩ => all i mem c at_⟩

@[simp] theorem cellsHeed_gated (ok : Bool) (st : Status) (cs : List Cell) :
    CellsHeed (gated ok st cs) ↔ (ok = true → CellsHeed cs) := by
  cases ok with
  | true => simp [gated]
  | false => simp [gated, CellsHeed, Cell.Heeding]

@[simp] theorem ro_heed (v : Word) : CellsHeed (ro v) := fun c mem => by rw [List.mem_singleton.1 mem]; trivial
@[simp] theorem ro2_heed (v : Long) : CellsHeed (ro2 v) := (cellsHeed_append ..).2 ⟨ro_heed _, ro_heed _⟩

theorem rw1_heed {v : Word} {f : Word → Part → Except Status Part} (each : ∀ w p q, f w p = .ok q → Heeds p q) :
    CellsHeed (rw1 v f) := fun c mem => by rw [List.mem_singleton.1 mem]; exact each
theorem rw2_heed {v : Long} {f : Long → Part → Except Status Part} (each : ∀ w p q, f w p = .ok q → Heeds p q) :
    CellsHeed (rw2 v f) := fun c mem => by
  rcases List.mem_cons.1 mem with rfl | mem
  · trivial
  · rw [List.mem_singleton.1 mem]; exact each

theorem within_heeds {ok : Bool} {f : Part → Part} (heeds : ∀ p, Heeds p (f p)) {p q : Part}
    (took : within ok f p = .ok q) : Heeds p q := by rw [within_ok took]; exact heeds p

@[simp] theorem number_heed {v lo hi : Nat} {f : Nat → Part → Part} (heeds : ∀ n p, Heeds p (f n p)) :
    CellsHeed (number v lo hi f) := rw1_heed fun _ _ _ => within_heeds (heeds _)
@[simp] theorem number2_heed {v lo hi : Nat} {f : Nat → Part → Part} (heeds : ∀ n p, Heeds p (f n p)) :
    CellsHeed (number2 v lo hi f) := rw2_heed fun _ _ _ => within_heeds (heeds _)
@[simp] theorem zeroOnly_heed {v : Nat} {f : Part → Part} (heeds : ∀ p, Heeds p (f p)) : CellsHeed (zeroOnly v f) :=
  rw1_heed fun _ _ _ => within_heeds heeds
@[simp] theorem zeroOnly2_heed {v : Nat} {f : Part → Part} (heeds : ∀ p, Heeds p (f p)) : CellsHeed (zeroOnly2 v f) :=
  rw2_heed fun _ _ _ => within_heeds heeds
@[simp] theorem throttle_heed {v : Nat} {f : Nat → Part → Part} (heeds : ∀ n p, Heeds p (f n p)) :
    CellsHeed (throttle v f) :=
  number_heed fun n => heeds (min n 15)
@[simp] theorem hourField_heed {v : Option Nat} {f : Option Nat → Part → Part} (heeds : ∀ n p, Heeds p (f n p)) :
    CellsHeed (hourField v f) := rw2_heed fun _ p _ took => by rw [← Except.ok.inj took]; exact heeds _ p
@[simp] theorem set_heed {v : Word} {f : Word → Part → Part} (heeds : ∀ w p, Heeds p (f w p)) :
    CellsHeed (rw1 v fun w p => .ok (f w p)) := rw1_heed fun _ p _ took => by rw [← Except.ok.inj took]; exact heeds _ p

theorem machineEntry_heed (m : SlotNo) (x : MachineRec) : CellsHeed (machineEntry m x) := by
  have mod (f : MachineRec → MachineRec) (p : Part) : Heeds p (modMachine m f p) := modMachine_heeds (.refl p)
  have tag : CellsHeed (rw2 x.tag (writeTag m)) := rw2_heed fun w p q took => by
    unfold writeTag at took
    split at took
    · cases took; exact .refl p
    · split at took
      · cases took
      · split at took
        · cases took; exact mod _ p
        · split at took
          · cases took
          · cases took; exact mod _ p
  have doubt : CellsHeed (rw1 (w16 (x.doubt + bitIf x.abnormal 32768)) (writeDoubt m)) :=
    rw1_heed fun _ _ _ => within_heeds (mod _)
  simp [machineEntry, tag, doubt, mod]

theorem openWords_heed (m : HoseMode) : CellsHeed (openWords m) := by
  unfold openWords; split <;> simp

theorem giveTank_heeds (h : HoseNo) (t : Option TankNo) (p : Part) : Heeds p (giveTank h t p) :=
  .ite (dropBarred_heeds (modHose_heeds (.refl p))) (modHose_heeds (.refl p))

theorem hoseEntry_heed (h : HoseNo) (p : Part) : CellsHeed (hoseEntry h p) := by
  have mod (f : Hose → Hose) (q : Part) : Heeds q (modHose h f q) := modHose_heeds (.refl q)
  have config (f : HoseConfig → HoseConfig) (q : Part) : Heeds q (modConfig h f q) := mod _ q
  have point (i : Fin 6) (f : CurvePoint → CurvePoint) (q : Part) : Heeds q (modPoint h i f q) := config _ q
  have step (i : Fin 4) (f : TaperStep → TaperStep) (q : Part) : Heeds q (modStep h i f q) := config _ q
  have tank {v : Word} : CellsHeed (rw1 v (writeTankField h)) := rw1_heed fun _ _ _ => within_heeds (giveTank_heeds h _)
  simp [hoseEntry, hoseConfigWords, handlingField, openWords_heed, mod, config, point, step, tank]

theorem moveTank_heeds (t : TankNo) (z : ZoneNo) (p : Part) : Heeds p (moveTank t z p) := by
  have moved := modTank_heeds (t := t) (f := fun x => { x with cfg := { x.cfg with zone := z } }) (.refl p)
  exact .ite (.refl p) (recoveryTest_heeds (recoveryTest_heeds
    (.ite (dropBarred_heeds (shutOrders_heeds (each_heeds (fun _ _ => endRequest_heeds) moved))) moved)))

theorem deliveryWords_heed (d : Option Delivery) : CellsHeed (deliveryWords d) := by
  unfold deliveryWords; split <;> simp

theorem writeZone_heed (t : TankNo) (v : Word) : CellsHeed (rw1 v (writeZone t)) := rw1_heed fun w q r took => by
  unfold writeZone at took
  split at took
  · rw [← Except.ok.inj took]; exact moveTank_heeds ..
  · cases took

theorem tankConfigWords_heed (t : TankNo) (c : TankConfig) : CellsHeed (tankConfigWords t c) := by
  have config (f : TankConfig → TankConfig) (q : Part) : Heeds q (modTankConfig t f q) := modTank_heeds (.refl q)
  simp only [tankConfigWords, cellsHeed_append, number_heed, number2_heed, config, writeZone_heed, implies_true, and_self]

theorem tankEntry_heed (t : TankNo) (p : Part) : CellsHeed (tankEntry t p) := by
  unfold tankEntry
  simp [tankConfigWords_heed, deliveryWords_heed]

theorem strapEntry_heed (t : TankNo) (x : Tank) : CellsHeed (strapEntry t x) := by
  have config (f : TankConfig → TankConfig) (q : Part) : Heeds q (modTankConfig t f q) := modTank_heeds (.refl q)
  have strap (i : Fin 32) (f : StrapPoint → StrapPoint) (q : Part) : Heeds q (modStrap t i f q) := config _ q
  simp [strapEntry, config, strap]

theorem productEntry_heed (i : ProductNo) (x : Product) (used : Bool) : CellsHeed (productEntry i x used) := by
  have mod (f : Product → Product) (q : Part) : Heeds q (modProduct i f q) := (Heeds.refl q).same rfl
  have cls {v : Word} : CellsHeed (rw1 v (writeClass i)) := rw1_heed fun w q r took => by
    unfold writeClass at took
    split at took <;> cases took
    exact mod ..
  have fallback {v : Word} : CellsHeed (rw1 v (writeFallback i)) := rw1_heed fun _ _ _ => within_heeds (mod _)
  simp [productEntry, mod, cls, fallback]

theorem rebindOwner_heeds {b : Binding} {p q : Part} (H : Heeds p q) : Heeds p (rebindOwner b q) := by
  unfold rebindOwner
  split
  · exact modHose_heeds H
  · exact modHose_heeds H
  · exact modHose_heeds H
  · exact modPump_heeds H
  · exact modTank_heeds H
  · exact gaugeLeftGood_heeds H
  all_goals exact H

theorem holdTaken_heeds {b : Binding} {p q : Part} (H : Heeds p q) : Heeds p (holdTaken b q) := by
  unfold holdTaken
  split
  · exact .ite (dropBarred_heeds H) H
  · exact .ite (dropBarred_heeds H) H
  · exact .ite (dropBarred_heeds H) H
  · exact H

theorem bindDevice_heeds {n : DevNo} {role object : Nat} {p q : Part} (took : bindDevice n role object p = .ok q) :
    Heeds p q := by
  unfold bindDevice at took
  split at took
  · cases took
  · split at took
    · cases took
    · dsimp only at took
      split at took
      · cases took; exact .refl p
      · split at took
        · cases took
        · split at took
          · cases took
          · split at took
            · cases took
            · cases took
              exact holdTaken_heeds (rebindOwner_heeds (rebindOwner_heeds (modDevice_heeds (modPort_heeds (.refl p)))))

theorem deviceEntry_heed (n : DevNo) (d : Device) : CellsHeed (deviceEntry n d) := by
  have mod (f : Device → Device) (q : Part) : Heeds q (modDevice n f q) := modDevice_heeds (.refl q)
  have bind {v : Word} : CellsHeed (rw1 v fun w => bindDevice n (lowPart w) (highPart w)) :=
    rw1_heed fun _ _ _ took => bindDevice_heeds took
  simp [deviceEntry, bind, mod]

theorem ruleEntry_heed (r : RuleNo) (x : PassRule) : CellsHeed (ruleEntry r x) := by
  have rules (v : Vector PassRule 32) (q : Part) : Heeds q { q with rules := v } := (Heeds.refl q).same rfl
  have head {v : Word} : CellsHeed (rw1 v (writeRuleHead r)) := rw1_heed fun w q r took => by
    unfold writeRuleHead at took
    split at took <;> cases took
    exact rules ..
  have kind {v : Word} : CellsHeed (rw1 v (writeRuleKind r)) := set_heed fun _ _ => rules ..
  have node {v : Word} : CellsHeed (rw1 v (writeRuleNode r)) := rw1_heed fun _ _ _ => within_heeds fun _ => rules ..
  simp [ruleEntry, rules, head, kind, node]

theorem filterEntry_heed (f : FilterEntry) : CellsHeed (filterEntry f) := by
  have filter (x : FilterEntry) (q : Part) : Heeds q { q with filter := x } := (Heeds.refl q).same rfl
  have defaults {v : Word} : CellsHeed (rw1 v writeDefaults) := set_heed fun _ _ => filter ..
  simp [filterEntry, filter, defaults]

theorem profileEntry_heed (l : Letter) (x : Profile) : CellsHeed (profileEntry l x) := by
  have mod (f : Profile → Profile) (q : Part) : Heeds q (modProfile l f q) := by
    cases l; exacts [(Heeds.refl q).same rfl, (Heeds.refl q).same rfl]
  simp [profileEntry, mod]

theorem zoneEntry_heed (z : ZoneNo) (x : Zone) : CellsHeed (zoneEntry z x) := by
  have mod {f : Zone → Zone} (state : ∀ y, (f y).state = y.state) (q : Part) : Heeds q (modZone z f q) :=
    modZone_heeds (state _) (.refl q)
  simp [zoneEntry, mod]

theorem cells_heed (sel : Selection) (p : Part) : CellsHeed (cells sel p) := by
  cases sel with
  | machine m => exact machineEntry_heed _ _
  | hose h => exact hoseEntry_heed _ _
  | tank t => exact tankEntry_heed _ _
  | strap t => exact strapEntry_heed _ _
  | product i => exact productEntry_heed _ _ _
  | device n => exact deviceEntry_heed _ _
  | rule r => exact ruleEntry_heed _ _
  | filter => exact filterEntry_heed _
  | profileA => exact profileEntry_heed _ _
  | profileB => exact profileEntry_heed _ _
  | recordHead => exact (cellsHeed_flatMap ..).2 fun _ _ => ro_heed _
  | zone z => exact zoneEntry_heed _ _

theorem writeWord_heeds {sel : Selection} {k : Nat} {w : Word} {p q : Part} (took : writeWord sel k w p = .ok q) :
    Heeds p q := by
  unfold writeWord at took
  split at took
  · cases took; exact .refl p
  · rename_i c at_
    have heed := cells_heed sel p c (List.mem_of_getElem? at_)
    unfold Cell.Heeding at heed
    split at took
    · cases took
    · rename_i f slot; rw [slot] at heed; exact heed _ _ _ took
    · cases took; exact (Heeds.refl p).same rfl
    · rename_i f slot; rw [slot] at heed; exact heed _ _ _ took

theorem writeWords_heeds (sel : Selection) (ws : List Word) (k pos : Nat) (p : Part) :
    Heeds p (writeWords sel ws k pos p).1 := by
  induction ws generalizing k pos p with
  | nil => exact .refl p
  | cons w rest ih =>
    unfold writeWords
    split
    · exact (writeWord_heeds ‹_›).trans (ih ..)
    · exact ih ..

section
variable {p q : Part}

theorem write_heeds {data : List Byte} (H : Heeds p q) : Heeds p (writeCommand data q).part := by
  have words := H.trans (writeWords_heeds q.cursor.sel (wholeWords data) q.cursor.offset 1 q)
  exact .answer H (.ite words (words.same rfl))

/-! ## RESTART (R175) -/

theorem forceClose_heeds {h : HoseNo} (H : Heeds p q) : Heeds p (forceClose h q) := by
  unfold forceClose
  refine setPendingOut_heeds ?_
  split; exacts [leaveClosing_heeds H, leaveClosing_heeds (endRequest_heeds H), H]

theorem quietTank_heeds {t : TankNo} (H : Heeds p q) : Heeds p (quietTank t q) := modPump_heeds (modTank_heeds H)

theorem closingOrders_heeds (H : Heeds p q) : Heeds p (closingOrders q) :=
  each_heeds (fun _ _ => sendRun_heeds) (each_heeds (fun _ _ => sendInlet_heeds) (each_heeds (fun _ _ => sendValve_heeds) H))

theorem resetCursor_heeds (H : Heeds p q) : Heeds p (resetCursor q) := by
  have zeroed (x : PortId) {r : Part} (K : Heeds p r) : Heeds p (modPort x (fun y => { y with count := 0 }) r) :=
    modPort_heeds K
  exact takeSelection_heeds ((zeroed .fp (zeroed .up H)).same rfl)

theorem restartEffects_heeds (H : Heeds p q) : Heeds p (restartEffects q) := by
  have ends : Heeds p (restartEnds q) := each_heeds (fun _ _ => abandonSession_heeds)
    (each_heeds (fun _ _ => restartDelivery_heeds) (each_heeds (fun _ _ => forceClose_heeds) H))
  have layUp {r : Part} (K : Heeds p r) : Heeds p { r with bayMode := .layUp } := K.same rfl
  rw [restartEffects_eq]
  exact resetCursor_heeds (closingOrders_heeds (each_heeds (fun _ _ => quietTank_heeds) (layUp (stopTest_heeds ends))))

theorem restartCommand_heeds {src : Node} (H : Heeds p q) : Heeds p (restartCommand src q) :=
  restartEffects_heeds (reply_heeds (consumeUp_heeds H))

/-! ## The PROFILE line, the ports and the timers -/

theorem profileLine_heeds {high : Bool} (H : Heeds p q) : Heeds p (profileLine high q) :=
  .ite H (.ite (switchProfile_heeds (H.same rfl)) (H.same rfl))

theorem sendEnd_heeds {port : PortId} (H : Heeds p q) : Heeds p (sendEnd port q) := by
  unfold sendEnd
  split
  · exact H
  · exact .ite ((modPort_heeds H).same rfl) (modPort_heeds H)

theorem settleExpiry_heeds {t : TankNo} (H : Heeds p q) : Heeds p (settleExpiry t q) := modTank_heeds H

theorem recoveryExpiry_heeds {z : ZoneNo} (H : Heeds p q) : Heeds p (recoveryExpiry z q) := by
  unfold recoveryExpiry; split; exacts [recoveryTest_heeds (modZone_heeds (by rfl) H), H]

theorem clockTick_heeds (H : Heeds p q) : Heeds p (clockTick q) :=
  each_heeds (fun _ _ => modZone_heeds (by rfl)) (H.same rfl)

/-! ## The commands by their rows, and the telegrams of the upstream line -/

theorem runCommand_heeds (i : Instr) (H : Heeds p q) : Heeds p (runCommand i q) := by
  cases i <;> unfold runCommand
  case window src a => exact command_heeds (fun _ => window_heeds) src H
  case stepMode src a => exact command_heeds (fun _ => stepMode_heeds) src H
  case read src a => exact command_heeds (fun _ => read_heeds) src H
  case write src d => exact command_heeds (fun _ => write_heeds) src H
  case bayMode src a => exact command_heeds (fun _ => bayMode_heeds) src H
  case profile src a => exact command_heeds (fun _ => profile_heeds) src H
  case profileSource src a => exact command_heeds (fun _ => profileSource_heeds) src H
  case clockSet src a => exact command_heeds (fun _ => clockSet_heeds) src H
  case lineRate src a => exact command_heeds (fun _ => lineRate_heeds) src H
  case counterSelect src a => exact command_heeds (fun _ => counterSelect_heeds) src H
  case counterRead src a => exact command_heeds (fun _ => counterRead_heeds) src H
  case stockSet src a => exact command_heeds (fun _ => stockSet_heeds) src H
  case deliveryStart src a => exact command_heeds (fun _ => deliveryStart_heeds) src H
  case deliveryEnd src a => exact command_heeds (fun _ => deliveryEnd_heeds) src H
  case tripZone src a => exact command_heeds (fun _ => tripZone_heeds) src H
  case tripReset src a => exact command_heeds (fun _ => tripReset_heeds) src H
  case hoseServiceOut src a => exact command_heeds (fun _ K => withArgs_heeds (fun _ => hoseService_heeds K) K) src H
  case hoseServiceIn src h => exact command_heeds (fun _ => hoseService_heeds) src H
  case tankServiceIn src t => exact command_heeds (fun _ => tankService_heeds) src H
  case tankServiceOut src a => exact command_heeds (fun _ K => withArgs_heeds (fun _ => tankService_heeds K) K) src H
  case machineStateBarred src m => exact command_heeds (fun _ => machineState_heeds) src H
  case machineStateOpen src a => exact command_heeds (fun _ K => withArgs_heeds (fun _ => machineState_heeds K) K) src H
  case serviceDone src a => exact command_heeds (fun _ => serviceDone_heeds) src H
  case take src a => exact command_heeds (fun _ => take_heeds) src H
  case noticeRead src => exact command_heeds (fun _ => noticeRead_heeds) src H
  case noticeMask src a => exact command_heeds (fun _ => noticeMask_heeds) src H
  case topNotice src => exact command_heeds (fun _ K => K) src H
  case proveStart src a => exact command_heeds (fun _ => proveStart_heeds) src H
  case proveResult src a => exact command_heeds (fun _ => proveResult_heeds) src H
  case proveEndAccept src a => exact command_heeds (fun _ K => withArgs_heeds (fun _ => proveEnd_heeds K) K) src H
  case proveEndAbandon src h => exact command_heeds (fun _ => proveEnd_heeds) src H
  case lineTestSingle src a => exact command_heeds (fun _ => lineTestStart_heeds) src H
  case lineTestContinuous src a => exact command_heeds (fun _ => lineTestStart_heeds) src H
  case lineTestRead src => exact command_heeds (fun _ K => K) src H
  case lineTestStop src a => exact command_heeds (fun _ => lineTestStop_heeds) src H
  case restart src => exact restartCommand_heeds H
  case commandUnknown src => exact command_heeds (fun _ K => K) src H
  all_goals exact H

theorem upTelegram_heeds {t : Telegram} (H : Heeds p q) : Heeds p (upTelegram t q) :=
  .ite (.ite (runCommand_heeds _ H) (consumeUp_heeds H)) (offer_heeds (modPort_heeds H))

theorem telegramEnd_heeds {x : PortId} {heard : List RxChar} (H : Heeds p q) : Heeds p (telegramEnd x heard q) := by
  unfold telegramEnd
  split
  · exact countEvent_heeds (modPort_heeds H)
  · exact countEvent_heeds (modPort_heeds H)
  · split; exacts [upTelegram_heeds H, fieldTelegram_heeds H]

end

/-! ## Every step -/

theorem outcome_heeds {f : Part → Part} (heeds : ∀ p, Heeds p (f p)) {s t : State} (same : outcome f s = .next t) :
    Heeds s.toPart t.toPart := by cases same; exact heeds _

theorem exec_heeds (i : Instr) {s t : State} (same : exec i s = .next t) : Heeds s.toPart t.toPart := by
  have command (p : Part) : Heeds p (runCommand i p) := runCommand_heeds i (.refl p)
  cases i
  case powerOn | resetLine => exact outcome_heeds (powerUp_heeds _ _ _) same
  case profileLineChange => exact outcome_heeds (fun p => profileLine_heeds (.refl p)) same
  case meterSample | levelReport | tagReport | sumpReport | estopReport | starterStatus | valveStatus | inletStatus
      | echoBack | fieldTelegramOther =>
    exact outcome_heeds (fun p => fieldTelegram_heeds (.refl p)) same
  case telegramDiscarded => exact outcome_heeds (fun p => telegramEnd_heeds (.refl p)) same
  case upTelegramOffered | upTelegramConsumed => exact outcome_heeds (fun p => upTelegram_heeds (.refl p)) same
  case idleWaitExpiry => exact outcome_heeds (f := modPort _ Port.quiet) (fun p => modPort_heeds (.refl p)) same
  case transmitStart => exact outcome_heeds (f := modPort _ Port.sendHead) (fun p => modPort_heeds (.refl p)) same
  case startBitHeard heard =>
    exact outcome_heeds (f := modPort heard.port (Port.startBit heard.data)) (fun p => modPort_heeds (.refl p)) same
  case transmitEnd => exact outcome_heeds (fun p => sendEnd_heeds (.refl p)) same
  case idleTimerExpiry => exact outcome_heeds (fun p => idleExpiry_heeds (.refl p)) same
  case pauseTimerExpiry => exact outcome_heeds (fun p => pauseExpiry_heeds (.refl p)) same
  case confirmTimerExpiry => exact outcome_heeds (fun p => confirmExpiry_heeds (.refl p)) same
  case drainWindowExpiry => exact outcome_heeds (fun p => leaveClosing_heeds (.refl p)) same
  case periodTimerExpiry => exact outcome_heeds (fun p => periodExpiry_heeds (.refl p)) same
  case settleTimerExpiry => exact outcome_heeds (fun p => settleExpiry_heeds (.refl p)) same
  case restWindowExpiry => exact outcome_heeds (fun p => restExpiry_heeds (.refl p)) same
  case recoveryTimerExpiry => exact outcome_heeds (fun p => recoveryExpiry_heeds (.refl p)) same
  case bayClockTick => exact outcome_heeds (fun p => clockTick_heeds (.refl p)) same
  case gapTimerExpiry => exact outcome_heeds (fun p => gapExpiry_heeds (.refl p)) same
  case echoWaitExpiry => exact outcome_heeds (fun p => waitExpiry_heeds (.refl p)) same
  all_goals exact outcome_heeds command same

theorem step_heeds {s t : State} (same : step s = .next t) : Heeds s.toPart t.toPart := by
  unfold step at same
  split at same
  · cases same; exact .refl _
  · rename_i rest _
    exact exec_heeds (s := { s with pending := rest }) _ same

/-- Settles O5: every operation heeds the zones, and a step is one. -/
theorem linesAndTripNoticesFollowTheZones : Obligations.LinesAndTripNoticesFollowTheZones :=
  ⟨fun _ _ follow took => (step_heeds took).lines follow, fun _ _ pend took z => (step_heeds took).trips z (pend z)⟩

end Sys2Proof.Machine
end

section
/-! The resets (R110), the reset state's promises, and the commands of notices (R164, R165). -/

namespace Sys2Proof.Machine

open Sys2Proof

/-! ## The resets -/

theorem strapNode_eq (straps : Node) :
    strapNode straps = if straps = 0 ∨ straps = 63 then 62 else straps := by
  unfold strapNode; simp

/-- Settles O3: the four notices of the trips, each raised in its turn, leave the last ATTENTION alone on the queue. -/
theorem powerOnAndTheResetLineRestoreEveryBlock : Obligations.PowerOnAndTheResetLineRestoreEveryBlock := by
  have started (straps : Node) (rate : BitVec 2) (high : Bool) (s : State) : exec (.powerOn straps rate high) s =
      .next { s with toPart := Part.started (strapNode straps) rate high s.freeUses 0x000F
                                 [firstAttention (strapNode straps)] } :=
    congrArg Host.Outcome.next (congrArg (fun p => { s with toPart := p }) (powerUp_eq straps rate high s.toPart))
  have line (straps : Node) (rate : BitVec 2) (high : Bool) (s : State) :
      exec (.resetLine straps rate high) s = exec (.powerOn straps rate high) s := rfl
  have noticed : ∀ z, (Notice.trip z).isIn 0x000F = true := by decide
  refine ⟨fun straps rate high s => ?_, fun straps rate high s => ⟨_, started straps rate high s, ?_⟩⟩
  · dsimp only
    rw [line, ← strapNode_eq]
    exact ⟨started straps rate high s, started straps rate high s⟩
  · refine ⟨(line ..).trans (started straps rate high s), fun z => ⟨started_zone .., noticed z⟩, rfl, rfl,
      fun n => ?_, rfl, rfl⟩
    dsimp only
    rw [started_device]
    exact ⟨rfl, rfl, rfl⟩

/-! ## The promises of the reset state -/

/-- The part of the reset state is the one that power-on leaves. -/
theorem reset_eq_started : State.reset.toPart = Part.started 62 0 false 0 0x000F [firstAttention 62] := rfl

theorem reset_hose (h : HoseNo) : State.reset.hose h = Hose.atReset := nth_fill ..
theorem reset_tank (t : TankNo) : State.reset.tank t = Tank.atReset := nth_fill ..
theorem reset_pump (t : TankNo) : State.reset.pump t = ⟨0, false⟩ := nth_fill ..
theorem reset_device (n : DevNo) : State.reset.device n = Device.atReset := nth_fill ..
theorem reset_machine (m : SlotNo) : State.reset.machine m = MachineRec.empty := nth_fill ..

theorem reset_queuesFit : State.reset.toPart.QueuesFit := ⟨(by decide : 1 ≤ 32), (by decide : 0 ≤ 32)⟩

theorem reset_thinInside : State.reset.toPart.ThinInside := fun r => by
  have rule : nth State.reset.rules r = PassRule.atReset := nth_fill ..
  rw [rule]; exact rfl

theorem reset_devicesScored : State.reset.toPart.DevicesScored := fun n => by
  rw [reset_device]
  exact ⟨by decide, fun _ => ⟨rfl, rfl⟩, fun _ => by decide, nofun, nofun⟩

theorem reset_booksBalance : State.reset.toPart.BooksBalance := fun t => by rw [reset_tank]; rfl

theorem reset_recordsFit : State.reset.toPart.RecordsFit := by
  refine ⟨?_, by decide, fun t => ?_, fun h => ?_⟩
  · rw [promised_eq]
    simp only [reset_hose, reset_tank]
    simp [Hose.atReset, Tank.atReset, HoseMode.promised, Tank.promised]
    rfl
  · rw [reset_tank]; exact ⟨nofun, nofun⟩
  · rw [reset_hose]; trivial

theorem reset_machinesAgree : State.reset.toPart.MachinesAgree := fun m h => by
  rw [reset_machine, reset_hose]; exact ⟨nofun, nofun⟩

theorem reset_pumpsAgree : State.reset.toPart.PumpsAgree := fun t => by
  simp only [reset_pump, reset_hose]; rfl

theorem reset_openHosesAgree : State.reset.toPart.OpenHosesAgree := fun t => by
  simp only [reset_tank, reset_hose]; rfl

/-- The ATTENTION that waits is barred in no zone. -/
theorem reset_ordersHeld : State.reset.toPart.OrdersHeld := by
  rw [ordersHeld_iff]
  rintro u ((own | forwarded) | (own | forwarded))
  · rw [List.mem_singleton.1 own]; exact harmless_of_kind (by decide) (by decide) _
  all_goals contradiction

/-- Settles O4: nothing is open, bound or promised after a reset, and all its zones are TRIPPED, with their notices. -/
theorem theResetStateIsSafe : Obligations.TheResetStateIsSafe := by
  obtain ⟨lines, notices⟩ := started_heeded 62 0 false 0 [firstAttention 62]
  have out (h : HoseNo) : (State.reset.hose h).mode = .out := by rw [reset_hose]; rfl
  refine ⟨⟨lines, notices, reset_queuesFit, (by decide : 0 < 29), reset_thinInside, reset_devicesScored,
    reset_booksBalance, reset_recordsFit, reset_machinesAgree, reset_pumpsAgree, reset_openHosesAgree,
    fun h ph txn m => ?_, fun t _ => ?_,
    fun h z _ _ => ?_, reset_ordersHeld, fun h ph txn m => ?_⟩, fun s uses pending => ?_⟩
  · rw [out] at m; cases m
  · rw [reset_tank]; rfl
  · rw [out]; exact ⟨rfl, rfl⟩
  · rw [out] at m; cases m
  · obtain ⟨p, waiting⟩ := s
    have up : powerUp 0 0 false p = State.reset.toPart := by
      rw [powerUp_eq, show p.freeUses = 0 from uses]; rfl
    cases (show waiting = [] from pending)
    show Host.Outcome.next (State.mk (powerUp 0 0 false p) []) = _
    rw [up]; rfl

/-! ## The commands of notices -/

/-- Settles O45: the notices kept are those of the TRIPPED zones, bit by bit. -/
theorem noticesAreReadAndMasked : Obligations.NoticesAreReadAndMasked := by
  intro src w s
  refine ⟨⟨s.pendingNotices &&& s.keptNotices, outcome_command rfl, fun z => ?_, fun i above => ?_⟩,
    outcome_command rfl⟩
  · rw [← trip_isIn_keptNotices]; exact BitVec.getLsbD_and
  · rw [BitVec.getLsbD_and, keptNotices_above _ above, Bool.and_false]

end Sys2Proof.Machine
end

section
/-! Trips by command (R97, R100), their reset (R103, R104), recovery with its clock (R105, R173), and the sensors' reports
(R94, R95). -/

namespace Sys2Proof.Machine

open Sys2Proof

/-! ## A source for a TRIPPED zone (R100) -/

/-- Settles O40: the source only counts. -/
theorem aSourceInATrippedZoneOnlyCounts : Obligations.ASourceInATrippedZoneOnlyCounts :=
  fun c _ _ was => tripSource_again was c

/-! ## TRIP_ZONE (R97) -/

theorem tripZoneCommand_all (p : Part) : tripZoneCommand (some 0) p = done (tripAll .command p) := rfl

theorem tripZoneCommand_one {b : Byte} (z : ZoneNo) (number : b.toNat = z.val + 1) (p : Part) :
    tripZoneCommand (some b) p = done (tripSource .command z p) := by
  have one : b ≠ 0 := by rintro rfl; simp at number
  unfold tripZoneCommand
  rw [withArgs_some, if_neg one, withIndex_of z number]

theorem tripZoneCommand_bad {b : Byte} (above : 4 < b.toNat) (p : Part) :
    tripZoneCommand (some b) p = ⟨p, .badIndex, []⟩ := by
  have one : b ≠ 0 := by rintro rfl; simp at above
  unfold tripZoneCommand
  rw [withArgs_some, if_neg one, withIndex_bad (.inr above)]

/-- Settles O41: the command is its source, taken for one zone or for each of the four. -/
theorem tripZoneRaisesTheCommandSource : Obligations.TripZoneRaisesTheCommandSource := by
  intro src b s
  have one (z : ZoneNo) (number : b.toNat = z.val + 1) : exec (.tripZone src (some b)) s =
      .next (s.answered src .done [] (tripSource .command z)) := outcome_command (tripZoneCommand_one z number _)
  refine ⟨fun all => ?_, one, fun z number was => ⟨_, one z number, ?_⟩,
    fun above => outcome_command (tripZoneCommand_bad above _)⟩
  · subst all; exact outcome_command (by rw [tripZoneCommand_all, tripAll_eq]; rfl)
  · show (reply src .done [] (tripSource .command z (consumeUp s.toPart))).zone z = _
    rw [reply_zone, tripSource_again (by rw [consumeUp_zone]; exact was), modZone_zone_same, consumeUp_zone]
    rfl

/-! ## What blocks a reset (R103) -/

theorem any_devices (p : Part) (f : Device → Bool) : p.devices.toList.any f = true ↔ ∃ n, f (p.device n) = true := by
  rw [List.any_eq_true]
  constructor
  · rintro ⟨d, mem, blocks⟩
    obtain ⟨i, hi, rfl⟩ := List.getElem_of_mem mem
    exact ⟨⟨i, by simpa using hi⟩, by simpa [Part.device, nth] using blocks⟩
  · rintro ⟨n, blocks⟩
    exact ⟨p.device n, by simp [Part.device, nth], blocks⟩

/-- A sensor that blocks the reset of a zone: a wet or LOST sump of it, or a pressed or LOST station of it or of all. -/
theorem sensorBlocks_iff (p : Part) (z : ZoneNo) (d : Device) : p.sensorBlocks z d = true ↔
    (d.binding = .sump z ∧ d.wet = true) ∨
    ((d.binding = .estop (some z) ∨ d.binding = .estop none) ∧ (d.pressed = true ∨ d.health = .lost)) ∨
    (d.binding = .sump z ∧ d.health = .lost ∧ (p.zone z).sensorTrips = true) := by
  unfold Part.sensorBlocks
  cases bound : d.binding with
  | sump y => simp; tauto
  | estop y => cases y <;> simp
  | _ => simp

theorem resetBlocked_iff (p : Part) (z : ZoneNo) : p.resetBlocked z = true ↔ p.ResetBlocked z := by
  have closing : (p.zoneHoses z).any (fun h => (p.hose h).mode.isClosing) = true ↔
      ∃ h, p.hoseZone h = some z ∧ (p.hose h).mode.isClosing = true := by
    simp only [List.any_eq_true, mem_zoneHoses]
  unfold Part.resetBlocked Part.ResetBlocked
  rw [Bool.or_eq_true, any_devices, closing]
  simp only [sensorBlocks_iff, exists_or, or_assoc]

/-! ## Entry to RECOVERY (R104) -/

theorem Port.mem_queueOrder_own {t u : Telegram} {q : Port} (mem : u ∈ (q.queueOrder t).own) : u ∈ q.own ∨ u = t := by
  have kept {v : Telegram} (mem : v ∈ q.own.filter fun u => !sameOrder t u) : v ∈ q.own := (List.mem_filter.1 mem).1
  unfold Port.queueOrder at mem
  obtain ⟨-, e⟩ | ⟨-, -, e⟩ | ⟨-, -, e⟩ := Port.placeOwn_cases t
    { q with own := q.own.filter fun u => !sameOrder t u,
             forwarded := q.forwarded.filter fun u => !(sameOrder t u || sameToAll t u) } <;> rw [e] at mem
  · exact (List.mem_append.1 mem).imp kept List.mem_singleton.1
  · rw [Port.counted_own] at mem; exact .inl (kept mem)
  · rw [Port.counted_own] at mem; exact (List.mem_append.1 mem).imp kept List.mem_singleton.1

theorem Port.mem_queueOrders_own {us : List Telegram} {u : Telegram} {q : Port}
    (mem : u ∈ (us.foldl (fun x v => x.queueOrder v) q).own) : u ∈ q.own ∨ u ∈ us := by
  induction us generalizing q with
  | nil => exact .inl mem
  | cons t us ih =>
    obtain own | later := ih mem
    · exact (Port.mem_queueOrder_own own).imp_right fun e => by rw [e]; exact List.mem_cons_self
    · exact .inr (List.mem_cons_of_mem _ later)

/-- The record of a zone that enters RECOVERY. -/
def Zone.recovering (x : Zone) : Zone := { x with state := .recovery, timer := .running 30, marks := 0 }

theorem enterRecovery_eq (z : ZoneNo) (p : Part) : enterRecovery z p =
    sendAll (p.ordersTo kindLamp lampOff ((p.zoneHoses z).map .reader)) (syncLines (modZone z Zone.recovering p)) := by
  have lamps (q : Part) := each_orderTo kindLamp lampOff .reader (p.zoneHoses z) q
  exact lamps (syncLines (modZone z Zone.recovering p))

section enterRecovery
variable (z : ZoneNo) (p : Part)

theorem enterRecovery_zone_same : (enterRecovery z p).zone z = (p.zone z).recovering := by
  rw [enterRecovery_eq, sendAll_zone, syncLines_zone, modZone_zone_same]

theorem enterRecovery_zone_other {y : ZoneNo} (ne : y ≠ z) : (enterRecovery z p).zone y = p.zone y := by
  rw [enterRecovery_eq, sendAll_zone, syncLines_zone, modZone_zone, if_neg ne.symm]

theorem enterRecovery_lines : (enterRecovery z p).LinesFollow := by
  rw [enterRecovery_eq]; exact syncLines_linesFollow (modZone z Zone.recovering p)

theorem enterRecovery_bayAlarm : (enterRecovery z p).bayAlarm = true :=
  (enterRecovery_lines z p).2.2 (.inl ⟨z, by rw [enterRecovery_zone_same]; exact nofun⟩)

theorem enterRecovery_shutdown :
    (enterRecovery z p).shutdown = true ↔ ∃ y, y ≠ z ∧ (p.zone y).state = .tripped := by
  refine (enterRecovery_lines z p).1.trans ⟨fun ⟨y, tripped⟩ => ?_, fun ⟨y, ne, tripped⟩ => ⟨y, ?_⟩⟩
  · have ne : y ≠ z := by rintro rfl; rw [enterRecovery_zone_same] at tripped; cases tripped
    exact ⟨y, ne, by rw [← enterRecovery_zone_other z p ne]; exact tripped⟩
  · rw [enterRecovery_zone_other z p ne]; exact tripped

/-- The LAMP off telegrams of a reset, to the bound readers of the zone by hose number. -/
theorem enterRecovery_fp : (enterRecovery z p).fp =
    (((p.zoneHoses z).filterMap fun h => p.boundNode (.reader h)).map fun n => orderTelegram kindLamp n [lampOff]).foldl
      (fun x u => x.queueOrder u) p.fp := by
  have lamps : p.ordersTo kindLamp lampOff ((p.zoneHoses z).map .reader) =
      ((p.zoneHoses z).filterMap fun h => p.boundNode (.reader h)).map fun n => orderTelegram kindLamp n [lampOff] := by
    unfold Part.ordersTo; rw [List.filterMap_map, List.map_filterMap]; rfl
  rw [enterRecovery_eq, sendAll_fp, lamps]
  rfl

theorem enterRecovery_fp_own {u : Telegram} (mem : u ∈ (enterRecovery z p).fp.own) :
    u ∈ p.fp.own ∨ u.kind = kindLamp ∧ u.payload = [lampOff] := by
  rw [enterRecovery_fp] at mem
  refine (Port.mem_queueOrders_own mem).imp_right fun lamp => ?_
  obtain ⟨n, -, rfl⟩ := List.mem_map.1 lamp
  exact ⟨rfl, rfl⟩

theorem enterRecovery_frame : enterRecovery z p = { p with
    zones := (enterRecovery z p).zones, shutdown := (enterRecovery z p).shutdown,
    bayAlarm := (enterRecovery z p).bayAlarm, fp := (enterRecovery z p).fp } := by
  rw [enterRecovery_eq]; rfl

end enterRecovery

/-! ## TRIP_RESET (R103) -/

theorem tripResetCommand_of {b : Byte} (z : ZoneNo) (number : b.toNat = z.val + 1) (p : Part) :
    tripResetCommand (some b) p = if (p.zone z).state ≠ .tripped then done p
      else if p.resetBlocked z then refuse .causePresent p else done (enterRecovery z p) := by
  unfold tripResetCommand; rw [withArgs_some, withIndex_of z number]

theorem consumeUp_resetBlocked (p : Part) (z : ZoneNo) : (consumeUp p).resetBlocked z = p.resetBlocked z := rfl

/-- Settles O42: the checks in their order, and the entry to RECOVERY. -/
theorem tripResetAsksForRecovery : Obligations.TripResetAsksForRecovery := by
  refine ⟨fun src b s => ⟨fun bad => outcome_command ?_, fun z number => ⟨fun not => outcome_command ?_,
    fun was blocked => outcome_command ?_, fun was free => outcome_command ?_⟩⟩,
    fun z p => ⟨enterRecovery_zone_same z p, fun y => enterRecovery_zone_other z p, enterRecovery_bayAlarm z p,
      enterRecovery_shutdown z p, (enterRecovery_fp z p).trans List.foldl_map,
    fun u => enterRecovery_fp_own z p, enterRecovery_frame z p⟩⟩
  · unfold tripResetCommand; rw [withArgs_some, withIndex_bad (bad.imp_left fun e => by rw [e]; rfl)]; rfl
  · rw [tripResetCommand_of z number, if_pos (by rw [consumeUp_zone]; exact not)]; rfl
  · rw [tripResetCommand_of z number, if_neg (by rw [consumeUp_zone]; exact not_not.2 was),
      consumeUp_resetBlocked, if_pos ((resetBlocked_iff s.toPart z).2 blocked)]
    rfl
  · rw [tripResetCommand_of z number, if_neg (by rw [consumeUp_zone]; exact not_not.2 was),
      consumeUp_resetBlocked, if_neg fun blocked => free ((resetBlocked_iff s.toPart z).1 blocked)]
    rfl

/-! ## Recovery and the bay clock (R105, R173) -/

theorem recoveryExpiry_of_running {z : ZoneNo} {p : Part} {n : Nat} (running : (p.zone z).timer = .running n) :
    recoveryExpiry z p = recoveryTest z (modZone z (fun x => { x with timer := .expired }) p) := by
  unfold recoveryExpiry; rw [running]

theorem modZone_marksComplete {z : ZoneNo} {f : Zone → Zone} {p : Part} (marks : (f (p.zone z)).marks = (p.zone z).marks) :
    (modZone z f p).marksComplete z = p.marksComplete z := by
  unfold Part.marksComplete
  rw [modZone_zone_same, marks]; rfl

/-- The timer's expiry takes a zone in RECOVERY to NORMAL where each of its tanks in service is marked. -/
theorem recoveryExpiry_passed {z : ZoneNo} {p : Part} {n : Nat} (running : (p.zone z).timer = .running n)
    (state : (p.zone z).state = .recovery) (marks : p.marksComplete z = true) : recoveryExpiry z p = syncLines
      (modZone z (fun x => { x with state := .normal, causes := 0, marks := 0, timer := .expired }) p) := by
  rw [recoveryExpiry_of_running running, recoveryTest_passed (by rw [modZone_zone_same]; exact state)
    (by rw [modZone_zone_same]) (by rw [modZone_marksComplete rfl]; exact marks), modZone_modZone]

theorem recoveryExpiry_failed {z : ZoneNo} {p : Part} {n : Nat} (running : (p.zone z).timer = .running n)
    (marks : p.marksComplete z = false) : recoveryExpiry z p = modZone z (fun x => { x with timer := .expired }) p := by
  rw [recoveryExpiry_of_running running, recoveryTest_failed]
  rintro ⟨-, -, complete⟩
  rw [modZone_marksComplete rfl, marks] at complete
  cases complete

theorem recoveryExpiry_of_other {z : ZoneNo} {p : Part} (off : (p.zone z).timer = .stopped ∨ (p.zone z).timer = .expired) :
    recoveryExpiry z p = p := by
  unfold recoveryExpiry; obtain e | e := off <;> rw [e]

theorem each_modZone_frame (zs : List ZoneNo) (f : Zone → Zone) (p : Part) :
    each zs (fun z => modZone z f) p = { p with zones := (each zs (fun z => modZone z f) p).zones } := by
  induction zs generalizing p with
  | nil => rfl
  | cons z zs ih => rw [each_cons, ih]; rfl

/-- A tick moves the clock and the zones alone. -/
theorem clockTick_frame (p : Part) : clockTick p = { p with clock := p.clock + 1, zones := (clockTick p).zones } :=
  each_modZone_frame zoneNos Zone.second { p with clock := p.clock + 1 }

theorem clockTick_zone (p : Part) (z : ZoneNo) : (clockTick p).zone z = (p.zone z).second := by
  have nodup : zoneNos.Nodup := by decide
  exact each_member nodup (mem_zoneNos z) (·.zone z) (g := Zone.second) (fun _ => modZone_zone_same ..)
    (fun y ne _ => by rw [modZone_zone, if_neg ne]) { p with clock := p.clock + 1 }

/-- A second of the recovery timers is one of each that runs, down to its last. -/
theorem clockTick_timers (s : State) : ∃ t : State, exec .bayClockTick s = .next t ∧ t.clock = s.clock + 1 ∧
    t.clockUnset = s.clockUnset ∧ (∀ z, t.zone z = (s.zone z).second) ∧
      t = { s with clock := t.clock, zones := t.zones } := by
  obtain ⟨zones, ticked⟩ : ∃ v, clockTick s.toPart = { s.toPart with clock := s.clock + 1, zones := v } :=
    ⟨_, clockTick_frame s.toPart⟩
  refine ⟨{ s with clock := s.clock + 1, zones := zones }, ?_, rfl, rfl, fun z => ?_, rfl⟩
  · exact congrArg (fun p => Host.Outcome.next { s with toPart := p }) ticked
  · rw [← clockTick_zone s.toPart z, ticked]

theorem Zone.second_of_running {x : Zone} {n : Nat} (running : x.timer = .running n) :
    x.second = { x with timer := .running (if n ≤ 1 then 1 else n - 1) } := by
  have left : max 1 (n - 1) = if n ≤ 1 then 1 else n - 1 := by split <;> omega
  unfold Zone.second
  rw [running, ← left]

theorem Zone.second_of_still {x : Zone} (still : ∀ n, x.timer ≠ .running n) : x.second = x := by
  unfold Zone.second
  split
  · exact absurd ‹_› (still _)
  · rfl

/-- Settles O38: the recovery test at the timer's expiry, and each zone's second of a tick. -/
theorem recoveryTimersAndTheBayClockCount : Obligations.RecoveryTimersAndTheBayClockCount := by
  have expiry {z : ZoneNo} {s : State} {f : Part → Part} (e : recoveryExpiry z s.toPart = f s.toPart) :
      exec (.recoveryTimerExpiry z) s = .next (s.on f) := congrArg Host.Outcome.next (State.on_congr e)
  refine ⟨fun z s => ⟨fun n running state marked => ?_, fun n k running own service unmarked => ?_, fun off => ?_⟩,
    fun s => ?_⟩
  · exact expiry (recoveryExpiry_passed running state ((marksComplete_iff ..).2 marked))
  · refine expiry (recoveryExpiry_failed running (Bool.eq_false_iff.2 fun complete => ?_))
    rw [(marksComplete_iff ..).1 complete k own service] at unmarked
    cases unmarked
  · exact (expiry (f := id) (recoveryExpiry_of_other off)).trans (congrArg _ (State.on_self rfl))
  · obtain ⟨t, took, clock, unset, zone, frame⟩ := clockTick_timers s
    exact ⟨t, took, clock, unset, fun z n running => (zone z).trans (Zone.second_of_running running),
      fun z still => (zone z).trans (Zone.second_of_still still), frame⟩

/-! ## Sump sensors and stop stations (R94, R95) -/

theorem readSensor_cons (b : Byte) (rest : List Byte) :
    readSensor (b :: rest) = if b = 0 then some false else if b = 1 then some true else none := rfl

theorem handTelegram_sump {n : DevNo} {p : Part} (d : List Byte) {z : ZoneNo} (b : (p.device n).binding = .sump z) :
    handTelegram n d p = takeSump n z d p := by unfold handTelegram; simp only [b]
theorem handTelegram_estop {n : DevNo} {p : Part} (d : List Byte) {z : Option ZoneNo} (b : (p.device n).binding = .estop z) :
    handTelegram n d p = takeEstop n z d p := by unfold handTelegram; simp only [b]

theorem heard_sensors (p : Part) (n : DevNo) (kind : Byte) :
    ((p.heard n kind).device n).wet = (p.device n).wet ∧ ((p.heard n kind).device n).pressed = (p.device n).pressed := by
  unfold Part.heard; rw [modDevice_device_same]; exact ⟨rfl, rfl⟩

theorem takeSump_cons (n : DevNo) (z : ZoneNo) (b : Byte) (rest : List Byte) (p : Part) : takeSump n z (b :: rest) p =
    if b = 0 then modDevice n (fun d => { d with wet := false }) p
    else if b = 1 then
      let q := modDevice n (fun d => { d with wet := true }) p
      if (p.device n).wet then q else tripSource .sumpWet z q
    else p := by
  unfold takeSump
  rw [readSensor_cons]
  by_cases dry : b = 0
  · rw [if_pos dry, if_pos dry]; rfl
  · rw [if_neg dry, if_neg dry]
    by_cases wet : b = 1
    · rw [if_pos wet, if_pos wet]
      cases (p.device n).wet <;> rfl
    · rw [if_neg wet, if_neg wet]

theorem takeEstop_cons (n : DevNo) (z : Option ZoneNo) (b : Byte) (rest : List Byte) (p : Part) :
    takeEstop n z (b :: rest) p =
    if b = 0 then modDevice n (fun d => { d with pressed := false }) p
    else if b = 1 then
      let q := modDevice n (fun d => { d with pressed := true }) p
      if (p.device n).pressed then q else tripFor .estop z q
    else p := by
  unfold takeEstop
  rw [readSensor_cons]
  by_cases released : b = 0
  · rw [if_pos released, if_pos released]; rfl
  · rw [if_neg released, if_neg released]
    by_cases pressed : b = 1
    · rw [if_pos pressed, if_pos pressed]
      cases (p.device n).pressed <;> rfl
    · rw [if_neg pressed, if_neg pressed]

/-- Settles O25: each report is its owner's effect on the scored part, which has left the last report as it was. -/
theorem sumpAndEstopReportsTripOnTheirChange : Obligations.SumpAndEstopReportsTripOnTheirChange := by
  refine ⟨fun head n z b rest s hn hears => outcome_told hn hears rfl ?_,
    fun head n z b rest s hn hears => outcome_told hn hears rfl ?_, fun head n s hn =>
      ⟨fun z hears => outcome_told hn hears rfl ?_, fun z hears => outcome_told hn hears rfl ?_⟩⟩
  · rw [handTelegram_sump _ (by rw [heard_binding, hears.1]), takeSump_cons, (heard_sensors ..).1]
  · rw [handTelegram_estop _ (by rw [heard_binding, hears.1]), takeEstop_cons, (heard_sensors ..).2]
    cases z with
    | none => simp only [tripFor, tripAll_eq]
    | some z => rfl
  · exact handTelegram_sump _ (by rw [heard_binding, hears.1])
  · exact handTelegram_estop _ (by rw [heard_binding, hears.1])

end Sys2Proof.Machine
end
